-- ==== Sys2Proof/Word.lean ====
section
/-! DEFINITION. The word types of the Slolon (00 R4): bytes, 32-bit and 64-bit registers, the 256-bit bundle's
64-bit slots. Addresses while they are computed are 64-bit words reduced modulo 2^48; the key of a memory cell is a Nat. -/

namespace Sys2Proof

/-- One byte (00 R4). -/
abbrev Byte := BitVec 8
/-- A 16-bit field. -/
abbrev W16 := BitVec 16
/-- A 32-bit register or token count (00 R5). -/
abbrev W32 := BitVec 32
/-- A 48-bit field: a device physical address, an immediate of form L. -/
abbrev W48 := BitVec 48
/-- A 64-bit register, scalar register or slot word (00 R5, 07 R174). -/
abbrev W64 := BitVec 64
/-- A 128-bit window register (03 Window Wn). -/
abbrev W128 := BitVec 128

/-- A logical core ID (01 R12). -/
abbrev CoreId := Fin 512
/-- A local context number (01 R12; 80-127 are invalid under R13). -/
abbrev CtxId := Fin 80
/-- A local queue number (01 R12). -/
abbrev QueueId := Fin 64
/-- One of the four command queues of an engine (03 R65: engine e owns queues 4e to 4e + 3). -/
abbrev EngQueue := Fin 4
/-- A fabric port (01 R12). -/
abbrev PortId := Fin 24
/-- A scalar register number. -/
abbrev SRegId := Fin 32
/-- A sync token number (01 R12). -/
abbrev TokenId := Fin 256
/-- A die (01 R12). -/
abbrev DieId := Fin 4
/-- A stack, its controller and its codec (01 R12). -/
abbrev StackId := Fin 8
/-- A cluster (01 R12). -/
abbrev ClusterId := Fin 64
/-- A long-haul port (01 R12). -/
abbrev LhpId := Fin 2
/-- A site of the exchange group (01 R12). -/
abbrev SiteId := Fin 64

end Sys2Proof
end

