-- ==== Sys2Proof/Syntax.lean ====
section
/-! DEFINITION. The commands of the Slolon block (one constructor per row of spec/opcode_table.json): the steps of the
part, each whole and indivisible (spec/95). Operands name the unit, context, queue, port or register the step acts
on, and what the outside world supplies with it (a written value, a received frame, a sensor reading). -/

namespace Sys2Proof

/-- The access paths of registers (18 R452, R453). -/
inductive Path where
  /-- The host through BAR0 (01 R22). -/
  | host
  /-- Bulk data port channel `n` in WINDOW mode (08 R204). -/
  | bdp (n : Fin 8)
  /-- The SMBus command set (17 R448). -/
  | smbus
  /-- The DBGACC instruction of the TAP (16 R425). -/
  | jtag
  /-- The management controller's firmware. -/
  | mgc
  /-- A context's slot B and engine accesses. -/
  | ctx (core : CoreId) (c : CtxId)
  deriving DecidableEq, Repr

/-- A link frame as Table 10.2 lays out its header, with its payload and the ACK of its trailer (10 R265). -/
structure Frame where
  /-- TYPE of Table 10.3. -/
  typ : BitVec 4
  /-- Virtual channel. -/
  vc : BitVec 2
  /-- LASTF: the last frame of a transfer or message. -/
  lastf : Bool
  /-- LSEQ, the link sequence number. -/
  lseq : W16
  /-- SRC, the originating device. -/
  src : BitVec 9
  /-- DST, the destination device. -/
  dst : BitVec 9
  /-- XID: transfer ID, read tag, tree fields or receiving queue. -/
  xid : W32
  /-- OFF: offset, first block, length, status or sending queue. -/
  off : W32
  /-- ADDR, a DPA. -/
  addr : W48
  /-- STEP: CHR_STEP[31:0] of the sender. -/
  step : W32
  /-- TV: bump a token at the destination. -/
  tv : Bool
  /-- CORE of that token. -/
  core : BitVec 9
  /-- TOKEN number. -/
  token : Byte
  /-- ACK of the trailer. -/
  ack : W16
  /-- The payload; its length is LEN x 32 B. -/
  payload : List Byte
  /-- The reserved bits of the header and of trailer bytes 2 and 3, in ascending order. -/
  rsv : W64 := 0
  /-- The CRC-32 of the trailer, as it stands on the link. -/
  crc : W32 := 0
  /-- Not on the link: a byte of the frame in a buffer of this device has a wrong parity bit (08 R200; 10 R266). -/
  bad : Bool := false
  deriving DecidableEq, Repr

/-- What the supply monitors see (15 R400, R401). -/
structure Supply where
  /-- PWR_WARN_N has been low for 1 us. -/
  warnLow : Bool
  /-- PWR_FAIL_N has been low for 200 ns. -/
  failLow : Bool
  /-- Levels in mV that monitors 0 onwards read; a monitor beyond the list gives no new reading. -/
  rails : List W16
  deriving DecidableEq, Repr

/-- What stands around the Lular header of a long-haul frame: its Ethernet, IPv6 and UDP headers (12 Table 12.1). -/
structure LulEnvelope where
  /-- Destination and source MAC, the first octet on the wire in bits [47:40]. -/
  dstMac : BitVec 48 := 0
  srcMac : BitVec 48 := 0
  /-- The control information of an 802.1Q tag, where the frame has one (EtherType 0x8100 before it). -/
  tag : Option W16 := none
  /-- The EtherType, after a tag. -/
  etherType : W16 := 0
  /-- IPv6: version, traffic class, flow label; payload length; next header; hop limit. -/
  ipVersion : BitVec 4 := 0
  tclass : Byte := 0
  flow : BitVec 20 := 0
  ipLen : W16 := 0
  nextHeader : Byte := 0
  hopLimit : Byte := 0
  /-- IPv6 addresses, the first byte on the wire in bits [7:0], as LUL_SRCIP and LUL_PEER hold them. -/
  srcIp : BitVec 128 := 0
  dstIp : BitVec 128 := 0
  /-- UDP: ports, length and checksum. -/
  srcPort : W16 := 0
  dstPort : W16 := 0
  udpLen : W16 := 0
  udpSum : W16 := 0
  deriving DecidableEq, Repr

/-- A Lular frame: the headers of Table 12.1, the header of Table 12.2, the payload and the Lular CRC (12 R311). -/
structure LulFrame where
  /-- Ethernet, IPv6 and UDP headers. -/
  env : LulEnvelope
  /-- The reserved bits of Table 12.2, in ascending order. -/
  rsv : BitVec 40
  /-- The Lular CRC. -/
  crc : W32
  /-- VER. -/
  ver : BitVec 4
  /-- TYPE of Table 12.3. -/
  typ : BitVec 4
  /-- JOINED: the sender's site has joined the group. -/
  joined : Bool
  /-- REFORM: DATA of a re-formed round. -/
  reform : Bool
  /-- SRCSITE. -/
  srcSite : BitVec 6
  /-- DSTSITE. -/
  dstSite : BitVec 6
  /-- DEV, the device ID at both ends. -/
  dev : BitVec 9
  /-- NSHARD, shard records in the round. -/
  nshard : BitVec 9
  /-- ROUND. -/
  round : W32
  /-- SEQ, frame index within the payload. -/
  seq : W32
  /-- NFRAMES. -/
  nframes : W32
  /-- STEP: the send step, or the sender's CHR_STEP. -/
  step : W64
  /-- DPROP: the sender's D (12 R322). -/
  dprop : W16
  /-- TXTIME: TAI nanoseconds at egress. -/
  txtime : W64
  /-- TERR: the sender's TIM_TERR. -/
  terr : W32
  /-- SINCE: steps since the sender's last merge. -/
  since : W32
  /-- The payload. -/
  payload : List Byte
  deriving DecidableEq, Repr

/-- The commands of the block, one constructor per row of spec/opcode_table.json: the rows with operands in the
table's order, then the rows without. -/
inductive Instr where
  /-- BUNDLE_ISSUE (R52): The sequencer selects a READY context, fetches its bundle, checks it and issues it as a whole, or records the first exception. -/
  | bundleIssue (core : CoreId)
  /-- GATE_REEVALUATE (R182): A WAITING context is woken to READY once every gate its bundle carries is open, or it raises QCLASS on a disabled queue. -/
  | gateReevaluate (core : CoreId) (ctx : CtxId)
  /-- NOP (R174): A scalar or engine NOP does nothing. -/
  | nop (core : CoreId) (ctx : CtxId)
  /-- ADD (R178): Sets S[d] to S[a] + S[b] modulo 2^64. -/
  | add (core : CoreId) (ctx : CtxId) (d a b : SRegId)
  /-- SUB (R178): Sets S[d] to S[a] - S[b] modulo 2^64. -/
  | sub (core : CoreId) (ctx : CtxId) (d a b : SRegId)
  /-- MUL (R178): Sets S[d] to the low 64 bits of the product. -/
  | mul (core : CoreId) (ctx : CtxId) (d a b : SRegId)
  /-- MULH (R178): Sets S[d] to the high 64 bits of the signed 128-bit product. -/
  | mulh (core : CoreId) (ctx : CtxId) (d a b : SRegId)
  /-- DIV (R179): Sets S[d] to the signed quotient, with the defined result on division by zero and on overflow. -/
  | div (core : CoreId) (ctx : CtxId) (d a b : SRegId)
  /-- REM (R179): Sets S[d] to the signed remainder. -/
  | rem (core : CoreId) (ctx : CtxId) (d a b : SRegId)
  /-- DIVU (R179): Sets S[d] to the unsigned quotient. -/
  | divu (core : CoreId) (ctx : CtxId) (d a b : SRegId)
  /-- REMU (R179): Sets S[d] to the unsigned remainder. -/
  | remu (core : CoreId) (ctx : CtxId) (d a b : SRegId)
  /-- AND (R178): Sets S[d] to the bitwise AND of S[a] and S[b]. -/
  | andOp (core : CoreId) (ctx : CtxId) (d a b : SRegId)
  /-- OR (R178): Sets S[d] to the bitwise OR of S[a] and S[b]. -/
  | orOp (core : CoreId) (ctx : CtxId) (d a b : SRegId)
  /-- XOR (R178): Sets S[d] to the bitwise XOR of S[a] and S[b]. -/
  | xorOp (core : CoreId) (ctx : CtxId) (d a b : SRegId)
  /-- SHL (R178): Sets S[d] to S[a] shifted left by S[b][5:0]. -/
  | shl (core : CoreId) (ctx : CtxId) (d a b : SRegId)
  /-- SHR (R178): Sets S[d] to S[a] shifted right logically by S[b][5:0]. -/
  | shr (core : CoreId) (ctx : CtxId) (d a b : SRegId)
  /-- SAR (R178): Sets S[d] to S[a] shifted right arithmetically by S[b][5:0]. -/
  | sar (core : CoreId) (ctx : CtxId) (d a b : SRegId)
  /-- SLT (R178): Sets S[d] to 1 if S[a] < S[b] as signed values, else 0. -/
  | slt (core : CoreId) (ctx : CtxId) (d a b : SRegId)
  /-- SLTU (R178): Sets S[d] to 1 if S[a] < S[b] as unsigned values, else 0. -/
  | sltu (core : CoreId) (ctx : CtxId) (d a b : SRegId)
  /-- SEQ (R178): Sets S[d] to 1 if S[a] equals S[b], else 0. -/
  | seq (core : CoreId) (ctx : CtxId) (d a b : SRegId)
  /-- ADDI (R178): Sets S[d] to S[a] plus the sign-extended immediate. -/
  | addi (core : CoreId) (ctx : CtxId) (d a : SRegId) (imm : W32)
  /-- ANDI (R178): Sets S[d] to S[a] AND the immediate. -/
  | andi (core : CoreId) (ctx : CtxId) (d a : SRegId) (imm : W32)
  /-- ORI (R178): Sets S[d] to S[a] OR the immediate. -/
  | ori (core : CoreId) (ctx : CtxId) (d a : SRegId) (imm : W32)
  /-- XORI (R178): Sets S[d] to S[a] XOR the immediate. -/
  | xori (core : CoreId) (ctx : CtxId) (d a : SRegId) (imm : W32)
  /-- SHLI (R178): Sets S[d] to S[a] shifted left by imm[5:0]. -/
  | shli (core : CoreId) (ctx : CtxId) (d a : SRegId) (imm : W32)
  /-- SHRI (R178): Sets S[d] to S[a] shifted right logically by imm[5:0]. -/
  | shri (core : CoreId) (ctx : CtxId) (d a : SRegId) (imm : W32)
  /-- SARI (R178): Sets S[d] to S[a] shifted right arithmetically by imm[5:0]. -/
  | sari (core : CoreId) (ctx : CtxId) (d a : SRegId) (imm : W32)
  /-- SLTI (R178): Sets S[d] to 1 if S[a] < imm as signed values, else 0. -/
  | slti (core : CoreId) (ctx : CtxId) (d a : SRegId) (imm : W32)
  /-- MOVI (R178): Sets S[d] to the sign-extended 48-bit immediate. -/
  | movi (core : CoreId) (ctx : CtxId) (d : SRegId) (imm : W48)
  /-- MOVHI (R178): Sets S[d][63:48] from the immediate and leaves the lower bits unchanged. -/
  | movhi (core : CoreId) (ctx : CtxId) (d : SRegId) (imm : W48)
  /-- BR (R181): Branches to PC + off x 32 after the other slots of its bundle. -/
  | br (core : CoreId) (ctx : CtxId) (off : W32)
  /-- BRZ (R181): Branches as BR when S[a] is 0. -/
  | brz (core : CoreId) (ctx : CtxId) (a : SRegId) (off : W32)
  /-- BRNZ (R181): Branches as BR when S[a] is not 0. -/
  | brnz (core : CoreId) (ctx : CtxId) (a : SRegId) (off : W32)
  /-- JR (R181): Sets the PC to S[a] modulo 2^48. -/
  | jr (core : CoreId) (ctx : CtxId) (a : SRegId)
  /-- CALL (R181): Sets S[d] to PC + 32 and then branches as BR. -/
  | call (core : CoreId) (ctx : CtxId) (d : SRegId) (off : W32)
  /-- WAIT (R74): Gates the bundle until the wait on token t with threshold S[a] holds. -/
  | wait (core : CoreId) (ctx : CtxId) (t : TokenId) (a : SRegId)
  /-- LEASE (R79): Requests the lease of a unit, which is granted at once, waited for, or moved. -/
  | lease (core : CoreId) (ctx : CtxId) (u : BitVec 3)
  /-- RELEASE (R79): Marks the context's lease of a unit as released without saving its state. -/
  | release (core : CoreId) (ctx : CtxId) (u : BitVec 3)
  /-- HALT (R183): The context halts after its own bundle has issued. -/
  | halt (core : CoreId) (ctx : CtxId)
  /-- TRAP (R81): Raises a TRAP exception carrying the 8-bit immediate. -/
  | trap (core : CoreId) (ctx : CtxId) (imm : Byte)
  /-- FCLR (R62): Clears the context's sticky flags that the mask names. -/
  | fclr (core : CoreId) (ctx : CtxId) (mask : BitVec 3)
  /-- RDST (R62): Reads the context's CSTATUS into S[d]. -/
  | rdst (core : CoreId) (ctx : CtxId) (d : SRegId)
  /-- RDTOK (R178): Reads TOKEN[t] into S[d]. -/
  | rdtok (core : CoreId) (ctx : CtxId) (d : SRegId) (t : TokenId)
  /-- SETPRIO (R183): Sets CSTATUS.PRIO, effective at the next selection. -/
  | setprio (core : CoreId) (ctx : CtxId) (p : BitVec 3)
  /-- A1BAR (R195): In A1C mode, gates the bundle until every earlier engine command of the context has completed. -/
  | a1bar (core : CoreId) (ctx : CtxId)
  /-- LD8 (R184): Loads a sign-extended byte into S[d]. -/
  | ld8 (core : CoreId) (ctx : CtxId) (d a : SRegId) (off : W32)
  /-- LD8U (R184): Loads a zero-extended byte into S[d]. -/
  | ld8u (core : CoreId) (ctx : CtxId) (d a : SRegId) (off : W32)
  /-- LD16 (R184): Loads a sign-extended 16-bit value into S[d]. -/
  | ld16 (core : CoreId) (ctx : CtxId) (d a : SRegId) (off : W32)
  /-- LD16U (R184): Loads a zero-extended 16-bit value into S[d]. -/
  | ld16u (core : CoreId) (ctx : CtxId) (d a : SRegId) (off : W32)
  /-- LD32 (R184): Loads a sign-extended 32-bit value into S[d]. -/
  | ld32 (core : CoreId) (ctx : CtxId) (d a : SRegId) (off : W32)
  /-- LD32U (R184): Loads a zero-extended 32-bit value into S[d]. -/
  | ld32u (core : CoreId) (ctx : CtxId) (d a : SRegId) (off : W32)
  /-- LD64 (R184): Loads a 64-bit value into S[d]. -/
  | ld64 (core : CoreId) (ctx : CtxId) (d a : SRegId) (off : W32)
  /-- ST8 (R184): Stores the low byte of S[d]. -/
  | st8 (core : CoreId) (ctx : CtxId) (d a : SRegId) (off : W32)
  /-- ST16 (R184): Stores the low 16 bits of S[d]. -/
  | st16 (core : CoreId) (ctx : CtxId) (d a : SRegId) (off : W32)
  /-- ST32 (R184): Stores the low 32 bits of S[d]. -/
  | st32 (core : CoreId) (ctx : CtxId) (d a : SRegId) (off : W32)
  /-- ST64 (R184): Stores S[d]. -/
  | st64 (core : CoreId) (ctx : CtxId) (d a : SRegId) (off : W32)
  /-- LOAD_COMPLETE (R185): A slot B load's data returns and is written to S[d], or it raises ADDRESS or PARITY. -/
  | loadComplete (core : CoreId) (ctx : CtxId)
  /-- STORE_COMPLETE (R184): A slot B store completes, or raises ADDRESS when the access meets an address error. -/
  | storeComplete (core : CoreId) (ctx : CtxId)
  /-- QPUSH (R67): Pushes S[a] to S[a+7] as one entry, or waits while the ring is full. -/
  | qpush (core : CoreId) (ctx : CtxId) (n : Fin 16) (a : SRegId)
  /-- QPOP (R67): Pops one entry into S[a] to S[a+7], or waits while the ring is empty. -/
  | qpop (core : CoreId) (ctx : CtxId) (n : Fin 16) (a : SRegId)
  /-- QTPUSH (R67): Tries a push without waiting and writes the success value. -/
  | qtpush (core : CoreId) (ctx : CtxId) (n : Fin 16) (a : SRegId)
  /-- QTPOP (R67): Tries a pop without waiting and writes the success value. -/
  | qtpop (core : CoreId) (ctx : CtxId) (n : Fin 16) (a : SRegId)
  /-- QUEUE_ACCESS_COMPLETE (R67): A push or pop ring access completes, or fails with ADDRESS or PARITY. -/
  | queueAccessComplete (core : CoreId) (ctx : CtxId)
  /-- TBUMP (R187): Adds 1 to TOKEN[t] once every earlier store of the context is visible. -/
  | tbump (core : CoreId) (ctx : CtxId) (t : TokenId)
  /-- TOKEN_WRITE (R77): A host or MGC write sets TOKEN[n], with any bump in the same cycle applied to the written value. -/
  | tokenWrite (path : Path) (core : CoreId) (n : TokenId) (v : W32)
  /-- CTXCMD_ALLOC (R57): Moves a FREE context to HALTED and resets its entry. -/
  | ctxcmdAlloc (core : CoreId) (ctx : BitVec 7)
  /-- CTXCMD_START (R57): Moves a HALTED context to READY. -/
  | ctxcmdStart (core : CoreId) (ctx : BitVec 7)
  /-- CTXCMD_HALT (R57): Moves a READY or WAITING context to HALTED between two bundles. -/
  | ctxcmdHalt (core : CoreId) (ctx : BitVec 7)
  /-- CTXCMD_RESUME (R57): Moves a FAULTED context to READY and releases its held commands. -/
  | ctxcmdResume (core : CoreId) (ctx : BitVec 7)
  /-- CTXCMD_RESET (R369): Resets the context: removes and stops its tagged work, cancels its wait and releases its leases. -/
  | ctxcmdReset (core : CoreId) (ctx : BitVec 7)
  /-- CTXCMD_FREE (R57): Moves a HALTED context to FREE and releases its leases. -/
  | ctxcmdFree (core : CoreId) (ctx : BitVec 7)
  /-- CTX_WINDOW_WRITE (R61): A write through the CTX window takes effect, or for a running context changes only PRIO and may set CTXWERR. -/
  | ctxWindowWrite (path : Path) (core : CoreId) (off : BitVec 15) (wide : Bool) (v : W64)
  /-- QCFG_WRITE (R71): A QCFG write enables or disables a queue after its checks, and clearing EN empties a ring. -/
  | qcfgWrite (path : Path) (core : CoreId) (q : QueueId) (v : W32)
  /-- INTERCORE_TRANSFER (R69): The device moves the head entry of an outbound queue into its peer inbound ring once there is room. -/
  | intercoreTransfer (core : CoreId) (q : QueueId)
  /-- LEASE_MOVE (R79): Once the holder's queued commands drain, the device saves the holder's state and restores the requester's. -/
  | leaseMove (core : CoreId) (u : BitVec 3)
  /-- ENGINE_CMD_COMPLETE (R73): An engine command completes and bumps its token, or ends in error and faults the context. -/
  | engineCmdComplete (core : CoreId) (q : Fin 20)
  /-- MLOAD (R91): Loads a stationary tile into a weight buffer in the shape its MODE selects. -/
  | mload (core : CoreId) (q : EngQueue)
  /-- MINV (R107): Marks a weight buffer invalid. -/
  | minv (core : CoreId) (q : EngQueue)
  /-- MMUL (R88): Runs a weight-stationary product into an accumulator tile with exponent alignment. -/
  | mmul (core : CoreId) (q : EngQueue)
  /-- MMULO (R89): Runs an output-stationary product into an accumulator tile. -/
  | mmulo (core : CoreId) (q : EngQueue)
  /-- MCLR (R111): Clears an accumulator tile to zero with T = 0. -/
  | mclr (core : CoreId) (q : EngQueue)
  /-- MTURN (R111): Rewrites a 64 x 64 tile, transposing or requantizing it. -/
  | mturn (core : CoreId) (q : EngQueue)
  /-- VLD (R461): Loads a rectangle from a stored tensor into a tile buffer or V register. -/
  | vld (core : CoreId) (q : EngQueue)
  /-- VLDI (R461): Loads 64 32-bit integers into a V register as mantissas with X = 512. -/
  | vldi (core : CoreId) (q : EngQueue)
  /-- VST (R461): Stores a rectangle to a stored tensor in a chosen format and block axis. -/
  | vst (core : CoreId) (q : EngQueue)
  /-- VOP1 (R123): Computes ABS, NEG, COPY or SCALE per active element. -/
  | vop1 (core : CoreId) (q : EngQueue)
  /-- VOP2 (R123): Computes ADD, SUB, MUL, MAX or MIN per active element. -/
  | vop2 (core : CoreId) (q : EngQueue)
  /-- VCMP (R122): Compares lanes and writes a predicate. -/
  | vcmp (core : CoreId) (q : EngQueue)
  /-- PLOGIC (R122): Combines two predicates with a logical operation. -/
  | plogic (core : CoreId) (q : EngQueue)
  /-- PSET (R122): Writes a predicate with its low n bits set. -/
  | pset (core : CoreId) (q : EngQueue)
  /-- VPERM (R121): Permutes lanes of a V register under a control vector. -/
  | vperm (core : CoreId) (q : EngQueue)
  /-- VSF (R125): Computes a special function per active element. -/
  | vsf (core : CoreId) (q : EngQueue)
  /-- VSMAX (R128): Computes a soft maximum along each row. -/
  | vsmax (core : CoreId) (q : EngQueue)
  /-- VEPI (R131): Drains an accumulator tile through the fused epilogue to memory or a tile buffer. -/
  | vepi (core : CoreId) (q : EngQueue)
  /-- VCLR (R145): Clears a tile buffer or V register. -/
  | vclr (core : CoreId) (q : EngQueue)
  /-- RSUM (R136): Sums active elements into an R64 partial or into lanes. -/
  | rsum (core : CoreId) (q : EngQueue)
  /-- RMAX (R136): Finds the largest active element and its index. -/
  | rmax (core : CoreId) (q : EngQueue)
  /-- RMIN (R136): Finds the smallest active element and its index. -/
  | rmin (core : CoreId) (q : EngQueue)
  /-- RSSQ (R136): Sums the squares of active elements. -/
  | rssq (core : CoreId) (q : EngQueue)
  /-- RSEG (R137): Computes a segment reduction over rows of a tile buffer. -/
  | rseg (core : CoreId) (q : EngQueue)
  /-- RNOISE (R138): Computes gradient noise statistics over microbatch gradients. -/
  | rnoise (core : CoreId) (q : EngQueue)
  /-- RTX (R139): Takes part in a reduction tree in the EXP, MANT or R64 phase. -/
  | rtx (core : CoreId) (q : EngQueue)
  /-- RST (R145): Stores an RDU partial as an R64 record. -/
  | rst (core : CoreId) (q : EngQueue)
  /-- RCLR (R145): Clears an RDU partial. -/
  | rclr (core : CoreId) (q : EngQueue)
  /-- GTAB (R148): Loads a GSE table slot from a table descriptor. -/
  | gtab (core : CoreId) (q : EngQueue)
  /-- GGATH (R156): Gathers rows by index stream into a destination. -/
  | ggath (core : CoreId) (q : EngQueue)
  /-- GSCAT (R157): Scatters rows by index, keeping the highest position for duplicate rows. -/
  | gscat (core : CoreId) (q : EngQueue)
  /-- GSCADD (R162): Scatter-adds rows into a table with the ordered combine. -/
  | gscadd (core : CoreId) (q : EngQueue)
  /-- GSEG (R163): Gathers rows and reduces them into segments. -/
  | gseg (core : CoreId) (q : EngQueue)
  /-- GPACK (R164): Packs ragged sequences into a padded region. -/
  | gpack (core : CoreId) (q : EngQueue)
  /-- GUNPK (R165): Unpacks padded sequences back into table rows. -/
  | gunpk (core : CoreId) (q : EngQueue)
  /-- GSORT (R166): Sorts 32-bit keys stably, with optional payloads. -/
  | gsort (core : CoreId) (q : EngQueue)
  /-- GUNIQ (R167): Writes the distinct keys, their counts and ranks from sorted keys. -/
  | guniq (core : CoreId) (q : EngQueue)
  /-- GTOPK (R168): Selects the k extreme elements of each row. -/
  | gtopk (core : CoreId) (q : EngQueue)
  /-- GHIST (R169): Counts keys into histogram bins. -/
  | ghist (core : CoreId) (q : EngQueue)
  /-- GSE_ROW_RETURN (R154): A fetched row returns and is filed under its position. -/
  | gseRowReturn (core : CoreId) (q : EngQueue) (pos : W32)
  /-- GSE_REMOTE_TIMEOUT (R155): A remote read unanswered within GSE_CTL.RTO ends the command with REMOTE. -/
  | gseRemoteTimeout (core : CoreId) (q : EngQueue)
  /-- MVX (R208): Runs an MVE descriptor chain, bumping its token when the chain ends. -/
  | mvx (core : CoreId) (q : EngQueue)
  /-- MVE_DESCRIPTOR_START (R208): The next descriptor of a chain starts once every write of the previous one is visible. -/
  | mveDescriptorStart (core : CoreId) (q : EngQueue)
  /-- MVE_COPY (R210): Copies bytes row by row. -/
  | mveCopy (core : CoreId) (q : EngQueue)
  /-- MVE_CONVERT (R210): Converts a value tensor between formats and block axes. -/
  | mveConvert (core : CoreId) (q : EngQueue)
  /-- MVE_FILL (R210): Fills rows with a 64-bit pattern. -/
  | mveFill (core : CoreId) (q : EngQueue)
  /-- MVE_ENCODE (R210): Encodes data into FR4, FR2 or TC through a codec. -/
  | mveEncode (core : CoreId) (q : EngQueue)
  /-- MVE_DECODE (R210): Decodes FR4, FR2 or TC data through a codec. -/
  | mveDecode (core : CoreId) (q : EngQueue)
  /-- MVE_FABRIC (R276): Posts one LOCAL fabric transfer to a port's post queue. -/
  | mveFabric (core : CoreId) (q : EngQueue)
  /-- CODEC_BLOCK_ADMIT (R230): A codec admits a block under the slot state at admission. -/
  | codecBlockAdmit (n : StackId) (core : CoreId) (q : EngQueue)
  /-- CODEC_BLOCK_DONE (R213): A compressor or expander finishes a block and releases its table references. -/
  | codecBlockDone (n : StackId) (core : CoreId) (q : EngQueue)
  /-- TABLE_LOAD (R231): Starts loading a code table image into an empty slot. -/
  | tableLoad (path : Path) (n : StackId) (slot : Fin 4)
  /-- TABLE_STAGE (R231): Starts fetching and checking a staged image into a READY slot. -/
  | tableStage (path : Path) (n : StackId) (slot : Fin 4)
  /-- TABLE_COMMIT (R231): Makes a staged image active between two admissions and increments GEN. -/
  | tableCommit (path : Path) (n : StackId) (slot : Fin 4)
  /-- TABLE_FETCH_DONE (R231): A table image fetch and check completes, staging the image or setting TERR. -/
  | tableFetchDone (n : StackId) (slot : Fin 4)
  /-- TABLE_LOAD_ACTIVATE (R231): When REFCNT reaches 0, a loading image becomes active and held blocks are admitted. -/
  | tableLoadActivate (n : StackId) (slot : Fin 4)
  /-- BDP_READ (R204): A host read through a BAR2 channel reaches memory in STREAM or WINDOW mode, or fails with 0xFF bytes. -/
  | bdpRead (chan : Fin 8) (off : BitVec 25) (len : BitVec 13)
  /-- BDP_WRITE (R204): A host write through a BAR2 channel reaches memory, or is dropped on failure. -/
  | bdpWrite (chan : Fin 8) (off : BitVec 25) (data : List Byte)
  /-- BDP_PREFETCH (R206): The port reads ahead of ADDR in STREAM mode with PFEN set. -/
  | bdpPrefetch (chan : Fin 8) (len : BitVec 16)
  /-- BDP_ADDR_WRITE (R205): A write to BDP_ADDR sets the channel address and discards prefetched bytes. -/
  | bdpAddrWrite (path : Path) (chan : Fin 8) (v : W64)
  /-- BDP_CTL_WRITE (R206): A write to BDP_CTL sets the channel mode and discards prefetched bytes. -/
  | bdpCtlWrite (path : Path) (chan : Fin 8) (v : W32)
  /-- CHANNEL_MIGRATION_DONE (R199): When a spare channel's copy ends, the controller switches the mapping between two accesses. -/
  | channelMigrationDone (n : StackId)
  /-- PREG_CFG_WRITE (R249): A write to a region entry is checked and, when V is set, resets VTAG, CUR and WRPAGES. -/
  | pregCfgWrite (path : Path) (u : Fin 72) (n : Fin 32) (v : W64)
  /-- DATA_FRAME (R272): A received DATA frame is checked and written, then bumps the token after its LASTF frame. -/
  | dataFrame (p : PortId) (f : Frame)
  /-- RDREQ_FRAME (R273): The serving device answers a remote read request with RDRSP. -/
  | rdreqFrame (p : PortId) (f : Frame)
  /-- RDRSP_FRAME (R273): A remote read response delivers a row or its status to the requesting GSE. -/
  | rdrspFrame (p : PortId) (f : Frame)
  /-- TREE_FRAME (R282): A reduction tree message is combined up or written down for its phase. -/
  | treeFrame (p : PortId) (f : Frame)
  /-- CHORUS_VOTE_FRAME (R288): A child's vote is ORed in, and the node sends its vote up or the root decides. -/
  | chorusVoteFrame (p : PortId) (f : Frame)
  /-- CHORUS_DECISION_FRAME (R288): A decision from the parent is passed down and applied. -/
  | chorusDecisionFrame (p : PortId) (f : Frame)
  /-- CROAK_FRAME (R289): A received heartbeat keeps the neighbour present. -/
  | croakFrame (p : PortId) (f : Frame)
  /-- CTRL_FRAME (R267): A received CTRL frame updates ACK, credits and any NAK replay. -/
  | ctrlFrame (p : PortId) (f : Frame)
  /-- QMSG_FRAME (R278): A received queue message is written to the named receive ring or discarded. -/
  | qmsgFrame (p : PortId) (f : Frame)
  /-- QMSG_RELEASE (R278): A QMSG held while its ring was full is written once the ring has room. -/
  | qmsgRelease (core : CoreId) (q : QueueId)
  /-- QMSG_SEND (R278): The port takes the head entry of an enabled fabric send queue and sends it as a QMSG. -/
  | qmsgSend (core : CoreId) (q : QueueId)
  /-- SLOT_ORDER_ENTRY (R275): The walker sends the transfer of its current entry when its descriptor or frames are present, then advances. -/
  | slotOrderEntry (p : PortId)
  /-- SLOT_ORDER_STALL (R275): A walker that waits longer than SOTMO sets SOSTALL and reports. -/
  | slotOrderStall (p : PortId)
  /-- REPLAY_TIMEOUT (R268): With no ACK progress for RTO, the sender replays from its oldest unacknowledged frame. -/
  | replayTimeout (p : PortId)
  /-- CTRL_SEND (R267): The port sends a CTRL frame after a change in its counts or every 10 us. -/
  | ctrlSend (p : PortId)
  /-- CROAK_MISS (R289): MISS periods without a heartbeat set ABSENT and report the neighbour. -/
  | croakMiss (p : PortId)
  /-- PORT_CTL_WRITE (R270): Setting EN starts link training, and clearing it takes the link down. -/
  | portCtlWrite (path : Path) (p : PortId) (v : W32)
  /-- LINK_UP (R270): Training and the croak exchange end, and the neighbour check sets UP or NBRERR. -/
  | linkUp (p : PortId) (nbrDev : BitVec 9) (nbrPort : BitVec 5)
  /-- LANE_SPARE_SWITCH (R264): A new LSPARE while up holds frames, retrains and replays. -/
  | laneSpareSwitch (p : PortId) (lane : BitVec 5)
  /-- FAB_ABSENT_WRITE (R274): A W1C write clears absence bits only where no condition still holds. -/
  | fabAbsentWrite (path : Path) (k : Fin 16) (v : W32)
  /-- ARB_DECISION (R300): An arbiter instance decides the next grant unit by priority and round-robin, or parks. -/
  | arbDecision (i : Fin 2344) (req more : W16) (waited : List W16)
  /-- ARB_STARVE_FLAG (R303): An input's age reaching AGETHR sets its starvation bit and summary. -/
  | arbStarveFlag (i : Fin 2344) (input : Fin 16) (waited : W16)
  /-- LUL_DATA (R324): A Lular DATA frame is filed by SEQ, and a gap triggers a NAK. -/
  | lulData (l : LhpId) (f : LulFrame)
  /-- LUL_NAK (R324): A NAK makes the sender resend the missing ranges. -/
  | lulNak (l : LhpId) (f : LulFrame)
  /-- LUL_RACK (R325): A RACK tells the side that the peer holds its payload, and the decider may decide MERGE. -/
  | lulRack (l : LhpId) (f : LulFrame)
  /-- LUL_DEC (R325): The follower takes the round decision and answers with DACK. -/
  | lulDec (l : LhpId) (f : LulFrame)
  /-- LUL_DACK (R325): A DACK stops the decider's DEC repeats. -/
  | lulDack (l : LhpId) (f : LulFrame)
  /-- LUL_CROAK (R315): A site heartbeat gives a delay sample and keeps the site present. -/
  | lulCroak (l : LhpId) (f : LulFrame)
  /-- LUL_BUSY (R321): A BUSY for the open round makes the receiver skip it. -/
  | lulBusy (l : LhpId) (f : LulFrame)
  /-- LUL_JREQ (R332): A join request makes the donor send JDATA and JEND. -/
  | lulJreq (l : LhpId) (f : LulFrame)
  /-- LUL_JDATA (R332): A join stream frame is filed for the joiner. -/
  | lulJdata (l : LhpId) (f : LulFrame)
  /-- LUL_JEND (R332): The end of the join stream completes the join. -/
  | lulJend (l : LhpId) (f : LulFrame)
  /-- LUL_ABSENCE (R328): ABSMS without a valid frame declares a site absent and holds an open round. -/
  | lulAbsence (site : SiteId)
  /-- LUL_FDONE (R317): A formation kernel reports a shard record done, and sending starts when all are done. -/
  | lulFdone (path : Path) (v : W32)
  /-- LUL_MDONE (R318): A merge kernel reports a record done, and the device commits its region and flips CUR. -/
  | lulMdone (path : Path) (v : W32)
  /-- LUL_DROP (R328): Logs a held round as skipped with cause DROP and clears the site's JOINED bit. -/
  | lulDrop (path : Path) (v : W32)
  /-- LUL_JOIN (R332): Sends JREQ to the named donor site. -/
  | lulJoin (path : Path) (v : W32)
  /-- LHP_LINK_DOWN (R309): A long-haul port going down hands its traffic to the other port. -/
  | lhpLinkDown (l : LhpId)
  /-- PTP_RX (R447): A received PTP message is written with its stamp to the host RX timestamp ring. -/
  | ptpRx (l : LhpId) (msg : List Byte)
  /-- PPS_EDGE (R313): A 1PPS edge with its label advances TIM toward LOCKED. -/
  | ppsEdge (gap : W32)
  /-- TOD_SENTENCE (R313): A ZDA sentence labels the next PPS edge. -/
  | todSentence (utc : W64) (valid : Bool)
  /-- TIM_ADJ_WRITE (R313): With SRC = 1, a write to TIM_ADJ steps TIM. -/
  | timAdjWrite (path : Path) (v : W64)
  /-- CLUTCH_PAGE_COPY (R342): A region unit copies an uncopied protected page and releases held writes to it. -/
  | clutchPageCopy (page : W64)
  /-- TWIN_PULL (R345): The twin pulls a source's TWIN pages once the source's slot shows TAKING with the same CLSEQ. -/
  | twinPull (k : Fin 2)
  /-- PULLSEQ_POLL (R345): Every 10 us the source polls the twin's PULLSEQ. -/
  | pullseqPoll (v : W64)
  /-- TWIN_COMPARE_POLL (R355): Every 10 us a COMPARING device reads the twin's slot, then sets GOOD or locates a mismatch. -/
  | twinComparePoll (slot : List Byte)
  /-- SNP_RESTORE (R360): Restores the device from a GOOD slot and verifies the result. -/
  | snpRestore (path : Path) (v : W32)
  /-- SNP_COMPARE (R358): Compares the GOOD slot with the twin's and records a one-way difference. -/
  | snpCompare (path : Path) (v : W32)
  /-- SNP_DISCARD (R339): Turns a BAD or MISMATCH slot into EMPTY. -/
  | snpDiscard (path : Path) (v : W32)
  /-- SNP_ESTEV (R348): Adds one event to the failure-rate estimator. -/
  | snpEstev (path : Path) (v : W32)
  /-- ENGINE_WATCHDOG (R371): An engine watchdog fires and starts level 1: abort, store, reset and replay of the suspects. -/
  | engineWatchdog (core : CoreId) (e : Fin 5)
  /-- SUSPECT_ADVANCE (R371): The next suspect becomes current once the current one's stored commands complete or cannot start. -/
  | suspectAdvance (core : CoreId) (e : Fin 5)
  /-- UNIT_WATCHDOG (R368): A die-shared unit watchdog fires and starts level 4. -/
  | unitWatchdog (unit : Byte) (num : W16)
  /-- CONTEXT_RESET_TIMEOUT (R369): A context reset not done in 20 us escalates to an engine reset. -/
  | contextResetTimeout (core : CoreId) (ctx : CtxId)
  /-- ENGINE_RESET_TIMEOUT (R373): An engine reset not done in 50 us escalates to a core substitution. -/
  | engineResetTimeout (core : CoreId) (e : Fin 5)
  /-- FLT_LOCK (R387): Takes a maintenance lock entry for an activity and scope. -/
  | fltLock (path : Path) (v : W32)
  /-- FLT_UNLOCK (R387): Frees a maintenance lock entry. -/
  | fltUnlock (path : Path) (v : W32)
  /-- FLT_ENGRST (R374): Resets an engine, self-tests it and replays the stored commands. -/
  | fltEngrst (path : Path) (v : W32)
  /-- FLT_CORESUB (R375): Substitutes the spare slot for a logical core and restores its state. -/
  | fltCoresub (path : Path) (v : W32)
  /-- FLT_DIERST (R376): Resets a die, zeroing its memories and retraining its links. -/
  | fltDierst (path : Path) (v : W32)
  /-- FLT_LANESP (R379): Switches a fabric port lane to the spare. -/
  | fltLanesp (path : Path) (v : W32)
  /-- FLT_CHMIG (R380): Migrates a stack channel to a spare channel. -/
  | fltChmig (path : Path) (v : W32)
  /-- FLT_ROWSP (R381): Replaces an SRAM row with a spare row. -/
  | fltRowsp (path : Path) (v : W32)
  /-- FLT_DUMP (R391): Dumps the units in a scope over the side path into a buffer. -/
  | fltDump (path : Path) (v : W32)
  /-- FLT_RELEASE (R377): Bumps the withheld DTOK and clears STOPPED. -/
  | fltRelease (path : Path) (v : W32)
  /-- FLT_REVOTE (R385): Sends the standing vote again after a HOLD and clears STOPPED. -/
  | fltRevote (path : Path) (v : W32)
  /-- LANE_REPAIR_TRIGGER (R379): A lane's corrected FEC symbols in one second reaching the threshold start its repair. -/
  | laneRepairTrigger (p : PortId) (lane : BitVec 5) (count : W32)
  /-- CHANNEL_REPAIR_TRIGGER (R380): A channel's corrections or repeated uncorrected errors start its migration.
  `chan` is a logical channel, or 32 or 33 for a spare. -/
  | channelRepairTrigger (n : StackId) (chan : BitVec 6) (count : W32) (repeatGranule : Bool)
  /-- MODE_CHANGE_REQUEST (R396): A write of PWR_MODE.TGT under a MODE lock sets PEND for the named step. -/
  | modeChangeRequest (path : Path) (v : W32)
  /-- ISLAND_CLOCK_CHANGE (R397): A PWR_ICLK write changes an island clock with rail change and pause. -/
  | islandClockChange (path : Path) (c : ClusterId) (v : W32)
  /-- PWR_WAKE (R405): Leaves stage 6 after 20 ms of recovered supply, still frozen. -/
  | pwrWake (path : Path)
  /-- PWR_RESUME (R405): Ends the freeze and bumps DTOK. -/
  | pwrResume (path : Path)
  /-- SENSOR_SAMPLE (R409): Every 100 us sensors are read, and local throttling, freeze or trip is applied. -/
  | sensorSample (readings : List W16)
  /-- THERMAL_STEP_REVERSE (R410): A local thermal step reverses after 20 ms below its threshold minus HYST. -/
  | thermalStepReverse (sensor : BitVec 7)
  /-- PMC_RESET (R420): At the next edge, counts are discarded and the totals cleared. -/
  | pmcReset (path : Path) (v : W32)
  /-- DBG_CTL_WRITE (R422): Enters or leaves debug mode unless the fuse denies it. -/
  | dbgCtlWrite (path : Path) (v : W32)
  /-- TRC_CTL_WRITE (R423): Setting EN starts trace capture and clears the pointers. -/
  | trcCtlWrite (path : Path) (core : CoreId) (v : W32)
  /-- DBGACC_READ32 (R425): A JTAG read of 32 bits at a DPA as an MGC access. -/
  | dbgaccRead32 (dr : BitVec 120) (busy : Bool)
  /-- DBGACC_WRITE32 (R425): A JTAG write of 32 bits at a DPA as an MGC access. -/
  | dbgaccWrite32 (dr : BitVec 120) (busy : Bool)
  /-- DBGACC_READ64 (R425): A JTAG read of 64 bits at a DPA, atomic. -/
  | dbgaccRead64 (dr : BitVec 120) (busy : Bool)
  /-- DBGACC_WRITE64 (R425): A JTAG write of 64 bits at a DPA, atomic. -/
  | dbgaccWrite64 (dr : BitVec 120) (busy : Bool)
  /-- POWER_ON_RESET (R437): POR_N rises and the boot ROM loads, verifies and starts the firmware. -/
  | powerOnReset (straps : W32) (x : Supply) (readings : List W16) (spiErr : BitVec 3)
  /-- MGC_BOOTCMD (R441): In a host boot, the image length write makes the ROM verify the pushed image. -/
  | mgcBootcmd (path : Path) (v : W32)
  /-- SMB_ADDR (R448): Sets the SMBus pointer to a DPA. -/
  | smbAddr (a : W48)
  /-- SMB_WRITE32 (R448): Writes 4 bytes at the pointer and advances it. -/
  | smbWrite32 (v : W32)
  /-- MBX_INFO (R449): Returns identity, boot status and serial number. -/
  | mbxInfo (box : Fin 2)
  /-- MBX_RRREAD (R449): Returns 64 B of the repair record. -/
  | mbxRrread (box : Fin 2)
  /-- MBX_FWSTAGE (R449): Verifies the boot buffer image and writes it to the non-preferred SPI copy. -/
  | mbxFwstage (box : Fin 2)
  /-- MBX_FWSELECT (R449): Makes a verified copy the preferred one. -/
  | mbxFwselect (box : Fin 2)
  /-- MBX_SVNLOCK (R449): Blows fuses so that SVNMIN equals the running SVN. -/
  | mbxSvnlock (box : Fin 2)
  /-- WORD_LATCH_READ (R453): A lower-word read of a 64-bit register latches its upper word on the path. -/
  | wordLatchRead (path : Path) (a : W48)
  /-- WORD_HELD_WRITE (R453): A lower-word write of a 64-bit register is held until the upper word is written on the path. -/
  | wordHeldWrite (path : Path) (a : W48) (v : W32)
  /-- RC_READ (R455): A read of an RC field returns it and clears it. -/
  | rcRead (path : Path) (a : W48) (wide : Bool)
  /-- REGISTER_WRITE (R7): A write to a register with no row of its own acts under its fields' access types. -/
  | registerWrite (path : Path) (a : W48) (wide : Bool) (v : W64)
  /-- CONTEXT_RESET_DONE (R369): The engines finish removing and stopping a resetting context's tagged work, and the context leaves RESETTING for HALTED. -/
  | contextResetDone (core : CoreId) (ctx : CtxId)
  /-- ENGINE_RESET_DONE (R374): An engine reset's self-test ends, and the stored commands replay or a failed test escalates to level 3. -/
  | engineResetDone (core : CoreId) (e : Fin 5) (passed : Bool)
  /-- DIE_RESET_DONE (R376): A die reset finishes its zeroing, retraining and self-test after 2.5 to 6 s, and the die is released. -/
  | dieResetDone (d : DieId) (passed : Bool)
  /-- LHP_LINK_UP (R309): A long-haul port comes up and takes its traffic back under the port-use rule. -/
  | lhpLinkUp (l : LhpId)
  /-- SEQUENCED_FRAME_DISCARD (R268): A received sequenced frame that has a bad CRC, lies in an uncorrectable FEC codeword or is not the next LSEQ is discarded, and a NAK is sent. -/
  | sequencedFrameDiscard (p : PortId) (f : Frame)
  /-- LULAR_FRAME_DROP (R311): A long-haul frame that fails the Lular acceptance or checksum checks is dropped and counted in LHP_RXDROP or LHP_CRCERR. -/
  | lularFrameDrop (l : LhpId) (fcsBad : Bool) (f : LulFrame)
  /-- DECISION_APPLY (R258): A COMMIT, SKIP or HOLD decision is applied: order 1, commit or clear, merge fence, clutch check and mode change. -/
  | decisionApply
  /-- BOUNDARY_FINISH (R258): Once nothing withholds it, the boundary bumps DTOK on every taking-part core and clears OPEN. -/
  | boundaryFinish
  /-- CHORUS_TIMEOUT (R258): No decision within CHR_CFG.TMO sets CHR_STATUS.TMO, and the device goes on waiting. -/
  | chorusTimeout
  /-- CROAK_SEND (R289): Every up port sends a heartbeat each PERIOD. -/
  | croakSend
  /-- LUL_CROAK_SEND (R328): Each device sends a heartbeat to its counterpart in every member site every 1 ms. -/
  | lulCroakSend
  /-- ROUND_WINDOW_EXPIRE (R325): RWIN after the first DATA without a complete payload and RACK makes the decider decide SKIP. -/
  | roundWindowExpire
  /-- LUL_NAK_REPEAT (R324): Every RTXT the receiver repeats a NAK while frames are missing. -/
  | lulNakRepeat
  /-- LUL_LAST_RESEND (R324): Every RTXT without a RACK the sender resends its last frame. -/
  | lulLastResend
  /-- LUL_RACK_REPEAT (R324): Every RTXT a side holding the complete payload repeats RACK. -/
  | lulRackRepeat
  /-- LUL_DEC_REPEAT (R325): Every DECRT the decider repeats DEC until DACK arrives. -/
  | lulDecRepeat
  /-- TS_TX_SEND (R447): The device sends a host TX ring entry, stamps it and advances the ring. -/
  | tsTxSend
  /-- PPS_TIMEOUT (R313): 1.1 s without an edge puts TIM into HOLDOVER. -/
  | ppsTimeout
  /-- CLUTCH_START (R342): A due clutch starts once its slot is free: sequence number, record and page protection. -/
  | clutchStart
  /-- FORCED_ARRIVAL (R372): ARRT after identification, cores that have not arrived are made to arrive. -/
  | forcedArrival
  /-- LOCK_WAIT_GRANT (R389): A waiting FLT or SNP activity starts when no held lock conflicts. -/
  | lockWaitGrant
  /-- DUMP_READ_TIMEOUT (R392): A side-path read without answer in TO writes an unreadable token. -/
  | dumpReadTimeout
  /-- SUPPLY_WARNING (R402): The supply falls below warning and stage 1 of autotomy begins. -/
  | supplyWarning (x : Supply)
  /-- AUTOTOMY_STAGE (R402): STEPUS after a stage, with the supply still low, the next stage begins. -/
  | autotomyStage
  /-- FLUSH_END (R405): The final clutch leaves TAKING, and the device enters stage 6 or reverses. -/
  | flushEnd
  /-- FLUSH_TIMEOUT (R404): FLUSHTMO after stage 5 began ends the flush and sets FLUSHTMO. -/
  | flushTimeout
  /-- SUPPLY_RECOVERED (R406): The supply recovers and a 20 ms dwell starts. -/
  | supplyRecovered (x : Supply)
  /-- RECOVERY_DWELL_END (R406): After 20 ms of recovered supply, reversal of the highest stage starts. -/
  | recoveryDwellEnd
  /-- STAGE_REVERSE_DONE (R406): A stage's reversal completes, and the next lower stage reverses. -/
  | stageReverseDone
  /-- SUPPLY_FAIL (R407): A failing supply holds every die in reset within 1 us. -/
  | supplyFail (x : Supply)
  /-- REPAIR_RECORD_SAVE (R412): Every hour the MGC saves the Tj counters to the repair record. -/
  | repairRecordSave
  /-- PMC_WINDOW_EDGE (R416): At each window edge, live counts move into shadows. -/
  | pmcWindowEdge
  /-- PMC_SHADOW_TAKE (R417): The hub takes shadows into the totals table. -/
  | pmcShadowTake
  /-- PMC_WINDOW_RECORD (R419): With every shadow taken, the hub writes a window record. -/
  | pmcWindowRecord
  /-- TAP_EXTEST (R424): Selects the boundary scan register for EXTEST. -/
  | tapExtest (levels tdi : List Bool)
  /-- TAP_IDCODE (R424): Selects the 32-bit IDCODE register. -/
  | tapIdcode
  /-- TAP_SAMPLE_PRELOAD (R424): Selects boundary scan for SAMPLE/PRELOAD. -/
  | tapSamplePreload (levels tdi : List Bool)
  /-- TAP_BYPASS (R424): Selects the 1-bit bypass register. -/
  | tapBypass (code : Byte) (tdi : List Bool)
  /-- TAP_RESET (R435): TRST_N low resets the TAP only. -/
  | tapReset
  /-- POR_LOW (R435): POR_N low resets everything and abandons any boot. -/
  | porLow
  /-- HOST_BOOT_TIMEOUT (R441): 60 s without MGC_BOOTCMD fails the boot with CODE 9. -/
  | hostBootTimeout
  /-- HOST_PORT_RESET (R445): PE_RST_N, hot reset or link down resets the host port only. -/
  | hostPortReset
  /-- SMB_READ32 (R448): Reads 4 bytes at the pointer and advances it. -/
  | smbRead32
  /-- SMB_STATUS (R448): Returns READY, FAIL and ERR and clears ERR. -/
  | smbStatus
  deriving DecidableEq, Repr

end Sys2Proof
end

