-- ==== Sys2Proof/Config.lean ====
section
/-! DEFINITION. What the spec leaves open, as constants without a body: nothing in Lean can evaluate them or prove a
value of them, so a claim holds whatever they are. Each is named in the assumption log. -/

namespace Sys2Proof

/-- A fresh free value for each number of the counter `State.freeCtr`: where the machine goes on and the spec states
no value (assumption log 2). -/
opaque Config.freeWord : Nat → BitVec 64

/-- The nanoseconds of TAI that pass in the `n`-th idle step (assumption log 3). -/
opaque Config.elapsed : Nat → Nat

/-- SHA-384 of a byte string, as 48 bytes (17 R438 names the function and leaves its definition to FIPS 180-4;
assumption log 4). -/
opaque Config.sha384 : List Byte → List Byte

/-- Whether an ECDSA P-384 signature verifies: public key, signature, digest (17 R438, R439; FIPS 186-5;
assumption log 4). -/
opaque Config.ecdsaVerify : List Byte → List Byte → List Byte → Bool

/-- The TC stream as which a donor's kernels have coded a plane of an anchor frame, given the plane's bytes (12 R332 does not
say which tables they use, nor where they leave it; assumption log 20). -/
opaque Config.joinStream : Nat → List Byte → List Byte

/-- What a variant's load image has the MGC copy out of a lost cluster, as source, destination and length; the bytes it has
written at DPAs; and the context entries, bindings among them, it has loaded, as core, context and 512 bytes. The spec names
the image and does not lay it out (14 R384; assumption log 55). -/
opaque Config.variantCopies : List Byte → List (Nat × Nat × Nat)
@[inherit_doc Config.variantCopies] opaque Config.variantWrites : List Byte → List (Nat × List Byte)
@[inherit_doc Config.variantCopies] opaque Config.variantEntries : List Byte → List (Nat × Nat × List Byte)

end Sys2Proof
end

