-- ==== Sys2Proof/Machine/Sparse.lean ====
section
/-! DEFINITION. Finite maps as plain data: a list of (key, value) pairs with strictly rising keys and no entry equal
to what an unlisted key reads as. Memory, the register file, the cores and every array of the machine are held so;
equal maps are equal lists. What an unlisted key reads as is the argument `d`. -/

namespace Sys2Proof.Machine

/-- The value at key `k`: the first listed one, else the default `d k`. -/
def mapGet {α : Type} (d : Nat → α) : List (Nat × α) → Nat → α
  | [], k => d k
  | (j, v) :: m, k => if j = k then v else mapGet d m k

/-- The list with key `k` removed. -/
def mapErase {α : Type} : List (Nat × α) → Nat → List (Nat × α)
  | [], _ => []
  | (j, v) :: m, k => if j = k then mapErase m k else (j, v) :: mapErase m k

/-- The list with key `k` set to `v`, whatever the default is. -/
def mapInsert {α : Type} : List (Nat × α) → Nat → α → List (Nat × α)
  | [], k, v => [(k, v)]
  | (j, w) :: m, k, v =>
    if j = k then (k, v) :: m else if k < j then (k, v) :: (j, w) :: m else (j, w) :: mapInsert m k v

/-- The map with key `k` set to `v`: an entry equal to the default is removed, so the form stays canonical. -/
def mapSet {α : Type} [DecidableEq α] (d : Nat → α) (m : List (Nat × α)) (k : Nat) (v : α) : List (Nat × α) :=
  if v = d k then mapErase m k else mapInsert m k v

/-- The canonical form: keys strictly above `lo`, rising, no entry equal to the default. -/
def mapWfFrom {α : Type} [DecidableEq α] (d : Nat → α) : Nat → List (Nat × α) → Bool
  | _, [] => true
  | lo, (j, v) :: m => decide (lo ≤ j) && decide (v ≠ d j) && mapWfFrom d (j + 1) m

/-- The canonical form of a whole map. -/
def mapWf {α : Type} [DecidableEq α] (d : Nat → α) (m : List (Nat × α)) : Bool := mapWfFrom d 0 m

/-- The map of the keys `lo`, …, `lo + n - 1` to the values of `f`, the default elsewhere. -/
def mapBuildFrom {α : Type} [DecidableEq α] (d f : Nat → α) : Nat → Nat → List (Nat × α)
  | _, 0 => []
  | lo, n + 1 => if f lo = d lo then mapBuildFrom d f (lo + 1) n else (lo, f lo) :: mapBuildFrom d f (lo + 1) n

/-- The map of the keys below `n` to the values of `f`. -/
def mapBuild {α : Type} [DecidableEq α] (d : Nat → α) (n : Nat) (f : Nat → α) : List (Nat × α) :=
  mapBuildFrom d f 0 n

/-- The entries whose key fails `p`; the keys that meet it read as the default again. -/
def mapDrop {α : Type} (p : Nat → Bool) (m : List (Nat × α)) : List (Nat × α) := m.filter (fun e => !(p e.1))

/-- The values at the `n` consecutive keys from `k`, in one walk of the list. -/
def mapWalk {α : Type} (d : Nat → α) : List (Nat × α) → Nat → Nat → List α
  | _, _, 0 => []
  | [], k, n + 1 => d k :: mapWalk d [] (k + 1) n
  | (j, v) :: m, k, n + 1 =>
    if j = k then v :: mapWalk d m (k + 1) n else d k :: mapWalk d ((j, v) :: m) (k + 1) n

/-- The values at the `n` consecutive keys from `k`: the entries below `k` are passed over first. -/
def mapRead {α : Type} (d : Nat → α) (m : List (Nat × α)) (k n : Nat) : List α :=
  mapWalk d (m.dropWhile (fun e => e.1 < k)) k n

/-- The entries that the values of a list make at the consecutive keys from `k`: those equal to the default are left
out. -/
def mapRun {α : Type} [DecidableEq α] (d : Nat → α) : Nat → List α → List (Nat × α)
  | _, [] => []
  | k, v :: vs => if v = d k then mapRun d (k + 1) vs else (k, v) :: mapRun d (k + 1) vs

/-- The map with the consecutive keys from `k` set to the values of a list, in one pass: what lies below `k`, the new
run, what lies above. -/
def mapWrite {α : Type} [DecidableEq α] (d : Nat → α) (m : List (Nat × α)) (k : Nat) (vs : List α) : List (Nat × α) :=
  m.takeWhile (fun e => e.1 < k) ++ mapRun d k vs ++ m.dropWhile (fun e => e.1 < k + vs.length)

end Sys2Proof.Machine
end

