-- ==== Sys2Proof/Machine/Bits.lean ====
section
/-! DEFINITION. Bit fields, byte order and rounding helpers used by every unit: fields of registers (00 R4, R6),
little-endian bytes (00 R4), integer division by rounding to nearest even (02 R44) and by floor. -/

namespace Sys2Proof.Machine

/-- Bits [hi:lo] of a word as a number (00 R4). -/
def bits {w : Nat} (x : BitVec w) (hi lo : Nat) : Nat := (x.toNat >>> lo) % 2 ^ (hi + 1 - lo)

/-- Bit `i` of a word. -/
def bit {w : Nat} (x : BitVec w) (i : Nat) : Bool := x.getLsbD i

/-- The word with bits [hi:lo] replaced by the low bits of `v`. -/
def setBits {w : Nat} (x : BitVec w) (hi lo : Nat) (v : Nat) : BitVec w :=
  let m := BitVec.ofNat w ((2 ^ (hi + 1 - lo) - 1) <<< lo)
  (x &&& ~~~m) ||| (BitVec.ofNat w (v <<< lo) &&& m)

/-- The word with bit `i` set to `b`. -/
def setBit {w : Nat} (x : BitVec w) (i : Nat) (b : Bool) : BitVec w := setBits x i i (if b then 1 else 0)

/-- The mask of bits [hi:lo]. -/
def maskBits (hi lo : Nat) : Nat := (2 ^ (hi + 1 - lo) - 1) <<< lo

/-- A truth value as a number. -/
def b2n (b : Bool) : Nat := if b then 1 else 0

/-- The low `8 n` bits of a number as `n` bytes, least significant first (00 R4). -/
def toBytes : Nat → Nat → List Byte
  | 0, _ => []
  | n + 1, v => BitVec.ofNat 8 v :: toBytes n (v / 256)

/-- The number that a list of bytes spells, least significant first (00 R4). -/
def ofBytes : List Byte → Nat
  | [] => 0
  | b :: bs => b.toNat + 256 * ofBytes bs

/-- The two's complement value of the low `w` bits of a number. -/
def sext (w : Nat) (v : Nat) : Int :=
  let u := v % 2 ^ w
  if 2 * u < 2 ^ w then (u : Int) else (u : Int) - 2 ^ w

/-- Division of a number by 2^k rounded to the nearest, ties to even (02 R44). -/
def rneShiftNat (a k : Nat) : Nat :=
  let q := a / 2 ^ k
  let r := a % 2 ^ k
  if 2 * r > 2 ^ k then q + 1 else if 2 * r = 2 ^ k then q + q % 2 else q

/-- Division of an integer by 2^k rounded to the nearest, ties to even (02 R44). RNE is symmetric in sign. -/
def rneShift (a : Int) (k : Nat) : Int :=
  if a < 0 then - (rneShiftNat a.natAbs k : Int) else (rneShiftNat a.natAbs k : Int)

/-- Division of a by b > 0 rounded to the nearest, ties to even (02 R44). -/
def rneDivNat (a b : Nat) : Nat :=
  let q := a / b
  let r := a % b
  if 2 * r > b then q + 1 else if 2 * r = b then q + q % 2 else q

/-- Whether a right shift by k drops a nonzero bit. -/
def dropsBits (a : Int) (k : Nat) : Bool := a.natAbs % 2 ^ k ≠ 0

/-- floor(log2 a) for a > 0; 0 for 0. -/
def log2Floor (a : Nat) : Nat := Nat.log2 a

/-- Division rounded up. -/
def ceilDiv (a b : Nat) : Nat := (a + b - 1) / b

/-- The integer square root rounded down (13 R349). -/
def isqrtGo : Nat → Nat → Nat → Nat
  | 0, _, r => r
  | k + 1, n, r => let c := r + 2 ^ k; if c * c ≤ n then isqrtGo k n c else isqrtGo k n r

/-- The integer square root rounded down (13 R349). -/
def isqrt (n : Nat) : Nat := isqrtGo (Nat.log2 n / 2 + 1) n 0

/-- A counter that sticks at its largest value. -/
def stick (w : Nat) (v : Nat) : Nat := min v (2 ^ w - 1)

/-- The 32-bit rotation of 02 R47. -/
def rotl32 (x : W32) (n : Nat) : W32 := x.rotateLeft n

/-- CRC-16 of 08 R226: polynomial 0x1021, initial value 0xFFFF, most significant bit first. -/
def crc16Bit (c : W16) : W16 := if bit c 15 then (c <<< 1) ^^^ 0x1021#16 else c <<< 1

/-- One byte of the CRC-16 of 08 R226. -/
def crc16Byte (c : W16) (v : Byte) : W16 :=
  crc16Bit (crc16Bit (crc16Bit (crc16Bit (crc16Bit (crc16Bit (crc16Bit (crc16Bit (c ^^^ (v.setWidth 16 <<< 8)))))))))

/-- The CRC-16 of a byte string (08 R226). -/
def crc16 (bs : List Byte) : W16 := bs.foldl crc16Byte 0xFFFF#16

/-- One bit of the reflected CRC-32 of IEEE 802.3 (10 R265), polynomial 0xEDB88320. -/
def crc32Bit (c : W32) : W32 := if bit c 0 then (c >>> 1) ^^^ 0xEDB88320#32 else c >>> 1

/-- One byte of the CRC-32 of IEEE 802.3. -/
def crc32Byte (c : W32) (v : Byte) : W32 :=
  crc32Bit (crc32Bit (crc32Bit (crc32Bit (crc32Bit (crc32Bit (crc32Bit (crc32Bit (c ^^^ v.setWidth 32))))))))

/-- The CRC-32 of IEEE 802.3 of a byte string (10 R265, 12 R311, 17 R440). -/
def crc32 (bs : List Byte) : W32 := ~~~ (bs.foldl crc32Byte 0xFFFFFFFF#32)

/-- The bytes at positions lo, …, lo + n - 1 of a byte string, zero past its end. -/
def sliceBytes (bs : List Byte) (lo n : Nat) : List Byte :=
  (List.range n).map (fun i => bs.getD (lo + i) 0)

/-- The little-endian number in bytes lo, …, lo + n - 1 of a byte string. -/
def fieldBytes (bs : List Byte) (lo n : Nat) : Nat := ofBytes (sliceBytes bs lo n)

end Sys2Proof.Machine
end

