-- ==== Sys2Proof/Machine/Reg.lean ====
section
/-! DEFINITION. The register map of the device (18): one constructor of `Reg` per register, with its address (DPA),
width, reset value and the access types of its fields (00 R7, R6: a bit in no mask is reserved or read-only). -/

namespace Sys2Proof.Machine

/-- The registers of the device, one constructor per row of the Register Summary (18); arrays carry their indices.
Registers wider than 64 bits are arrays of 64-bit words accessed in pieces (18 R454). -/
inductive Reg where
  /-- MBX_CMD, indices m < 2. -/
  | mbxCmd (m : Nat)
  /-- MBX_STAT, indices m < 2. -/
  | mbxStat (m : Nat)
  /-- MBX_ARG, indices m < 2, i < 8. -/
  | mbxArg (m i : Nat)
  /-- MBX_DATA, indices m < 2, i < 16. -/
  | mbxData (m i : Nat)
  /-- MGC_KEYHASH, indices i < 48. -/
  | mgcKeyhash (i : Nat)
  /-- PWR_ICLK, indices c < 64. -/
  | pwrIclk (c : Nat)
  /-- PWR_RAIL, indices n < 30. -/
  | pwrRail (n : Nat)
  /-- PWR_TEMP, indices s < 111. -/
  | pwrTemp (s : Nat)
  /-- FLT_LOCK (64), indices i < 16. -/
  | fltLock (i : Nat)
  /-- FLT_COREPEND, indices k < 16. -/
  | fltCorepend (k : Nat)
  /-- SLOTMAP (64), indices c < 64. -/
  | slotmap (c : Nat)
  /-- SNP_SLOT_RBASE (64), indices k < 2. -/
  | slotRbase (k : Nat)
  /-- SNP_SLOT_DBASE (64), indices k < 2. -/
  | slotDbase (k : Nat)
  /-- SNP_SLOT_TRBASE (64), indices k < 2. -/
  | slotTrbase (k : Nat)
  /-- SNP_SLOT_STEP (64), indices k < 2. -/
  | slotStep (k : Nat)
  /-- SNP_SLOT_CLSEQ (64), indices k < 2. -/
  | slotClseq (k : Nat)
  /-- SNP_SLOT_ROOT (64), indices k < 2. -/
  | slotRoot (k : Nat)
  /-- SNP_SLOT_STATE, indices k < 2. -/
  | slotState (k : Nat)
  /-- SNP_SLOT_LEFT, indices k < 2. -/
  | slotLeft (k : Nat)
  /-- CHR_CTXMASK, indices k < 3. -/
  | chrCtxmask (k : Nat)
  /-- CHR_NARR, indices j < 128. -/
  | chrNarr (j : Nat)
  /-- PREG_CFG (64), indices u < 72, n < 32. -/
  | pregCfg (u n : Nat)
  /-- PREG_STAT (64), indices u < 72, n < 32. -/
  | pregStat (u n : Nat)
  /-- TRC_CTL, indices c < 512. -/
  | trcCtl (c : Nat)
  /-- TRC_PTR, indices c < 512. -/
  | trcPtr (c : Nat)
  /-- TRC_WIN (64), indices i < 512. -/
  | trcWin (i : Nat)
  /-- FAB_ABSENT, indices k < 16. -/
  | fabAbsent (k : Nat)
  /-- FAB_ROUTE, indices d < 512. -/
  | fabRoute (d : Nat)
  /-- FAB_XWIN (64), indices h < 32. -/
  | fabXwin (h : Nat)
  /-- PORT_CTL, indices p < 24. -/
  | portCtl (p : Nat)
  /-- PORT_STATUS, indices p < 24. -/
  | portStatus (p : Nat)
  /-- PORT_NBR, indices p < 24. -/
  | portNbr (p : Nat)
  /-- PORT_SOBASE (64), indices p < 24. -/
  | portSobase (p : Nat)
  /-- PORT_SOCNT, indices p < 24. -/
  | portSocnt (p : Nat)
  /-- PORT_SOPTR, indices p < 24. -/
  | portSoptr (p : Nat)
  /-- PORT_RETRY, indices p < 24. -/
  | portRetry (p : Nat)
  /-- LHP_PCTL, indices l < 2. -/
  | lhpPctl (l : Nat)
  /-- LHP_PSTAT, indices l < 2. -/
  | lhpPstat (l : Nat)
  /-- LHP_MAC (64), indices l < 2. -/
  | lhpMac (l : Nat)
  /-- LHP_NHMAC (64), indices l < 2. -/
  | lhpNhmac (l : Nat)
  /-- LHP_RXDROP, indices l < 2. -/
  | lhpRxdrop (l : Nat)
  /-- LHP_CRCERR, indices l < 2. -/
  | lhpCrcerr (l : Nat)
  /-- LUL_SRCIP (64), indices h < 2. -/
  | lulSrcip (h : Nat)
  /-- LUL_PEER (64), indices h < 256. -/
  | lulPeer (h : Nat)
  /-- STK_CHMAP, indices n < 8. -/
  | stkChmap (n : Nat)
  /-- STK_MIGPTR (64), indices n < 8. -/
  | stkMigptr (n : Nat)
  /-- STK_ECC, indices n < 8. -/
  | stkEcc (n : Nat)
  /-- STK_ERRLOG (64), indices n < 8. -/
  | stkErrlog (n : Nat)
  /-- STK_INIT, indices n < 8. -/
  | stkInit (n : Nat)
  /-- CDC_STATUS, indices n < 8. -/
  | cdcStatus (n : Nat)
  /-- CDC_TERR, indices n < 8. -/
  | cdcTerr (n : Nat)
  /-- CDC_TCMD, indices n < 8. -/
  | cdcTcmd (n : Nat)
  /-- CDC_TADDR (64), indices n < 8. -/
  | cdcTaddr (n : Nat)
  /-- CDC_TSLOT, indices n < 8, t < 4. -/
  | cdcTslot (n t : Nat)
  /-- CDC_CRCERR, indices n < 8. -/
  | cdcCrcerr (n : Nat)
  /-- BDP_ADDR (64), indices n < 8. -/
  | bdpAddr (n : Nat)
  /-- BDP_CTL, indices n < 8. -/
  | bdpCtl (n : Nat)
  /-- BDP_STAT, indices n < 8. -/
  | bdpStat (n : Nat)
  /-- BDP_ERRADDR (64), indices n < 8. -/
  | bdpErraddr (n : Nat)
  /-- ARB_PRIO0, indices i < 2344. -/
  | arbPrio0 (i : Nat)
  /-- ARB_PRIO1, indices i < 2344. -/
  | arbPrio1 (i : Nat)
  /-- ARB_AGECFG, indices i < 2344. -/
  | arbAgecfg (i : Nat)
  /-- ARB_STARVE, indices i < 2344. -/
  | arbStarve (i : Nat)
  /-- ARB_STATE, indices i < 2344. -/
  | arbState (i : Nat)
  /-- ARB_MAXAGE, indices i < 2344. -/
  | arbMaxage (i : Nat)
  /-- SEQ_CTL, indices c < 512. -/
  | seqCtl (c : Nat)
  /-- SEQ_STATUS, indices c < 512. -/
  | seqStatus (c : Nat)
  /-- CTXWIN, indices c < 512. -/
  | ctxwin (c : Nat)
  /-- CTXCMD, indices c < 512. -/
  | ctxcmd (c : Nat)
  /-- CTXSTATE, indices c < 512, k < 10. -/
  | ctxstate (c k : Nat)
  /-- SEQ_INTSTAT, indices c < 512. -/
  | seqIntstat (c : Nat)
  /-- SEQ_INTEN, indices c < 512. -/
  | seqInten (c : Nat)
  /-- EXCPEND, indices c < 512, k < 3. -/
  | excpend (c k : Nat)
  /-- TOKEN, indices c < 512, t < 256. -/
  | token (c t : Nat)
  /-- MXE_STATUS, indices c < 512. -/
  | mxeStatus (c : Nat)
  /-- MXE_ERR, indices c < 512. -/
  | mxeErr (c : Nat)
  /-- MXE_CTL, indices c < 512. -/
  | mxeCtl (c : Nat)
  /-- VXE_STATUS, indices c < 512. -/
  | vxeStatus (c : Nat)
  /-- VXE_ERR, indices c < 512. -/
  | vxeErr (c : Nat)
  /-- VXE_CTL, indices c < 512. -/
  | vxeCtl (c : Nat)
  /-- RDU_STATUS, indices c < 512. -/
  | rduStatus (c : Nat)
  /-- RDU_ERR, indices c < 512. -/
  | rduErr (c : Nat)
  /-- RDU_CTL, indices c < 512. -/
  | rduCtl (c : Nat)
  /-- GSE_STATUS, indices c < 512. -/
  | gseStatus (c : Nat)
  /-- GSE_ERR, indices c < 512. -/
  | gseErr (c : Nat)
  /-- GSE_CTL, indices c < 512. -/
  | gseCtl (c : Nat)
  /-- MVE_STATUS, indices c < 512. -/
  | mveStatus (c : Nat)
  /-- MVE_ERR, indices c < 512. -/
  | mveErr (c : Nat)
  /-- MVE_CTL, indices c < 512. -/
  | mveCtl (c : Nat)
  /-- MXE_ACSEL, indices c < 512. -/
  | mxeAcsel (c : Nat)
  /-- MXE_ACT, indices c < 512, n < 4. -/
  | mxeAct (c n : Nat)
  /-- MXE_ACWIN (64), indices c < 512, j < 64. -/
  | mxeAcwin (c j : Nat)
  /-- VXE_DBGSEL, indices c < 512. -/
  | vxeDbgsel (c : Nat)
  /-- VXE_DBGX (64), indices c < 512. -/
  | vxeDbgx (c : Nat)
  /-- VXE_PDBG (64), indices c < 512, n < 8. -/
  | vxePdbg (c n : Nat)
  /-- VXE_DBGWIN, indices c < 512, j < 64. -/
  | vxeDbgwin (c j : Nat)
  /-- RDU_RAS (64), indices c < 512, n < 8. -/
  | rduRas (c n : Nat)
  /-- RDU_RAX (64), indices c < 512, n < 8. -/
  | rduRax (c n : Nat)
  /-- GSE_ERRPOS, indices c < 512. -/
  | gseErrpos (c : Nat)
  /-- GSE_ERRIDX, indices c < 512. -/
  | gseErridx (c : Nat)
  /-- GSE_OOBCNT, indices c < 512. -/
  | gseOobcnt (c : Nat)
  /-- GSE_TDBG (64), indices c < 512, h < 32. -/
  | gseTdbg (c h : Nat)
  /-- MVE_ERRDESC (64), indices c < 512. -/
  | mveErrdesc (c : Nat)
  /-- MVE_ERRBLK (64), indices c < 512. -/
  | mveErrblk (c : Nat)
  /-- QBASE (64), indices c < 512, q < 64. -/
  | qbase (c q : Nat)
  /-- QCFG, indices c < 512, q < 64. -/
  | qcfg (c q : Nat)
  /-- QPTR, indices c < 512, q < 64. -/
  | qptr (c q : Nat)
  /-- PMC_CNT, indices s < 4203, i < 16. -/
  | pmcCnt (s i : Nat)
  /-- PMC_SETST, indices s < 4203. -/
  | pmcSetst (s : Nat)
  /-- MGC_ID. -/
  | mgcId
  /-- MGC_MFR. -/
  | mgcMfr
  /-- MGC_SERIAL (64). -/
  | mgcSerial
  /-- MGC_BOOTST. -/
  | mgcBootst
  /-- MGC_FUSE. -/
  | mgcFuse
  /-- MGC_STRAP. -/
  | mgcStrap
  /-- MGC_BOOTCMD. -/
  | mgcBootcmd
  /-- MGC_SMBALERT. -/
  | mgcSmbalert
  /-- PWR_MODE. -/
  | pwrMode
  /-- PWR_STATUS. -/
  | pwrStatus
  /-- PWR_INTEN. -/
  | pwrInten
  /-- PWR_CMD. -/
  | pwrCmd
  /-- PWR_MODESTEP (64). -/
  | pwrModestep
  /-- PWR_SAGCFG. -/
  | pwrSagcfg
  /-- PWR_THCFG. -/
  | pwrThcfg
  /-- PWR_THL1 (64). -/
  | pwrThl1
  /-- PWR_THL2 (64). -/
  | pwrThl2
  /-- PWR_THPORT. -/
  | pwrThport
  /-- PWR_TJACC (64). -/
  | pwrTjacc
  /-- PWR_TJTIME (64). -/
  | pwrTjtime
  /-- FLT_STATUS. -/
  | fltStatus
  /-- FLT_ISRC. -/
  | fltIsrc
  /-- FLT_HOSTEN. -/
  | fltHosten
  /-- FLT_MGCEN. -/
  | fltMgcen
  /-- FLT_WDCFG. -/
  | fltWdcfg
  /-- FLT_ESCCFG. -/
  | fltEsccfg
  /-- FLT_REPCFG. -/
  | fltRepcfg
  /-- FLT_REPTHR. -/
  | fltRepthr
  /-- FLT_CMD. -/
  | fltCmd
  /-- FLT_CMDST. -/
  | fltCmdst
  /-- FLT_CMDARG (64). -/
  | fltCmdarg
  /-- FLT_CMDARG2 (64). -/
  | fltCmdarg2
  /-- FLT_BUSYREC. -/
  | fltBusyrec
  /-- FLT_WDLOG (64). -/
  | fltWdlog
  /-- FLT_LOGBASE (64). -/
  | fltLogbase
  /-- FLT_LOGCFG. -/
  | fltLogcfg
  /-- FLT_LOGWP (64). -/
  | fltLogwp
  /-- FLT_LOGRP (64). -/
  | fltLogrp
  /-- FLT_LOGLOST. -/
  | fltLoglost
  /-- FLT_CLLOST (64). -/
  | fltCllost
  /-- FLT_DVBASE (64). -/
  | fltDvbase
  /-- FLT_DVCNT. -/
  | fltDvcnt
  /-- FLT_DVSEL. -/
  | fltDvsel
  /-- FLT_DUMPCFG. -/
  | fltDumpcfg
  /-- FLT_DUMPST. -/
  | fltDumpst
  /-- FLT_DUMPLEN (64). -/
  | fltDumplen
  /-- SNP_CTL. -/
  | snpCtl
  /-- SNP_STATUS. -/
  | snpStatus
  /-- SNP_INTEN. -/
  | snpInten
  /-- SNP_CLCFG. -/
  | snpClcfg
  /-- SNP_LBOUND. -/
  | snpLbound
  /-- SNP_ESTCFG. -/
  | snpEstcfg
  /-- SNP_RATE (64). -/
  | snpRate
  /-- SNP_ESTEV. -/
  | snpEstev
  /-- SNP_IVAL. -/
  | snpIval
  /-- SNP_LAST (64). -/
  | snpLast
  /-- SNP_FSTEP (64). -/
  | snpFstep
  /-- SNP_ALBASE (64). -/
  | snpAlbase
  /-- SNP_ALCNT. -/
  | snpAlcnt
  /-- SNP_SPBASE (64). -/
  | snpSpbase
  /-- SNP_SPN. -/
  | snpSpn
  /-- SNP_SPUSED. -/
  | snpSpused
  /-- SNP_RABASE (64). -/
  | snpRabase
  /-- SNP_RACFG. -/
  | snpRacfg
  /-- SNP_RAWP (64). -/
  | snpRawp
  /-- SNP_CMD. -/
  | snpCmd
  /-- SNP_PULLSEQ (64). -/
  | snpPullseq
  /-- DIFF_LOC (64). -/
  | diffLoc
  /-- DIFF_STEP (64). -/
  | diffStep
  /-- DIFF_OFF. -/
  | diffOff
  /-- DIFF_XOR (64). -/
  | diffXor
  /-- DIFF_NPG. -/
  | diffNpg
  /-- DIFF_OWN (64). -/
  | diffOwn
  /-- DIFF_TWIN (64). -/
  | diffTwin
  /-- SNP_SDCCNT. -/
  | snpSdccnt
  /-- CHR_CFG. -/
  | chrCfg
  /-- CHR_STATUS. -/
  | chrStatus
  /-- CHR_VOTE. -/
  | chrVote
  /-- CHR_VERMID. -/
  | chrVermid
  /-- CHR_STEP (64). -/
  | chrStep
  /-- CHR_DREC (64). -/
  | chrDrec
  /-- CHR_LS. -/
  | chrLs
  /-- CHR_LSCFG. -/
  | chrLscfg
  /-- CHR_INTEN. -/
  | chrInten
  /-- PMC_CTL. -/
  | pmcCtl
  /-- PMC_WIN. -/
  | pmcWin
  /-- PMC_STATUS. -/
  | pmcStatus
  /-- PMC_CMD. -/
  | pmcCmd
  /-- PMC_WINNO (64). -/
  | pmcWinno
  /-- PMC_TBASE (64). -/
  | pmcTbase
  /-- PMC_RBASE (64). -/
  | pmcRbase
  /-- PMC_RCFG. -/
  | pmcRcfg
  /-- PMC_RWP (64). -/
  | pmcRwp
  /-- PMC_RRP (64). -/
  | pmcRrp
  /-- DBG_CTL. -/
  | dbgCtl
  /-- DBG_STATUS. -/
  | dbgStatus
  /-- TRC_SEL. -/
  | trcSel
  /-- FAB_CFG. -/
  | fabCfg
  /-- FAB_STATUS. -/
  | fabStatus
  /-- FAB_CROAK. -/
  | fabCroak
  /-- FAB_SHADE. -/
  | fabShade
  /-- FAB_TWIN. -/
  | fabTwin
  /-- FAB_DEVID. -/
  | fabDevid
  /-- FAB_CHTREE (64). -/
  | fabChtree
  /-- FAB_SLACK (64). -/
  | fabSlack
  /-- FAB_BUSY. -/
  | fabBusy
  /-- LUL_CTL. -/
  | lulCtl
  /-- LUL_STATUS. -/
  | lulStatus
  /-- LUL_INTEN. -/
  | lulInten
  /-- LUL_SPAN. -/
  | lulSpan
  /-- LUL_BASE (64). -/
  | lulBase
  /-- LUL_PLIM. -/
  | lulPlim
  /-- LUL_DFULL. -/
  | lulDfull
  /-- LUL_DMAX. -/
  | lulDmax
  /-- LUL_TMR. -/
  | lulTmr
  /-- LUL_MARGIN. -/
  | lulMargin
  /-- LUL_DWIN. -/
  | lulDwin
  /-- LUL_MEMB (64). -/
  | lulMemb
  /-- LUL_JOINED (64). -/
  | lulJoined
  /-- LUL_SHBASE (64). -/
  | lulShbase
  /-- LUL_SHCNT. -/
  | lulShcnt
  /-- LUL_MLBASE (64). -/
  | lulMlbase
  /-- LUL_MLCFG. -/
  | lulMlcfg
  /-- LUL_MLWP (64). -/
  | lulMlwp
  /-- LUL_MLRP (64). -/
  | lulMlrp
  /-- LUL_RND (64). -/
  | lulRnd
  /-- LUL_TGT (64). -/
  | lulTgt
  /-- LUL_LMSTEP (64). -/
  | lulLmstep
  /-- LUL_OWD. -/
  | lulOwd
  /-- LUL_TSTEP. -/
  | lulTstep
  /-- LUL_DPAIR. -/
  | lulDpair
  /-- LUL_FDONE. -/
  | lulFdone
  /-- LUL_MDONE. -/
  | lulMdone
  /-- LUL_MSHIFT. -/
  | lulMshift
  /-- LUL_CMD. -/
  | lulCmd
  /-- LUL_UDP. -/
  | lulUdp
  /-- HST_BAR0ERR (64). -/
  | hstBar0err
  /-- HST_TSRXBASE (64). -/
  | hstTsrxbase
  /-- HST_TSTXBASE (64). -/
  | hstTstxbase
  /-- HST_TSCFG. -/
  | hstTscfg
  /-- HST_TSRXWP. -/
  | hstTsrxwp
  /-- HST_TSRXRP. -/
  | hstTsrxrp
  /-- HST_TSTXWP. -/
  | hstTstxwp
  /-- HST_TSTXRP. -/
  | hstTstxrp
  /-- HST_TSSTAT. -/
  | hstTsstat
  /-- TIM_CTL. -/
  | timCtl
  /-- TIM_STATUS. -/
  | timStatus
  /-- TIM_NOW (64). -/
  | timNow
  /-- TIM_TERR. -/
  | timTerr
  /-- TIM_HOLDT. -/
  | timHoldt
  /-- TIM_ADJ (64). -/
  | timAdj
  /-- TIM_TERRSW. -/
  | timTerrsw
  /-- ARB_SUMCSM (64). -/
  | arbSumcsm
  /-- ARB_SUMIO. -/
  | arbSumio
  /-- ARB_INTEN. -/
  | arbInten
  deriving DecidableEq, Repr

/-- The base of core `c`'s register block (01 R17, R21). -/
def coreBase (c : Nat) : Nat := 0xFF80000000 + c * 0x10000

/-- The offset in the ARB block of instance `i`'s 32-byte block (Table 11.3): instances 0 to 2047 are the CSM banks
(cluster x 32 + bank), 2048 to 2071 the fabric port egresses, 2072 to 2343 the stack channels (stack x 34 + channel). -/
def arbOffset (i : Nat) : Nat :=
  if i < 2048 then i * 0x20
  else if i < 2072 then 0x10000 + (i - 2048) * 0x20
  else 0x11000 + (i - 2072) / 34 * 0x800 + (i - 2072) % 34 * 0x20

/-- The address of counter set `s` (16 R414, Table 16.1). -/
def pmcSetBase (s : Nat) : Nat :=
  if s < 4096 then coreBase (s / 8) + s % 8 * 0x1000 + 0xF00
  else if s < 4120 then 0xFF00510080 + (s - 4096) * 0x100
  else if s < 4122 then 0xFF00600100 + (s - 4120) * 0x1000
  else if s < 4130 then 0xFF00700100 + (s - 4122) * 0x10000
  else if s < 4138 then 0xFF00708100 + (s - 4130) * 0x10000
  else if s < 4202 then 0xFF00410000 + (s - 4138) * 0x100
  else 0xFF00803F00

/-- The DPA of a register (01 R20, R21; 18). -/
def Reg.addr : Reg → Nat
  | .mgcId => 0xFF00000000 + 0x0 + (0x0)
  | .mgcMfr => 0xFF00000000 + 0x0 + (0x4)
  | .mgcSerial => 0xFF00000000 + 0x0 + (0x8)
  | .mgcBootst => 0xFF00000000 + 0x0 + (0x10)
  | .mgcFuse => 0xFF00000000 + 0x0 + (0x14)
  | .mgcStrap => 0xFF00000000 + 0x0 + (0x18)
  | .mgcBootcmd => 0xFF00000000 + 0x0 + (0x1c)
  | .mgcSmbalert => 0xFF00000000 + 0x0 + (0x20)
  | .mbxCmd m => 0xFF00000000 + 0x0 + (0x100 + m * 0x80)
  | .mbxStat m => 0xFF00000000 + 0x0 + (0x100 + m * 0x80 + 0x4)
  | .mbxArg m i => 0xFF00000000 + 0x0 + (0x100 + m * 0x80 + 0x10 + i * 4)
  | .mbxData m i => 0xFF00000000 + 0x0 + (0x100 + m * 0x80 + 0x40 + i * 4)
  | .mgcKeyhash i => 0xFF00000000 + 0x0 + (0x200 + i * 4)
  | .pwrMode => 0xFF00000000 + 0x100000 + (0x0)
  | .pwrStatus => 0xFF00000000 + 0x100000 + (0x4)
  | .pwrInten => 0xFF00000000 + 0x100000 + (0x8)
  | .pwrCmd => 0xFF00000000 + 0x100000 + (0xc)
  | .pwrModestep => 0xFF00000000 + 0x100000 + (0x10)
  | .pwrSagcfg => 0xFF00000000 + 0x100000 + (0x18)
  | .pwrThcfg => 0xFF00000000 + 0x100000 + (0x1c)
  | .pwrThl1 => 0xFF00000000 + 0x100000 + (0x20)
  | .pwrThl2 => 0xFF00000000 + 0x100000 + (0x28)
  | .pwrThport => 0xFF00000000 + 0x100000 + (0x30)
  | .pwrTjacc => 0xFF00000000 + 0x100000 + (0x38)
  | .pwrTjtime => 0xFF00000000 + 0x100000 + (0x40)
  | .pwrIclk c => 0xFF00000000 + 0x100000 + (0x100 + c * 4)
  | .pwrRail n => 0xFF00000000 + 0x100000 + (0x200 + n * 4)
  | .pwrTemp s => 0xFF00000000 + 0x100000 + (0x400 + s * 4)
  | .fltStatus => 0xFF00000000 + 0x200000 + (0x0)
  | .fltIsrc => 0xFF00000000 + 0x200000 + (0x4)
  | .fltHosten => 0xFF00000000 + 0x200000 + (0x8)
  | .fltMgcen => 0xFF00000000 + 0x200000 + (0xc)
  | .fltWdcfg => 0xFF00000000 + 0x200000 + (0x10)
  | .fltEsccfg => 0xFF00000000 + 0x200000 + (0x14)
  | .fltRepcfg => 0xFF00000000 + 0x200000 + (0x18)
  | .fltRepthr => 0xFF00000000 + 0x200000 + (0x1c)
  | .fltCmd => 0xFF00000000 + 0x200000 + (0x20)
  | .fltCmdst => 0xFF00000000 + 0x200000 + (0x24)
  | .fltCmdarg => 0xFF00000000 + 0x200000 + (0x28)
  | .fltCmdarg2 => 0xFF00000000 + 0x200000 + (0x30)
  | .fltBusyrec => 0xFF00000000 + 0x200000 + (0x38)
  | .fltWdlog => 0xFF00000000 + 0x200000 + (0x40)
  | .fltLogbase => 0xFF00000000 + 0x200000 + (0x48)
  | .fltLogcfg => 0xFF00000000 + 0x200000 + (0x50)
  | .fltLogwp => 0xFF00000000 + 0x200000 + (0x58)
  | .fltLogrp => 0xFF00000000 + 0x200000 + (0x60)
  | .fltLoglost => 0xFF00000000 + 0x200000 + (0x68)
  | .fltCllost => 0xFF00000000 + 0x200000 + (0x70)
  | .fltDvbase => 0xFF00000000 + 0x200000 + (0x78)
  | .fltDvcnt => 0xFF00000000 + 0x200000 + (0x80)
  | .fltDvsel => 0xFF00000000 + 0x200000 + (0x84)
  | .fltDumpcfg => 0xFF00000000 + 0x200000 + (0x88)
  | .fltDumpst => 0xFF00000000 + 0x200000 + (0x8c)
  | .fltDumplen => 0xFF00000000 + 0x200000 + (0x90)
  | .fltLock i => 0xFF00000000 + 0x200000 + (0x100 + i * 8)
  | .fltCorepend k => 0xFF00000000 + 0x200000 + (0x200 + k * 4)
  | .slotmap c => 0xFF00000000 + 0x200000 + (0x1000 + c * 8)
  | .snpCtl => 0xFF00000000 + 0x300000 + (0x0)
  | .snpStatus => 0xFF00000000 + 0x300000 + (0x4)
  | .snpInten => 0xFF00000000 + 0x300000 + (0x8)
  | .snpClcfg => 0xFF00000000 + 0x300000 + (0xc)
  | .snpLbound => 0xFF00000000 + 0x300000 + (0x10)
  | .snpEstcfg => 0xFF00000000 + 0x300000 + (0x14)
  | .snpRate => 0xFF00000000 + 0x300000 + (0x18)
  | .snpEstev => 0xFF00000000 + 0x300000 + (0x20)
  | .snpIval => 0xFF00000000 + 0x300000 + (0x24)
  | .snpLast => 0xFF00000000 + 0x300000 + (0x28)
  | .snpFstep => 0xFF00000000 + 0x300000 + (0x30)
  | .snpAlbase => 0xFF00000000 + 0x300000 + (0x38)
  | .snpAlcnt => 0xFF00000000 + 0x300000 + (0x40)
  | .snpSpbase => 0xFF00000000 + 0x300000 + (0x48)
  | .snpSpn => 0xFF00000000 + 0x300000 + (0x50)
  | .snpSpused => 0xFF00000000 + 0x300000 + (0x54)
  | .snpRabase => 0xFF00000000 + 0x300000 + (0x58)
  | .snpRacfg => 0xFF00000000 + 0x300000 + (0x60)
  | .snpRawp => 0xFF00000000 + 0x300000 + (0x68)
  | .snpCmd => 0xFF00000000 + 0x300000 + (0x80)
  | .snpPullseq => 0xFF00000000 + 0x300000 + (0x88)
  | .slotRbase k => 0xFF00000000 + 0x300000 + (0x100 + k * 0x80)
  | .slotDbase k => 0xFF00000000 + 0x300000 + (0x100 + k * 0x80 + 0x8)
  | .slotTrbase k => 0xFF00000000 + 0x300000 + (0x100 + k * 0x80 + 0x10)
  | .slotStep k => 0xFF00000000 + 0x300000 + (0x100 + k * 0x80 + 0x18)
  | .slotClseq k => 0xFF00000000 + 0x300000 + (0x100 + k * 0x80 + 0x20)
  | .slotRoot k => 0xFF00000000 + 0x300000 + (0x100 + k * 0x80 + 0x28)
  | .slotState k => 0xFF00000000 + 0x300000 + (0x100 + k * 0x80 + 0x30)
  | .slotLeft k => 0xFF00000000 + 0x300000 + (0x100 + k * 0x80 + 0x34)
  | .diffLoc => 0xFF00000000 + 0x300000 + (0x200)
  | .diffStep => 0xFF00000000 + 0x300000 + (0x208)
  | .diffOff => 0xFF00000000 + 0x300000 + (0x210)
  | .diffXor => 0xFF00000000 + 0x300000 + (0x218)
  | .diffNpg => 0xFF00000000 + 0x300000 + (0x220)
  | .diffOwn => 0xFF00000000 + 0x300000 + (0x228)
  | .diffTwin => 0xFF00000000 + 0x300000 + (0x230)
  | .snpSdccnt => 0xFF00000000 + 0x300000 + (0x240)
  | .chrCfg => 0xFF00000000 + 0x300000 + (0x80000)
  | .chrStatus => 0xFF00000000 + 0x300000 + (0x80004)
  | .chrVote => 0xFF00000000 + 0x300000 + (0x80008)
  | .chrVermid => 0xFF00000000 + 0x300000 + (0x8000c)
  | .chrStep => 0xFF00000000 + 0x300000 + (0x80010)
  | .chrDrec => 0xFF00000000 + 0x300000 + (0x80018)
  | .chrLs => 0xFF00000000 + 0x300000 + (0x80020)
  | .chrLscfg => 0xFF00000000 + 0x300000 + (0x80024)
  | .chrInten => 0xFF00000000 + 0x300000 + (0x80028)
  | .chrCtxmask k => 0xFF00000000 + 0x300000 + (0x80030 + k * 4)
  | .chrNarr j => 0xFF00000000 + 0x300000 + (0x80100 + j * 4)
  | .pregCfg u n => 0xFF00000000 + 0x300000 + (0x90000 + u * 0x200 + n * 0x10)
  | .pregStat u n => 0xFF00000000 + 0x300000 + (0x90008 + u * 0x200 + n * 0x10)
  | .pmcCtl => 0xFF00000000 + 0x400000 + (0x0)
  | .pmcWin => 0xFF00000000 + 0x400000 + (0x4)
  | .pmcStatus => 0xFF00000000 + 0x400000 + (0x8)
  | .pmcCmd => 0xFF00000000 + 0x400000 + (0xc)
  | .pmcWinno => 0xFF00000000 + 0x400000 + (0x10)
  | .pmcTbase => 0xFF00000000 + 0x400000 + (0x18)
  | .pmcRbase => 0xFF00000000 + 0x400000 + (0x20)
  | .pmcRcfg => 0xFF00000000 + 0x400000 + (0x28)
  | .pmcRwp => 0xFF00000000 + 0x400000 + (0x30)
  | .pmcRrp => 0xFF00000000 + 0x400000 + (0x38)
  | .dbgCtl => 0xFF00000000 + 0x400000 + (0x100)
  | .dbgStatus => 0xFF00000000 + 0x400000 + (0x104)
  | .trcSel => 0xFF00000000 + 0x400000 + (0x110)
  | .trcCtl c => 0xFF00000000 + 0x400000 + (0x20000 + c * 4)
  | .trcPtr c => 0xFF00000000 + 0x400000 + (0x21000 + c * 4)
  | .trcWin i => 0xFF00000000 + 0x400000 + (0x30000 + i * 8)
  | .fabCfg => 0xFF00000000 + 0x500000 + (0x0)
  | .fabStatus => 0xFF00000000 + 0x500000 + (0x4)
  | .fabCroak => 0xFF00000000 + 0x500000 + (0x8)
  | .fabShade => 0xFF00000000 + 0x500000 + (0xc)
  | .fabTwin => 0xFF00000000 + 0x500000 + (0x10)
  | .fabDevid => 0xFF00000000 + 0x500000 + (0x14)
  | .fabChtree => 0xFF00000000 + 0x500000 + (0x18)
  | .fabSlack => 0xFF00000000 + 0x500000 + (0x20)
  | .fabBusy => 0xFF00000000 + 0x500000 + (0x28)
  | .fabAbsent k => 0xFF00000000 + 0x500000 + (0x100 + k * 4)
  | .fabRoute d => 0xFF00000000 + 0x500000 + (0x1000 + d * 4)
  | .fabXwin h => 0xFF00000000 + 0x500000 + (0x2000 + h * 8)
  | .portCtl p => 0xFF00000000 + 0x500000 + (0x10000 + p * 0x100)
  | .portStatus p => 0xFF00000000 + 0x500000 + (0x10000 + p * 0x100 + 0x4)
  | .portNbr p => 0xFF00000000 + 0x500000 + (0x10000 + p * 0x100 + 0x8)
  | .portSobase p => 0xFF00000000 + 0x500000 + (0x10000 + p * 0x100 + 0x10)
  | .portSocnt p => 0xFF00000000 + 0x500000 + (0x10000 + p * 0x100 + 0x18)
  | .portSoptr p => 0xFF00000000 + 0x500000 + (0x10000 + p * 0x100 + 0x1C)
  | .portRetry p => 0xFF00000000 + 0x500000 + (0x10000 + p * 0x100 + 0x20)
  | .lhpPctl l => 0xFF00000000 + 0x600000 + (l * 0x1000)
  | .lhpPstat l => 0xFF00000000 + 0x600000 + (l * 0x1000 + 0x4)
  | .lhpMac l => 0xFF00000000 + 0x600000 + (l * 0x1000 + 0x8)
  | .lhpNhmac l => 0xFF00000000 + 0x600000 + (l * 0x1000 + 0x10)
  | .lhpRxdrop l => 0xFF00000000 + 0x600000 + (l * 0x1000 + 0x18)
  | .lhpCrcerr l => 0xFF00000000 + 0x600000 + (l * 0x1000 + 0x1C)
  | .lulCtl => 0xFF00000000 + 0x600000 + (0x8000)
  | .lulStatus => 0xFF00000000 + 0x600000 + (0x8004)
  | .lulInten => 0xFF00000000 + 0x600000 + (0x8008)
  | .lulSpan => 0xFF00000000 + 0x600000 + (0x800c)
  | .lulBase => 0xFF00000000 + 0x600000 + (0x8010)
  | .lulPlim => 0xFF00000000 + 0x600000 + (0x8018)
  | .lulDfull => 0xFF00000000 + 0x600000 + (0x801c)
  | .lulDmax => 0xFF00000000 + 0x600000 + (0x8020)
  | .lulTmr => 0xFF00000000 + 0x600000 + (0x8024)
  | .lulMargin => 0xFF00000000 + 0x600000 + (0x8028)
  | .lulDwin => 0xFF00000000 + 0x600000 + (0x802c)
  | .lulMemb => 0xFF00000000 + 0x600000 + (0x8030)
  | .lulJoined => 0xFF00000000 + 0x600000 + (0x8038)
  | .lulShbase => 0xFF00000000 + 0x600000 + (0x8040)
  | .lulShcnt => 0xFF00000000 + 0x600000 + (0x8048)
  | .lulMlbase => 0xFF00000000 + 0x600000 + (0x8050)
  | .lulMlcfg => 0xFF00000000 + 0x600000 + (0x8058)
  | .lulMlwp => 0xFF00000000 + 0x600000 + (0x8060)
  | .lulMlrp => 0xFF00000000 + 0x600000 + (0x8068)
  | .lulRnd => 0xFF00000000 + 0x600000 + (0x8070)
  | .lulTgt => 0xFF00000000 + 0x600000 + (0x8078)
  | .lulLmstep => 0xFF00000000 + 0x600000 + (0x8080)
  | .lulOwd => 0xFF00000000 + 0x600000 + (0x8088)
  | .lulTstep => 0xFF00000000 + 0x600000 + (0x808c)
  | .lulDpair => 0xFF00000000 + 0x600000 + (0x8090)
  | .lulFdone => 0xFF00000000 + 0x600000 + (0x80a0)
  | .lulMdone => 0xFF00000000 + 0x600000 + (0x80a4)
  | .lulMshift => 0xFF00000000 + 0x600000 + (0x80a8)
  | .lulCmd => 0xFF00000000 + 0x600000 + (0x80b0)
  | .lulSrcip h => 0xFF00000000 + 0x600000 + (0x8100 + h * 8)
  | .lulUdp => 0xFF00000000 + 0x600000 + (0x8110)
  | .lulPeer h => 0xFF00000000 + 0x600000 + (0xA000 + h * 8)
  | .stkChmap n => 0xFF00000000 + 0x700000 + (n * 0x10000)
  | .stkMigptr n => 0xFF00000000 + 0x700000 + (n * 0x10000 + 0x8)
  | .stkEcc n => 0xFF00000000 + 0x700000 + (n * 0x10000 + 0x10)
  | .stkErrlog n => 0xFF00000000 + 0x700000 + (n * 0x10000 + 0x18)
  | .stkInit n => 0xFF00000000 + 0x700000 + (n * 0x10000 + 0x20)
  | .cdcStatus n => 0xFF00000000 + 0x700000 + (n * 0x10000 + 0x8000)
  | .cdcTerr n => 0xFF00000000 + 0x700000 + (n * 0x10000 + 0x8004)
  | .cdcTcmd n => 0xFF00000000 + 0x700000 + (n * 0x10000 + 0x8010)
  | .cdcTaddr n => 0xFF00000000 + 0x700000 + (n * 0x10000 + 0x8018)
  | .cdcTslot n t => 0xFF00000000 + 0x700000 + (n * 0x10000 + 0x8040 + t * 4)
  | .cdcCrcerr n => 0xFF00000000 + 0x700000 + (n * 0x10000 + 0x8050)
  | .hstBar0err => 0xFF00000000 + 0x800000 + (0x8)
  | .bdpAddr n => 0xFF00000000 + 0x800000 + (0x1000 + n * 0x20)
  | .bdpCtl n => 0xFF00000000 + 0x800000 + (0x1000 + n * 0x20 + 0x8)
  | .bdpStat n => 0xFF00000000 + 0x800000 + (0x1000 + n * 0x20 + 0xC)
  | .bdpErraddr n => 0xFF00000000 + 0x800000 + (0x1000 + n * 0x20 + 0x10)
  | .hstTsrxbase => 0xFF00000000 + 0x800000 + (0x2000)
  | .hstTstxbase => 0xFF00000000 + 0x800000 + (0x2008)
  | .hstTscfg => 0xFF00000000 + 0x800000 + (0x2010)
  | .hstTsrxwp => 0xFF00000000 + 0x800000 + (0x2014)
  | .hstTsrxrp => 0xFF00000000 + 0x800000 + (0x2018)
  | .hstTstxwp => 0xFF00000000 + 0x800000 + (0x201c)
  | .hstTstxrp => 0xFF00000000 + 0x800000 + (0x2020)
  | .hstTsstat => 0xFF00000000 + 0x800000 + (0x2024)
  | .timCtl => 0xFF00000000 + 0x900000 + (0x0)
  | .timStatus => 0xFF00000000 + 0x900000 + (0x4)
  | .timNow => 0xFF00000000 + 0x900000 + (0x8)
  | .timTerr => 0xFF00000000 + 0x900000 + (0x10)
  | .timHoldt => 0xFF00000000 + 0x900000 + (0x14)
  | .timAdj => 0xFF00000000 + 0x900000 + (0x18)
  | .timTerrsw => 0xFF00000000 + 0x900000 + (0x20)
  | .arbPrio0 i => 0xFF00000000 + 0xA00000 + (arbOffset i)
  | .arbPrio1 i => 0xFF00000000 + 0xA00000 + (arbOffset i + 0x4)
  | .arbAgecfg i => 0xFF00000000 + 0xA00000 + (arbOffset i + 0x8)
  | .arbStarve i => 0xFF00000000 + 0xA00000 + (arbOffset i + 0xC)
  | .arbState i => 0xFF00000000 + 0xA00000 + (arbOffset i + 0x10)
  | .arbMaxage i => 0xFF00000000 + 0xA00000 + (arbOffset i + 0x14)
  | .arbSumcsm => 0xFF00000000 + 0xA00000 + (0x20000)
  | .arbSumio => 0xFF00000000 + 0xA00000 + (0x20008)
  | .arbInten => 0xFF00000000 + 0xA00000 + (0x20010)
  | .seqCtl c => coreBase c + (0x0)
  | .seqStatus c => coreBase c + (0x4)
  | .ctxwin c => coreBase c + (0x10)
  | .ctxcmd c => coreBase c + (0x20)
  | .ctxstate c k => coreBase c + (0x40 + k * 4)
  | .seqIntstat c => coreBase c + (0x80)
  | .seqInten c => coreBase c + (0x84)
  | .excpend c k => coreBase c + (0x90 + k * 4)
  | .token c t => coreBase c + (0x400 + t * 4)
  | .mxeStatus c => coreBase c + (0x1000)
  | .mxeErr c => coreBase c + (0x1004)
  | .mxeCtl c => coreBase c + (0x1008)
  | .vxeStatus c => coreBase c + (0x2000)
  | .vxeErr c => coreBase c + (0x2004)
  | .vxeCtl c => coreBase c + (0x2008)
  | .rduStatus c => coreBase c + (0x3000)
  | .rduErr c => coreBase c + (0x3004)
  | .rduCtl c => coreBase c + (0x3008)
  | .gseStatus c => coreBase c + (0x4000)
  | .gseErr c => coreBase c + (0x4004)
  | .gseCtl c => coreBase c + (0x4008)
  | .mveStatus c => coreBase c + (0x5000)
  | .mveErr c => coreBase c + (0x5004)
  | .mveCtl c => coreBase c + (0x5008)
  | .mxeAcsel c => coreBase c + (0x1010)
  | .mxeAct c n => coreBase c + (0x1020 + n * 4)
  | .mxeAcwin c j => coreBase c + (0x1200 + j * 8)
  | .vxeDbgsel c => coreBase c + (0x2010)
  | .vxeDbgx c => coreBase c + (0x2018)
  | .vxePdbg c n => coreBase c + (0x2100 + n * 8)
  | .vxeDbgwin c j => coreBase c + (0x2200 + j * 4)
  | .rduRas c n => coreBase c + (0x3100 + n * 16)
  | .rduRax c n => coreBase c + (0x3108 + n * 16)
  | .gseErrpos c => coreBase c + (0x400c)
  | .gseErridx c => coreBase c + (0x4010)
  | .gseOobcnt c => coreBase c + (0x4014)
  | .gseTdbg c h => coreBase c + (0x4100 + h * 8)
  | .mveErrdesc c => coreBase c + (0x5010)
  | .mveErrblk c => coreBase c + (0x5018)
  | .qbase c q => coreBase c + (0x6000 + q * 0x10)
  | .qcfg c q => coreBase c + (0x6008 + q * 0x10)
  | .qptr c q => coreBase c + (0x600C + q * 0x10)
  | .pmcCnt s i => pmcSetBase s + (i * 4)
  | .pmcSetst s => pmcSetBase s + (0x40)

/-- Whether a register is 64 bits wide (00 R5; 18). -/
def Reg.wide : Reg → Bool
  | .mgcSerial => true
  | .pwrModestep => true
  | .pwrThl1 => true
  | .pwrThl2 => true
  | .pwrTjacc => true
  | .pwrTjtime => true
  | .fltCmdarg => true
  | .fltCmdarg2 => true
  | .fltWdlog => true
  | .fltLogbase => true
  | .fltLogwp => true
  | .fltLogrp => true
  | .fltCllost => true
  | .fltDvbase => true
  | .fltDumplen => true
  | .fltLock _ => true
  | .slotmap _ => true
  | .snpRate => true
  | .snpLast => true
  | .snpFstep => true
  | .snpAlbase => true
  | .snpSpbase => true
  | .snpRabase => true
  | .snpRawp => true
  | .snpPullseq => true
  | .slotRbase _ => true
  | .slotDbase _ => true
  | .slotTrbase _ => true
  | .slotStep _ => true
  | .slotClseq _ => true
  | .slotRoot _ => true
  | .diffLoc => true
  | .diffStep => true
  | .diffXor => true
  | .diffOwn => true
  | .diffTwin => true
  | .chrStep => true
  | .chrDrec => true
  | .pregCfg _ _ => true
  | .pregStat _ _ => true
  | .pmcWinno => true
  | .pmcTbase => true
  | .pmcRbase => true
  | .pmcRwp => true
  | .pmcRrp => true
  | .trcWin _ => true
  | .fabChtree => true
  | .fabSlack => true
  | .fabXwin _ => true
  | .portSobase _ => true
  | .lhpMac _ => true
  | .lhpNhmac _ => true
  | .lulBase => true
  | .lulMemb => true
  | .lulJoined => true
  | .lulShbase => true
  | .lulMlbase => true
  | .lulMlwp => true
  | .lulMlrp => true
  | .lulRnd => true
  | .lulTgt => true
  | .lulLmstep => true
  | .lulSrcip _ => true
  | .lulPeer _ => true
  | .stkMigptr _ => true
  | .stkErrlog _ => true
  | .cdcTaddr _ => true
  | .hstBar0err => true
  | .bdpAddr _ => true
  | .bdpErraddr _ => true
  | .hstTsrxbase => true
  | .hstTstxbase => true
  | .timNow => true
  | .timAdj => true
  | .arbSumcsm => true
  | .mxeAcwin _ _ => true
  | .vxeDbgx _ => true
  | .vxePdbg _ _ => true
  | .rduRas _ _ => true
  | .rduRax _ _ => true
  | .gseTdbg _ _ => true
  | .mveErrdesc _ => true
  | .mveErrblk _ => true
  | .qbase _ _ => true
  | _ => false

/-- Whether a register is a 64-bit word of a wider register, accessed in pieces with no latch (18 R454). -/
def Reg.piece : Reg → Bool
  | .trcWin _ => true
  | .fabXwin _ => true
  | .lulSrcip _ => true
  | .lulPeer _ => true
  | .gseTdbg _ _ => true
  | _ => false

/-- The reset value of a register (18 Tables 18.3 to 18.15). Fused and repair-record registers read 0 until
a power-on loads them. -/
def Reg.resetValue : Reg → Nat
  | .mgcId => 0xA510100
  | .pwrSagcfg => 0x32000064
  | .pwrThcfg => 0x50A0205
  | .pwrIclk _ => 0x6400000
  | .fltMgcen => 0xFF
  | .fltWdcfg => 0x3E81401
  | .fltEsccfg => 0x400003
  | .fltRepcfg => 0x7
  | .fltRepthr => 0x27100100
  | .fltLogcfg => 0xA
  | .fltDvsel => 0xFF
  | .fltDumpcfg => 0x64
  | .slotmap _ => 0x1876543210
  | .snpClcfg => 0x40
  | .snpLbound => 0x1000
  | .snpEstcfg => 0x10000C
  | .snpIval => 0x40
  | .chrCfg => 0xFFFE0640
  | .chrLscfg => 0x7D03F00
  | .chrCtxmask k => if k = 2 then 0x0000FFFF else 0xFFFFFFFF
  | .chrNarr _ => 0x1010101
  | .pmcWin => 0x3E8
  | .pmcRcfg => 0x8
  | .fabCfg => 0xA400000
  | .fabCroak => 0x320008
  | .fabShade => 0xC471C7
  | .fabTwin => 0x80001716
  | .portCtl _ => 0x281000
  | .lulSpan => 0x200100
  | .lulPlim => 0x10000
  | .lulDfull => 0x2000
  | .lulDmax => 0x40000
  | .lulTmr => 0x3214141E
  | .lulMargin => 0x1E8480
  | .lulDwin => 0x40
  | .lulMlcfg => 0xC
  | .lulUdp => 0x4C754C75
  | .hstTscfg => 0x404
  | .timCtl => 0x250000
  | .timTerr => 0x64
  | .timTerrsw => 0x64
  | .arbAgecfg _ => 0x400
  | .arbState _ => 0x100
  | .seqCtl _ => 0x3F00
  | .gseCtl _ => 0x6400
  | _ => 0

/-- The RW bits of a register (00 R7). -/
def Reg.rwMask : Reg → Nat
  | .mgcSmbalert => 0xFF
  | .mbxCmd _ => 0xFF
  | .mbxArg _ _ => 0xFFFFFFFF
  | .pwrMode => 0x30000
  | .pwrInten => 0xFF0
  | .pwrModestep => 0xFFFFFFFFFFFFFFFF
  | .pwrSagcfg => 0xFF00FFFF
  | .pwrThcfg => 0xFFFFFFFF
  | .pwrIclk _ => 0xFFF
  | .fltHosten => 0xFF
  | .fltMgcen => 0xFF
  | .fltWdcfg => 0xFFFFFF01
  | .fltEsccfg => 0xFFFF0007
  | .fltRepcfg => 0x7
  | .fltRepthr => 0xFFFFFFFF
  | .fltCmdarg => 0xFFFFFFFFFFFFFFFF
  | .fltCmdarg2 => 0xFFFFFFFFFFFFFFFF
  | .fltLogbase => 0xFFFFFFFFFFE0
  | .fltLogcfg => 0x1F
  | .fltLogrp => 0xFFFFFFFFFFFFFFFF
  | .fltDvbase => 0xFFFFFFFFFFC0
  | .fltDvcnt => 0xFF
  | .fltDumpcfg => 0xFFFF
  | .snpCtl => 0x80000030
  | .snpInten => 0xFFF0
  | .snpClcfg => 0xFFFF
  | .snpLbound => 0xFFFFFFFF
  | .snpEstcfg => 0xFFFF001F
  | .snpRate => 0xFFFFFFFFFFFFFFFF
  | .snpFstep => 0xFFFFFFFFFFFFFFFF
  | .snpAlbase => 0xFFFFFFFFFFE0
  | .snpAlcnt => 0x7FF
  | .snpSpbase => 0xFFFFFFFF0000
  | .snpSpn => 0xFFFF
  | .snpRabase => 0xFFFFFFFF0000
  | .snpRacfg => 0x9F
  | .slotRbase _ => 0xFFFFFFFF0000
  | .slotDbase _ => 0xFFFFFFFFFFF8
  | .slotTrbase _ => 0xFFFFFFFF0000
  | .chrCfg => 0xFFFFFFF3
  | .chrVermid => 0xFFFFFFFF
  | .chrStep => 0xFFFFFFFFFFFFFFFF
  | .chrLs => 0xFFFF003F
  | .chrLscfg => 0xFFFF3F3F
  | .chrInten => 0xFC
  | .chrCtxmask k => if k = 2 then 0x0000FFFF else 0xFFFFFFFF
  | .chrNarr _ => 0xFFFFFFFF
  | .pregCfg _ _ => 0x8000FFFFFFFFFFFF
  | .pmcCtl => 0x8000007F
  | .pmcWin => 0xFFFFF
  | .pmcTbase => 0xFFFFFFFFFFF0
  | .pmcRbase => 0xFFFFFFFFFE00
  | .pmcRcfg => 0x1F
  | .pmcRrp => 0xFFFFFFFFFFFFFFFF
  | .dbgCtl => 0x1
  | .trcSel => 0x1FF
  | .trcCtl _ => 0xC0FE00FF
  | .fabCfg => 0xFFFF0000
  | .fabCroak => 0xFFFF00FF
  | .fabShade => 0xFFFFFF
  | .fabTwin => 0x80001F1F
  | .fabDevid => 0x1FF
  | .fabChtree => 0xFFFFFFFFFFC0
  | .fabRoute _ => 0x9F
  | .fabXwin h => if h % 2 = 0 then 0xFFFFFFFFF00B else 0xFFFFFFFFF000
  | .portCtl _ => 0x80FF1F00
  | .portNbr _ => 0x801F01FF
  | .portSobase _ => 0xFFFFFFFFFFF0
  | .portSocnt _ => 0xFFFFFF
  | .lhpPctl _ => 0x8FFF3F03
  | .lhpMac _ => 0xFFFFFFFFFFFF
  | .lhpNhmac _ => 0xFFFFFFFFFFFF
  | .lulCtl => 0xF0003F00
  | .lulInten => 0x3FF
  | .lulSpan => 0x1FFF1FFF
  | .lulBase => 0xFFFFFFFFFFFFFFFF
  | .lulPlim => 0xFFFFFFFF
  | .lulDfull => 0xFFFFFFFF
  | .lulDmax => 0xFFFFFFFF
  | .lulTmr => 0xFFFFFFFF
  | .lulMargin => 0xFFFFFFFF
  | .lulDwin => 0xFF
  | .lulMemb => 0xFFFFFFFFFFFFFFFF
  | .lulShbase => 0xFFFFFFFFFFC0
  | .lulShcnt => 0x1FF
  | .lulMlbase => 0xFFFFFFFFFFE0
  | .lulMlcfg => 0x1F
  | .lulMlrp => 0xFFFFFFFFFFFFFFFF
  | .lulSrcip _ => 0xFFFFFFFFFFFFFFFF
  | .lulUdp => 0xFFFFFFFF
  | .lulPeer h => if h % 4 < 2 then 0xFFFFFFFFFFFFFFFF else if h % 4 = 2 then 1 else 0
  | .cdcTaddr _ => 0xFFFFFFFFFFFC
  | .bdpAddr _ => 0xFFFFFFFFFFFF
  | .bdpCtl _ => 0x7
  | .hstTsrxbase => 0xFFFFFFFFFF00
  | .hstTstxbase => 0xFFFFFFFFFF00
  | .hstTscfg => 0x80000F0F
  | .hstTsrxrp => 0xFFFF
  | .hstTstxwp => 0xFFFF
  | .timCtl => 0xFF001D
  | .timTerrsw => 0xFFFFFFFF
  | .arbPrio0 _ => 0xFFFFFFFF
  | .arbPrio1 _ => 0xFFFFFFFF
  | .arbAgecfg _ => 0xFFFF
  | .arbInten => 0x7
  | .seqCtl _ => 0xFF01
  | .ctxwin _ => 0x7F
  | .seqInten _ => 0x7
  | .token _ _ => 0xFFFFFFFF
  | .mxeCtl _ => 0x1
  | .vxeCtl _ => 0x1
  | .rduCtl _ => 0x1
  | .gseCtl _ => 0xFFFF01
  | .mveCtl _ => 0x1
  | .mxeAcsel _ => 0x3F03
  | .vxeDbgsel _ => 0x13F1F
  | .qbase _ _ => 0x1FFFFFFFFFFFFC0
  | .qcfg _ _ => 0x807FFF0F
  | _ => 0

/-- The W1C bits of a register (00 R7). -/
def Reg.w1cMask : Reg → Nat
  | .pwrStatus => 0xFF1
  | .fltStatus => 0xFF0
  | .snpStatus => 0xFFF0
  | .diffLoc => 0x8000000000000000
  | .chrStatus => 0xFC
  | .pmcStatus => 0xF
  | .dbgStatus => 0x2
  | .fabStatus => 0x7000000
  | .fabAbsent _ => 0xFFFFFFFF
  | .portStatus _ => 0xF
  | .lhpPstat _ => 0x1
  | .lulStatus => 0x3FF
  | .cdcStatus _ => 0x3
  | .hstBar0err => 0x8000000000000000
  | .bdpStat _ => 0x1
  | .hstTsstat => 0x1
  | .timStatus => 0x7
  | .arbStarve _ => 0xFFFF
  | .seqStatus _ => 0x3
  | .seqIntstat _ => 0x7
  | .mxeErr _ => 0x100
  | .vxeErr _ => 0x100
  | .rduStatus _ => 0x100
  | .rduErr _ => 0x100
  | .gseStatus _ => 0x1C00
  | .gseErr _ => 0x100
  | .mveErr _ => 0x100
  | .qptr _ _ => 0x80000000
  | _ => 0

/-- The W1S bits of a register (00 R7). -/
def Reg.w1sMask : Reg → Nat
  | .mbxCmd _ => 0x80000000
  | .chrVote => 0x3
  | _ => 0

/-- The RC bits of a register (00 R7). -/
def Reg.rcMask : Reg → Nat
  | .pwrRail _ => 0xFFFF
  | .pwrTemp _ => 0xFFFF
  | .fltLoglost => 0xFFFFFFFF
  | .snpSdccnt => 0xFFFFFFFF
  | .portRetry _ => 0xFFFFFFFF
  | .lhpRxdrop _ => 0xFFFFFFFF
  | .lhpCrcerr _ => 0xFFFFFFFF
  | .stkEcc _ => 0xFFFFFFFF
  | .cdcCrcerr _ => 0xFFFFFFFF
  | .arbMaxage _ => 0xFFFFF
  | .gseOobcnt _ => 0xFFFFFFFF
  | _ => 0

/-- The WO bits of a register (00 R7): a read of them returns 0, a write triggers the action. -/
def Reg.woMask : Reg → Nat
  | .mgcBootcmd => 0xFFFFF
  | .pwrCmd => 0xF
  | .fltCmd => 0xF
  | .snpEstev => 0x1
  | .snpCmd => 0x11F
  | .pmcCmd => 0xF
  | .lulFdone => 0xFF
  | .lulMdone => 0xFF
  | .lulCmd => 0x3F00000F
  | .cdcTcmd _ => 0x33
  | .timAdj => 0xFFFFFFFFFFFFFFFF
  | .ctxcmd _ => 0x7F000F
  | _ => 0

/-- One row of the decode: offset, first stride and count, second stride and count, and the register. -/
abbrev RegRow := Nat × Nat × Nat × Nat × Nat × (Nat → Nat → Reg)

/-- The register of the first row whose array has an element exactly at offset `o`. -/
def regFind (o : Nat) : List RegRow → Option Reg
  | [] => none
  | (lo, s1, n1, s2, n2, f) :: rs =>
    let r := o - lo
    if lo ≤ o ∧ r / s1 < n1 ∧ r % s1 / s2 < n2 ∧ r % s1 % s2 = 0 then some (f (r / s1) (r % s1 / s2))
    else regFind o rs

/-- The decode rows of the MGC block. -/
def mgcRows : List RegRow :=
  [(0x0, 0x1, 1, 0x1, 1, fun _ _ => .mgcId),
   (0x4, 0x1, 1, 0x1, 1, fun _ _ => .mgcMfr),
   (0x8, 0x1, 1, 0x1, 1, fun _ _ => .mgcSerial),
   (0x10, 0x1, 1, 0x1, 1, fun _ _ => .mgcBootst),
   (0x14, 0x1, 1, 0x1, 1, fun _ _ => .mgcFuse),
   (0x18, 0x1, 1, 0x1, 1, fun _ _ => .mgcStrap),
   (0x1C, 0x1, 1, 0x1, 1, fun _ _ => .mgcBootcmd),
   (0x20, 0x1, 1, 0x1, 1, fun _ _ => .mgcSmbalert),
   (0x100, 0x80, 2, 0x80, 1, fun i _ => .mbxCmd i),
   (0x104, 0x80, 2, 0x80, 1, fun i _ => .mbxStat i),
   (0x110, 0x80, 2, 0x4, 8, fun i j => .mbxArg i j),
   (0x140, 0x80, 2, 0x4, 16, fun i j => .mbxData i j),
   (0x200, 0x4, 48, 0x4, 1, fun i _ => .mgcKeyhash i)]

/-- The decode rows of the PWR block. -/
def pwrRows : List RegRow :=
  [(0x0, 0x1, 1, 0x1, 1, fun _ _ => .pwrMode),
   (0x4, 0x1, 1, 0x1, 1, fun _ _ => .pwrStatus),
   (0x8, 0x1, 1, 0x1, 1, fun _ _ => .pwrInten),
   (0xC, 0x1, 1, 0x1, 1, fun _ _ => .pwrCmd),
   (0x10, 0x1, 1, 0x1, 1, fun _ _ => .pwrModestep),
   (0x18, 0x1, 1, 0x1, 1, fun _ _ => .pwrSagcfg),
   (0x1C, 0x1, 1, 0x1, 1, fun _ _ => .pwrThcfg),
   (0x20, 0x1, 1, 0x1, 1, fun _ _ => .pwrThl1),
   (0x28, 0x1, 1, 0x1, 1, fun _ _ => .pwrThl2),
   (0x30, 0x1, 1, 0x1, 1, fun _ _ => .pwrThport),
   (0x38, 0x1, 1, 0x1, 1, fun _ _ => .pwrTjacc),
   (0x40, 0x1, 1, 0x1, 1, fun _ _ => .pwrTjtime),
   (0x100, 0x4, 64, 0x4, 1, fun i _ => .pwrIclk i),
   (0x200, 0x4, 30, 0x4, 1, fun i _ => .pwrRail i),
   (0x400, 0x4, 111, 0x4, 1, fun i _ => .pwrTemp i)]

/-- The decode rows of the FLT block. -/
def fltRows : List RegRow :=
  [(0x0, 0x1, 1, 0x1, 1, fun _ _ => .fltStatus),
   (0x4, 0x1, 1, 0x1, 1, fun _ _ => .fltIsrc),
   (0x8, 0x1, 1, 0x1, 1, fun _ _ => .fltHosten),
   (0xC, 0x1, 1, 0x1, 1, fun _ _ => .fltMgcen),
   (0x10, 0x1, 1, 0x1, 1, fun _ _ => .fltWdcfg),
   (0x14, 0x1, 1, 0x1, 1, fun _ _ => .fltEsccfg),
   (0x18, 0x1, 1, 0x1, 1, fun _ _ => .fltRepcfg),
   (0x1C, 0x1, 1, 0x1, 1, fun _ _ => .fltRepthr),
   (0x20, 0x1, 1, 0x1, 1, fun _ _ => .fltCmd),
   (0x24, 0x1, 1, 0x1, 1, fun _ _ => .fltCmdst),
   (0x28, 0x1, 1, 0x1, 1, fun _ _ => .fltCmdarg),
   (0x30, 0x1, 1, 0x1, 1, fun _ _ => .fltCmdarg2),
   (0x38, 0x1, 1, 0x1, 1, fun _ _ => .fltBusyrec),
   (0x40, 0x1, 1, 0x1, 1, fun _ _ => .fltWdlog),
   (0x48, 0x1, 1, 0x1, 1, fun _ _ => .fltLogbase),
   (0x50, 0x1, 1, 0x1, 1, fun _ _ => .fltLogcfg),
   (0x58, 0x1, 1, 0x1, 1, fun _ _ => .fltLogwp),
   (0x60, 0x1, 1, 0x1, 1, fun _ _ => .fltLogrp),
   (0x68, 0x1, 1, 0x1, 1, fun _ _ => .fltLoglost),
   (0x70, 0x1, 1, 0x1, 1, fun _ _ => .fltCllost),
   (0x78, 0x1, 1, 0x1, 1, fun _ _ => .fltDvbase),
   (0x80, 0x1, 1, 0x1, 1, fun _ _ => .fltDvcnt),
   (0x84, 0x1, 1, 0x1, 1, fun _ _ => .fltDvsel),
   (0x88, 0x1, 1, 0x1, 1, fun _ _ => .fltDumpcfg),
   (0x8C, 0x1, 1, 0x1, 1, fun _ _ => .fltDumpst),
   (0x90, 0x1, 1, 0x1, 1, fun _ _ => .fltDumplen),
   (0x100, 0x8, 16, 0x8, 1, fun i _ => .fltLock i),
   (0x200, 0x4, 16, 0x4, 1, fun i _ => .fltCorepend i),
   (0x1000, 0x8, 64, 0x8, 1, fun i _ => .slotmap i)]

/-- The decode rows of the SNP block. -/
def snpRows : List RegRow :=
  [(0x0, 0x1, 1, 0x1, 1, fun _ _ => .snpCtl),
   (0x4, 0x1, 1, 0x1, 1, fun _ _ => .snpStatus),
   (0x8, 0x1, 1, 0x1, 1, fun _ _ => .snpInten),
   (0xC, 0x1, 1, 0x1, 1, fun _ _ => .snpClcfg),
   (0x10, 0x1, 1, 0x1, 1, fun _ _ => .snpLbound),
   (0x14, 0x1, 1, 0x1, 1, fun _ _ => .snpEstcfg),
   (0x18, 0x1, 1, 0x1, 1, fun _ _ => .snpRate),
   (0x20, 0x1, 1, 0x1, 1, fun _ _ => .snpEstev),
   (0x24, 0x1, 1, 0x1, 1, fun _ _ => .snpIval),
   (0x28, 0x1, 1, 0x1, 1, fun _ _ => .snpLast),
   (0x30, 0x1, 1, 0x1, 1, fun _ _ => .snpFstep),
   (0x38, 0x1, 1, 0x1, 1, fun _ _ => .snpAlbase),
   (0x40, 0x1, 1, 0x1, 1, fun _ _ => .snpAlcnt),
   (0x48, 0x1, 1, 0x1, 1, fun _ _ => .snpSpbase),
   (0x50, 0x1, 1, 0x1, 1, fun _ _ => .snpSpn),
   (0x54, 0x1, 1, 0x1, 1, fun _ _ => .snpSpused),
   (0x58, 0x1, 1, 0x1, 1, fun _ _ => .snpRabase),
   (0x60, 0x1, 1, 0x1, 1, fun _ _ => .snpRacfg),
   (0x68, 0x1, 1, 0x1, 1, fun _ _ => .snpRawp),
   (0x80, 0x1, 1, 0x1, 1, fun _ _ => .snpCmd),
   (0x88, 0x1, 1, 0x1, 1, fun _ _ => .snpPullseq),
   (0x100, 0x80, 2, 0x80, 1, fun i _ => .slotRbase i),
   (0x108, 0x80, 2, 0x80, 1, fun i _ => .slotDbase i),
   (0x110, 0x80, 2, 0x80, 1, fun i _ => .slotTrbase i),
   (0x118, 0x80, 2, 0x80, 1, fun i _ => .slotStep i),
   (0x120, 0x80, 2, 0x80, 1, fun i _ => .slotClseq i),
   (0x128, 0x80, 2, 0x80, 1, fun i _ => .slotRoot i),
   (0x130, 0x80, 2, 0x80, 1, fun i _ => .slotState i),
   (0x134, 0x80, 2, 0x80, 1, fun i _ => .slotLeft i),
   (0x200, 0x1, 1, 0x1, 1, fun _ _ => .diffLoc),
   (0x208, 0x1, 1, 0x1, 1, fun _ _ => .diffStep),
   (0x210, 0x1, 1, 0x1, 1, fun _ _ => .diffOff),
   (0x218, 0x1, 1, 0x1, 1, fun _ _ => .diffXor),
   (0x220, 0x1, 1, 0x1, 1, fun _ _ => .diffNpg),
   (0x228, 0x1, 1, 0x1, 1, fun _ _ => .diffOwn),
   (0x230, 0x1, 1, 0x1, 1, fun _ _ => .diffTwin),
   (0x240, 0x1, 1, 0x1, 1, fun _ _ => .snpSdccnt),
   (0x80000, 0x1, 1, 0x1, 1, fun _ _ => .chrCfg),
   (0x80004, 0x1, 1, 0x1, 1, fun _ _ => .chrStatus),
   (0x80008, 0x1, 1, 0x1, 1, fun _ _ => .chrVote),
   (0x8000C, 0x1, 1, 0x1, 1, fun _ _ => .chrVermid),
   (0x80010, 0x1, 1, 0x1, 1, fun _ _ => .chrStep),
   (0x80018, 0x1, 1, 0x1, 1, fun _ _ => .chrDrec),
   (0x80020, 0x1, 1, 0x1, 1, fun _ _ => .chrLs),
   (0x80024, 0x1, 1, 0x1, 1, fun _ _ => .chrLscfg),
   (0x80028, 0x1, 1, 0x1, 1, fun _ _ => .chrInten),
   (0x80030, 0x4, 3, 0x4, 1, fun i _ => .chrCtxmask i),
   (0x80100, 0x4, 128, 0x4, 1, fun i _ => .chrNarr i),
   (0x90000, 0x200, 72, 0x10, 32, fun i j => .pregCfg i j),
   (0x90008, 0x200, 72, 0x10, 32, fun i j => .pregStat i j)]

/-- The decode rows of the PMC block. -/
def pmcRows : List RegRow :=
  [(0x0, 0x1, 1, 0x1, 1, fun _ _ => .pmcCtl),
   (0x4, 0x1, 1, 0x1, 1, fun _ _ => .pmcWin),
   (0x8, 0x1, 1, 0x1, 1, fun _ _ => .pmcStatus),
   (0xC, 0x1, 1, 0x1, 1, fun _ _ => .pmcCmd),
   (0x10, 0x1, 1, 0x1, 1, fun _ _ => .pmcWinno),
   (0x18, 0x1, 1, 0x1, 1, fun _ _ => .pmcTbase),
   (0x20, 0x1, 1, 0x1, 1, fun _ _ => .pmcRbase),
   (0x28, 0x1, 1, 0x1, 1, fun _ _ => .pmcRcfg),
   (0x30, 0x1, 1, 0x1, 1, fun _ _ => .pmcRwp),
   (0x38, 0x1, 1, 0x1, 1, fun _ _ => .pmcRrp),
   (0x100, 0x1, 1, 0x1, 1, fun _ _ => .dbgCtl),
   (0x104, 0x1, 1, 0x1, 1, fun _ _ => .dbgStatus),
   (0x110, 0x1, 1, 0x1, 1, fun _ _ => .trcSel),
   (0x20000, 0x4, 512, 0x4, 1, fun i _ => .trcCtl i),
   (0x21000, 0x4, 512, 0x4, 1, fun i _ => .trcPtr i),
   (0x30000, 0x8, 512, 0x8, 1, fun i _ => .trcWin i)]

/-- The decode rows of the FAB block. -/
def fabRows : List RegRow :=
  [(0x0, 0x1, 1, 0x1, 1, fun _ _ => .fabCfg),
   (0x4, 0x1, 1, 0x1, 1, fun _ _ => .fabStatus),
   (0x8, 0x1, 1, 0x1, 1, fun _ _ => .fabCroak),
   (0xC, 0x1, 1, 0x1, 1, fun _ _ => .fabShade),
   (0x10, 0x1, 1, 0x1, 1, fun _ _ => .fabTwin),
   (0x14, 0x1, 1, 0x1, 1, fun _ _ => .fabDevid),
   (0x18, 0x1, 1, 0x1, 1, fun _ _ => .fabChtree),
   (0x20, 0x1, 1, 0x1, 1, fun _ _ => .fabSlack),
   (0x28, 0x1, 1, 0x1, 1, fun _ _ => .fabBusy),
   (0x100, 0x4, 16, 0x4, 1, fun i _ => .fabAbsent i),
   (0x1000, 0x4, 512, 0x4, 1, fun i _ => .fabRoute i),
   (0x2000, 0x8, 32, 0x8, 1, fun i _ => .fabXwin i),
   (0x10000, 0x100, 24, 0x100, 1, fun i _ => .portCtl i),
   (0x10004, 0x100, 24, 0x100, 1, fun i _ => .portStatus i),
   (0x10008, 0x100, 24, 0x100, 1, fun i _ => .portNbr i),
   (0x10010, 0x100, 24, 0x100, 1, fun i _ => .portSobase i),
   (0x10018, 0x100, 24, 0x100, 1, fun i _ => .portSocnt i),
   (0x1001C, 0x100, 24, 0x100, 1, fun i _ => .portSoptr i),
   (0x10020, 0x100, 24, 0x100, 1, fun i _ => .portRetry i)]

/-- The decode rows of the LHP block. -/
def lhpRows : List RegRow :=
  [(0x0, 0x1000, 2, 0x1000, 1, fun i _ => .lhpPctl i),
   (0x4, 0x1000, 2, 0x1000, 1, fun i _ => .lhpPstat i),
   (0x8, 0x1000, 2, 0x1000, 1, fun i _ => .lhpMac i),
   (0x10, 0x1000, 2, 0x1000, 1, fun i _ => .lhpNhmac i),
   (0x18, 0x1000, 2, 0x1000, 1, fun i _ => .lhpRxdrop i),
   (0x1C, 0x1000, 2, 0x1000, 1, fun i _ => .lhpCrcerr i),
   (0x8000, 0x1, 1, 0x1, 1, fun _ _ => .lulCtl),
   (0x8004, 0x1, 1, 0x1, 1, fun _ _ => .lulStatus),
   (0x8008, 0x1, 1, 0x1, 1, fun _ _ => .lulInten),
   (0x800C, 0x1, 1, 0x1, 1, fun _ _ => .lulSpan),
   (0x8010, 0x1, 1, 0x1, 1, fun _ _ => .lulBase),
   (0x8018, 0x1, 1, 0x1, 1, fun _ _ => .lulPlim),
   (0x801C, 0x1, 1, 0x1, 1, fun _ _ => .lulDfull),
   (0x8020, 0x1, 1, 0x1, 1, fun _ _ => .lulDmax),
   (0x8024, 0x1, 1, 0x1, 1, fun _ _ => .lulTmr),
   (0x8028, 0x1, 1, 0x1, 1, fun _ _ => .lulMargin),
   (0x802C, 0x1, 1, 0x1, 1, fun _ _ => .lulDwin),
   (0x8030, 0x1, 1, 0x1, 1, fun _ _ => .lulMemb),
   (0x8038, 0x1, 1, 0x1, 1, fun _ _ => .lulJoined),
   (0x8040, 0x1, 1, 0x1, 1, fun _ _ => .lulShbase),
   (0x8048, 0x1, 1, 0x1, 1, fun _ _ => .lulShcnt),
   (0x8050, 0x1, 1, 0x1, 1, fun _ _ => .lulMlbase),
   (0x8058, 0x1, 1, 0x1, 1, fun _ _ => .lulMlcfg),
   (0x8060, 0x1, 1, 0x1, 1, fun _ _ => .lulMlwp),
   (0x8068, 0x1, 1, 0x1, 1, fun _ _ => .lulMlrp),
   (0x8070, 0x1, 1, 0x1, 1, fun _ _ => .lulRnd),
   (0x8078, 0x1, 1, 0x1, 1, fun _ _ => .lulTgt),
   (0x8080, 0x1, 1, 0x1, 1, fun _ _ => .lulLmstep),
   (0x8088, 0x1, 1, 0x1, 1, fun _ _ => .lulOwd),
   (0x808C, 0x1, 1, 0x1, 1, fun _ _ => .lulTstep),
   (0x8090, 0x1, 1, 0x1, 1, fun _ _ => .lulDpair),
   (0x80A0, 0x1, 1, 0x1, 1, fun _ _ => .lulFdone),
   (0x80A4, 0x1, 1, 0x1, 1, fun _ _ => .lulMdone),
   (0x80A8, 0x1, 1, 0x1, 1, fun _ _ => .lulMshift),
   (0x80B0, 0x1, 1, 0x1, 1, fun _ _ => .lulCmd),
   (0x8100, 0x8, 2, 0x8, 1, fun i _ => .lulSrcip i),
   (0x8110, 0x1, 1, 0x1, 1, fun _ _ => .lulUdp),
   (0xA000, 0x8, 256, 0x8, 1, fun i _ => .lulPeer i)]

/-- The decode rows of the STK block. -/
def stkRows : List RegRow :=
  [(0x0, 0x10000, 8, 0x10000, 1, fun i _ => .stkChmap i),
   (0x8, 0x10000, 8, 0x10000, 1, fun i _ => .stkMigptr i),
   (0x10, 0x10000, 8, 0x10000, 1, fun i _ => .stkEcc i),
   (0x18, 0x10000, 8, 0x10000, 1, fun i _ => .stkErrlog i),
   (0x20, 0x10000, 8, 0x10000, 1, fun i _ => .stkInit i),
   (0x8000, 0x10000, 8, 0x10000, 1, fun i _ => .cdcStatus i),
   (0x8004, 0x10000, 8, 0x10000, 1, fun i _ => .cdcTerr i),
   (0x8010, 0x10000, 8, 0x10000, 1, fun i _ => .cdcTcmd i),
   (0x8018, 0x10000, 8, 0x10000, 1, fun i _ => .cdcTaddr i),
   (0x8040, 0x10000, 8, 0x4, 4, fun i j => .cdcTslot i j),
   (0x8050, 0x10000, 8, 0x10000, 1, fun i _ => .cdcCrcerr i)]

/-- The decode rows of the HST block. -/
def hstRows : List RegRow :=
  [(0x8, 0x1, 1, 0x1, 1, fun _ _ => .hstBar0err),
   (0x1000, 0x20, 8, 0x20, 1, fun i _ => .bdpAddr i),
   (0x1008, 0x20, 8, 0x20, 1, fun i _ => .bdpCtl i),
   (0x100C, 0x20, 8, 0x20, 1, fun i _ => .bdpStat i),
   (0x1010, 0x20, 8, 0x20, 1, fun i _ => .bdpErraddr i),
   (0x2000, 0x1, 1, 0x1, 1, fun _ _ => .hstTsrxbase),
   (0x2008, 0x1, 1, 0x1, 1, fun _ _ => .hstTstxbase),
   (0x2010, 0x1, 1, 0x1, 1, fun _ _ => .hstTscfg),
   (0x2014, 0x1, 1, 0x1, 1, fun _ _ => .hstTsrxwp),
   (0x2018, 0x1, 1, 0x1, 1, fun _ _ => .hstTsrxrp),
   (0x201C, 0x1, 1, 0x1, 1, fun _ _ => .hstTstxwp),
   (0x2020, 0x1, 1, 0x1, 1, fun _ _ => .hstTstxrp),
   (0x2024, 0x1, 1, 0x1, 1, fun _ _ => .hstTsstat)]

/-- The decode rows of the TIM block. -/
def timRows : List RegRow :=
  [(0x0, 0x1, 1, 0x1, 1, fun _ _ => .timCtl),
   (0x4, 0x1, 1, 0x1, 1, fun _ _ => .timStatus),
   (0x8, 0x1, 1, 0x1, 1, fun _ _ => .timNow),
   (0x10, 0x1, 1, 0x1, 1, fun _ _ => .timTerr),
   (0x14, 0x1, 1, 0x1, 1, fun _ _ => .timHoldt),
   (0x18, 0x1, 1, 0x1, 1, fun _ _ => .timAdj),
   (0x20, 0x1, 1, 0x1, 1, fun _ _ => .timTerrsw)]

/-- The decode rows of the ARB block. -/
def arbRows : List RegRow :=
  [(0x20000, 0x1, 1, 0x1, 1, fun _ _ => .arbSumcsm),
   (0x20008, 0x1, 1, 0x1, 1, fun _ _ => .arbSumio),
   (0x20010, 0x1, 1, 0x1, 1, fun _ _ => .arbInten)]

/-- The decode rows of the CORE blocks. -/
def coreRows (c : Nat) : List RegRow :=
  [(0x0, 0x1, 1, 0x1, 1, fun _ _ => .seqCtl c),
   (0x4, 0x1, 1, 0x1, 1, fun _ _ => .seqStatus c),
   (0x10, 0x1, 1, 0x1, 1, fun _ _ => .ctxwin c),
   (0x20, 0x1, 1, 0x1, 1, fun _ _ => .ctxcmd c),
   (0x40, 0x4, 10, 0x4, 1, fun i _ => .ctxstate c i),
   (0x80, 0x1, 1, 0x1, 1, fun _ _ => .seqIntstat c),
   (0x84, 0x1, 1, 0x1, 1, fun _ _ => .seqInten c),
   (0x90, 0x4, 3, 0x4, 1, fun i _ => .excpend c i),
   (0x400, 0x4, 256, 0x4, 1, fun i _ => .token c i),
   (0x1000, 0x1, 1, 0x1, 1, fun _ _ => .mxeStatus c),
   (0x1004, 0x1, 1, 0x1, 1, fun _ _ => .mxeErr c),
   (0x1008, 0x1, 1, 0x1, 1, fun _ _ => .mxeCtl c),
   (0x2000, 0x1, 1, 0x1, 1, fun _ _ => .vxeStatus c),
   (0x2004, 0x1, 1, 0x1, 1, fun _ _ => .vxeErr c),
   (0x2008, 0x1, 1, 0x1, 1, fun _ _ => .vxeCtl c),
   (0x3000, 0x1, 1, 0x1, 1, fun _ _ => .rduStatus c),
   (0x3004, 0x1, 1, 0x1, 1, fun _ _ => .rduErr c),
   (0x3008, 0x1, 1, 0x1, 1, fun _ _ => .rduCtl c),
   (0x4000, 0x1, 1, 0x1, 1, fun _ _ => .gseStatus c),
   (0x4004, 0x1, 1, 0x1, 1, fun _ _ => .gseErr c),
   (0x4008, 0x1, 1, 0x1, 1, fun _ _ => .gseCtl c),
   (0x5000, 0x1, 1, 0x1, 1, fun _ _ => .mveStatus c),
   (0x5004, 0x1, 1, 0x1, 1, fun _ _ => .mveErr c),
   (0x5008, 0x1, 1, 0x1, 1, fun _ _ => .mveCtl c),
   (0x1010, 0x1, 1, 0x1, 1, fun _ _ => .mxeAcsel c),
   (0x1020, 0x4, 4, 0x4, 1, fun i _ => .mxeAct c i),
   (0x1200, 0x8, 64, 0x8, 1, fun i _ => .mxeAcwin c i),
   (0x2010, 0x1, 1, 0x1, 1, fun _ _ => .vxeDbgsel c),
   (0x2018, 0x1, 1, 0x1, 1, fun _ _ => .vxeDbgx c),
   (0x2100, 0x8, 8, 0x8, 1, fun i _ => .vxePdbg c i),
   (0x2200, 0x4, 64, 0x4, 1, fun i _ => .vxeDbgwin c i),
   (0x3100, 0x10, 8, 0x10, 1, fun i _ => .rduRas c i),
   (0x3108, 0x10, 8, 0x10, 1, fun i _ => .rduRax c i),
   (0x400C, 0x1, 1, 0x1, 1, fun _ _ => .gseErrpos c),
   (0x4010, 0x1, 1, 0x1, 1, fun _ _ => .gseErridx c),
   (0x4014, 0x1, 1, 0x1, 1, fun _ _ => .gseOobcnt c),
   (0x4100, 0x8, 32, 0x8, 1, fun i _ => .gseTdbg c i),
   (0x5010, 0x1, 1, 0x1, 1, fun _ _ => .mveErrdesc c),
   (0x5018, 0x1, 1, 0x1, 1, fun _ _ => .mveErrblk c),
   (0x6000, 0x10, 64, 0x10, 1, fun i _ => .qbase c i),
   (0x6008, 0x10, 64, 0x10, 1, fun i _ => .qcfg c i),
   (0x600C, 0x10, 64, 0x10, 1, fun i _ => .qptr c i)]

/-- The ARB instance whose 32-byte block holds ARB offset `o` (Table 11.3). -/
def arbInstance (o : Nat) : Option Nat :=
  if o < 0x10000 then some (o / 0x20)
  else if o < 0x10300 then some (2048 + (o - 0x10000) / 0x20)
  else if 0x11000 ≤ o ∧ o < 0x15000 ∧ (o - 0x11000) % 0x800 / 0x20 < 34 then
    some (2072 + (o - 0x11000) / 0x800 * 34 + (o - 0x11000) % 0x800 / 0x20)
  else none

/-- The register of an ARB instance block at ARB offset `o`. -/
def arbRegAt (o : Nat) : Option Reg :=
  match arbInstance o with
  | none => none
  | some i =>
    match o % 0x20 with
    | 0x00 => some (.arbPrio0 i)
    | 0x04 => some (.arbPrio1 i)
    | 0x08 => some (.arbAgecfg i)
    | 0x0C => some (.arbStarve i)
    | 0x10 => some (.arbState i)
    | 0x14 => some (.arbMaxage i)
    | _ => none

/-- The register of counter set `s` at set offset `o` (16 R414). -/
def pmcRegAt (s o : Nat) : Option Reg :=
  if o % 4 = 0 ∧ o < 0x40 then some (.pmcCnt s (o / 4)) else if o = 0x40 then some (.pmcSetst s) else none

/-- The counter set and set offset at a package block offset, where one stands (Table 16.1). -/
def pmcPackageSet (b o : Nat) : Option (Nat × Nat) :=
  if b = 5 ∧ 0x10000 ≤ o ∧ (o - 0x10000) / 0x100 < 24 ∧ 0x80 ≤ o % 0x100 then some (4096 + (o - 0x10000) / 0x100, o % 0x100 - 0x80)
  else if b = 6 ∧ o < 0x2000 ∧ 0x100 ≤ o % 0x1000 then some (4120 + o / 0x1000, o % 0x1000 - 0x100)
  else if b = 7 ∧ o < 0x80000 ∧ 0x8100 ≤ o % 0x10000 then some (4130 + o / 0x10000, o % 0x10000 - 0x8100)
  else if b = 7 ∧ o < 0x80000 ∧ 0x100 ≤ o % 0x10000 ∧ o % 0x10000 < 0x8000 then some (4122 + o / 0x10000, o % 0x10000 - 0x100)
  else if b = 4 ∧ 0x10000 ≤ o ∧ o < 0x14000 then some (4138 + (o - 0x10000) / 0x100, o % 0x100)
  else if b = 8 ∧ 0x3F00 ≤ o then some (4202, o - 0x3F00)
  else none

/-- The register of package block `b` exactly at block offset `o` (01 R20). -/
def packageRegAt (b o : Nat) : Option Reg :=
  let r :=
    match b with
    | 0 => regFind o mgcRows
    | 1 => regFind o pwrRows
    | 2 => regFind o fltRows
    | 3 => regFind o snpRows
    | 4 => regFind o pmcRows
    | 5 => regFind o fabRows
    | 6 => regFind o lhpRows
    | 7 => regFind o stkRows
    | 8 => regFind o hstRows
    | 9 => regFind o timRows
    | 10 => (regFind o arbRows).orElse (fun _ => arbRegAt o)
    | _ => none
  match r with
  | some x => some x
  | none => (pmcPackageSet b o).bind (fun p => pmcRegAt p.1 p.2)

/-- The register of core `c` exactly at per-core offset `o` (01 R21); the CTX window is not a register of this map. -/
def coreRegAt (c o : Nat) : Option Reg :=
  match regFind o (coreRows c) with
  | some x => some x
  | none => if o < 0x7000 ∧ 0xF00 ≤ o % 0x1000 then pmcRegAt (c * 8 + o / 0x1000) (o % 0x1000 - 0xF00) else none

/-- The register that stands exactly at DPA `a` (01 R17, R19 to R21). -/
def regAt (a : Nat) : Option Reg :=
  if 0xFF00000000 ≤ a ∧ a < 0xFF00B00000 then packageRegAt ((a - 0xFF00000000) / 0x100000) (a % 0x100000)
  else if 0xFF80000000 ≤ a ∧ a < 0xFF82000000 then coreRegAt ((a - 0xFF80000000) / 0x10000) (a % 0x10000)
  else none

end Sys2Proof.Machine
end

