-- ==== Sys2Proof/Machine/State.lean ====
section
/-! DEFINITION. The state of the block as plain data: everything the spec gives the machine (INVENTORY.md, State), the
queue of waiting commands, and the outcomes that are no next state. -/

namespace Sys2Proof.Machine

/-! ### Cores, contexts and queues (03, 07) -/

/-- A slot B memory access of a context whose bundle has issued and whose effect is still to come, in program order
(07 R184, R185, R187; 03 R67, R75). -/
inductive SlotB where
  /-- A load into S[d]: address, size in bytes, sign extension, the bundle's PC (07 R184). -/
  | load (d : SRegId) (a size : Nat) (signed : Bool) (pc : W64)
  /-- A store of the low bytes of a value (07 R184). -/
  | store (a size : Nat) (v : W64) (pc : W64)
  /-- A push of 64 bytes to queue `q`; `try` marks QTPUSH, which writes its success value to S[(r + 8) mod 32]. -/
  | push (q : Nat) (r : SRegId) (tryForm : Bool) (data : List Byte) (ord : Nat) (pc : W64)
  /-- A pop of queue `q` into S[r] to S[r + 7]. -/
  | pop (q : Nat) (r : SRegId) (tryForm : Bool) (ord : Nat) (pc : W64)
  /-- A TBUMP that waits for the context's earlier stores (07 R187). -/
  | bump (t : TokenId)
  deriving DecidableEq, Repr

/-- A gate of a bundle (07 R182). -/
inductive Gate where
  /-- WAIT on a core token with a threshold. -/
  | token (t : Nat) (v : W32)
  /-- LEASE of a unit. -/
  | lease (u : Nat)
  /-- A1BAR. -/
  | a1bar
  /-- QPUSH to the queue of a binding. -/
  | push (n : Nat)
  /-- QPOP from the queue of a binding. -/
  | pop (n : Nat)
  /-- Room for `k` commands in the command queue of a binding, for the word of slot `slot`. -/
  | room (slot n k : Nat) (word : W64)
  deriving DecidableEq, Repr

/-- A context's entry (03 Table 3.3) and what the sequencer keeps beside it. The default is a FREE context. -/
structure Ctx where
  /-- S0 to S31. -/
  s : List (Nat × W64) := []
  /-- PC; bits [47:0] are used. -/
  pc : W64 := 0
  /-- CSTATUS, every field of it. -/
  cstatus : W64 := 0
  /-- SEED. -/
  seed : W64 := 0
  /-- STEP. -/
  step : W64 := 0
  /-- WAIT. -/
  wait : W64 := 0
  /-- EXCREC. -/
  excrec : W64 := 0
  /-- EXCPC. -/
  excpc : W64 := 0
  /-- LSAVE. -/
  lsave : W64 := 0
  /-- Bindings B0 to B15. -/
  b : List (Nat × W32) := []
  /-- Windows W0 to W7. -/
  w : List (Nat × W128) := []
  /-- The context's queued commands are held (03 R76). -/
  held : Bool := false
  /-- The gates of the bundle that waits, while WAITING (07 R182). -/
  gated : List Gate := []
  /-- Slot B accesses whose effect is still to come, in program order. -/
  acc : List SlotB := []
  /-- The STATE the context had before a context reset (14 R370), for the replay of level 1. -/
  prior : Nat := 0
  /-- Its WAIT word and the gates of its waiting bundle. -/
  priorWait : W64 := 0
  priorGates : List Gate := []
  /-- The entry offsets of words of the context store whose parity is wrong (03 Table 3.6; 08 R200, R201). -/
  bad : List Nat := []
  deriving DecidableEq, Repr

/-- A command in an engine command queue: the word, and the scalars captured at issue (04 R111). -/
structure Cmd where
  /-- The issuing context. -/
  ctx : Nat
  /-- The address of the bundle that issued it. -/
  pc : W64
  /-- The engine word, or the EXT word of a wide command (07 R192). -/
  word : W64
  /-- The EXT word that follows the first word of a wide command; 0 otherwise. -/
  ext : W64 := 0
  /-- This entry is the EXT word of the entry ahead of it. -/
  isExt : Bool := false
  /-- The context's scalar registers at issue. -/
  s : List (Nat × W64) := []
  /-- The context's SEED and STEP[31:0] at issue (02 R46). -/
  seed : W64 := 0
  step : W32 := 0
  /-- CSTATUS.A1C at issue. -/
  a1c : Bool := false
  /-- Issue order on the core (04 R103, R107). -/
  ord : Nat := 0
  /-- A byte of the entry in the FIFO has a wrong parity bit (08 R200). -/
  bad : Bool := false
  deriving DecidableEq, Repr

/-- How a run of an engine command ended. -/
inductive CmdEnd where
  /-- Without error: completion bumps the token (03 R73). -/
  | ok
  /-- CMDERR with an engine error code (03 R76). -/
  | cmderr (code : Nat)
  /-- WINDOW at an access, with its DETAIL (03 R64; 16 R421). -/
  | window (dpa detail : Nat)
  /-- ADDRESS at an access (01 R18). -/
  | address (dpa : Nat)
  /-- The run still waits: for remote rows, a chain's next descriptor, a codec, a reduction tree. -/
  | going
  deriving DecidableEq, Repr

/-- A running engine command. -/
structure Run where
  cmd : Cmd
  fin : CmdEnd
  /-- The accumulators that it writes, as they were when it started (04 R90, R103, R109). -/
  acs : List Nat := []
  deriving DecidableEq, Repr

/-- The lease of one unit (03 R78, R79). -/
structure Lease where
  owner : Option Nat := none
  released : Bool := false
  /-- Waiting requesters in the order in which they asked. -/
  waiters : List Nat := []
  deriving DecidableEq, Repr

/-! ### Matrix engine (04) -/

/-- An accumulator tile: T and the elements, row * 64 + column, in the ACC48 form of 02 R35. -/
structure AcTile where
  t : Nat := 0
  els : List (Nat × Int) := []
  deriving DecidableEq, Repr

/-- A weight buffer (04 R91, R107). Elements by k * 128 + column as stored codes' mantissas; exponents by
K-block * 128 + column. -/
structure WeightBuf where
  valid : Bool := false
  /-- MODE of Table 4.1. -/
  mode : Nat := 0
  /-- The loaded format's code. -/
  fmt : Nat := 0
  /-- Mantissa by k * 128 + column (a BG8 mantissa as m6 x 4^s). -/
  els : List (Nat × Int) := []
  /-- Elements that are NX codes, by k * 128 + column. -/
  nx : List (Nat × Bool) := []
  /-- Block exponents by block * 128 + column. -/
  exps : List (Nat × Nat) := []
  deriving DecidableEq, Repr

/-- The leased and unleased state of the MXE (04 R35, R107). -/
structure Mxe where
  ac : List (Nat × AcTile) := []
  wb : List (Nat × WeightBuf) := []
  /-- Accumulator elements with a parity error, tile * 4096 + row * 64 + column (04 R110). -/
  badAc : List (Nat × Bool) := []
  /-- Weight buffer elements with a parity error, buffer * 8192 + k * 128 + column (04 R110). -/
  badWb : List (Nat × Bool) := []
  deriving DecidableEq, Repr

/-! ### Vector engine and reduction unit (05) -/

/-- A row of a tile buffer or a V register: 64 mantissas and four group exponents X (05 R116). -/
structure VRow where
  m : List (Nat × Int) := []
  x : List (Nat × Nat) := []
  deriving DecidableEq, Repr

/-- An RDU partial (05 R134). -/
structure RaPart where
  s : Int := 0
  x : Nat := 0
  nx : Bool := false
  empty : Bool := false
  inexact : Bool := false
  /-- The count, or the index of a maximum or minimum. -/
  cnt : W32 := 0
  deriving DecidableEq, Repr

/-- The leased state of the VXE and the RDU: rows TBn.r at n * 64 + r, Vi at 256 + i; P0 to P7; RA0 to RA7. -/
structure Vxe where
  rows : List (Nat × VRow) := []
  p : List (Nat × W64) := []
  ra : List (Nat × RaPart) := []
  /-- Row elements with a parity error, row key * 64 + lane (05 R143). -/
  badRow : List (Nat × Bool) := []
  /-- Predicates with a parity error. -/
  badP : List (Nat × Bool) := []
  /-- Partials with a parity error. -/
  badRa : List (Nat × Bool) := []
  deriving DecidableEq, Repr

/-- A saved copy of a leased unit's state in a lease save area (03 R80): the layout in memory is not architectural, so
the content is held here (assumption log 6). -/
structure Saved where
  /-- The lease save area it lies in. -/
  base : Nat := 0
  ac : List (Nat × AcTile) := []
  rows : List (Nat × VRow) := []
  p : List (Nat × W64) := []
  ra : List (Nat × RaPart) := []
  tabs : List (Nat × List Byte) := []
  /-- The parity marks of the elements saved (08 R200). -/
  badAc : List (Nat × Bool) := []
  badRow : List (Nat × Bool) := []
  badP : List (Nat × Bool) := []
  badRa : List (Nat × Bool) := []
  deriving DecidableEq, Repr

/-! ### Gather-scatter engine (06) -/

/-- A remote row read of a GSE command (06 R153, R154): the position it serves and the answer, once it has come. -/
structure RemoteRead where
  /-- The read tag of the RDREQ (10 R273). -/
  tag : Nat
  /-- The position of the index stream that the row serves. -/
  pos : Nat
  /-- The RDRSP's status and bytes. -/
  answer : Option (Nat × List Byte) := none
  deriving DecidableEq, Repr

/-- What a running GSE command with remote rows has read so far: its index words, each with the failure that met it; its
offsets; and the rows still to be requested, as position and row. -/
structure GsePlan where
  words : List (Nat × Option CmdEnd) := []
  offs : List Nat := []
  todo : List (Nat × Nat) := []
  deriving DecidableEq, Repr

/-- The GSE: table slots T0 to T7 (32-byte descriptors, absent while not loaded), and the remote rows of the running
command, by queue. -/
structure Gse where
  tabs : List (Nat × List Byte) := []
  reads : List (Nat × List RemoteRead) := []
  /-- Remote reads issued so far; it makes the read tags. -/
  serial : Nat := 0
  /-- Rows filed under their position, by queue * 2^32 + position: 0 with the row's bytes, or why there is none:
  1 refused, 2 no answer in time, 3 device absent, 4 memory error in a raw row (06 R155, R172). -/
  rows : List (Nat × (Nat × List Byte)) := []
  /-- The plans of the running commands that fetch remote rows, by queue. -/
  plans : List (Nat × Option GsePlan) := []
  /-- Reads of commands that a context reset has stopped, still without an answer, oldest first, each with its context
  (06 R171). -/
  stopped : List (Nat × RemoteRead) := []
  deriving DecidableEq, Repr

/-! ### Move engine and codecs (08) -/

/-- A block that a codec has admitted for a chain (08 R230): its unit number and the table images it references, each as
slot, generation and image. -/
structure Admitted where
  unit : Nat
  tables : List (Nat × Nat × List Byte) := []
  deriving DecidableEq, Repr

/-- The progress of a running descriptor chain (08 R208). -/
structure Chain where
  /-- The command; a chain that stops outlives its run while a codec holds blocks of it. -/
  cmd : Cmd
  /-- DPA of the current descriptor; of the next one while none has started. -/
  desc : Nat
  /-- Descriptors started so far. -/
  count : Nat := 0
  /-- The current descriptor's 64 bytes; empty between two descriptors. -/
  bytes : List Byte := []
  /-- The next block to hand to the codec, for a coded transfer that has started. -/
  unit : Option Nat := none
  /-- Blocks admitted and not yet finished. -/
  admitted : List Admitted := []
  /-- Body bytes written so far by a TC ENCODE. -/
  bodyOff : Nat := 0
  /-- A context reset has stopped the chain; the blocks admitted to a codec still finish (08 R212). -/
  stopping : Bool := false
  deriving DecidableEq, Repr

/-- What a codec keeps for a table slot beside CDC_TSLOT (08 R230, R231): the active image, the staged, loading or old
image, the blocks that still use the old one, the command in progress and its image address. -/
structure TabSlot where
  active : List Byte := []
  second : List Byte := []
  oldRefs : Nat := 0
  /-- 0 none, 1 a LOAD, 2 a STAGE is unfinished. -/
  busy : Nat := 0
  /-- The fetch of a LOAD has ended and its image waits for REFCNT to reach 0. -/
  fetched : Bool := false
  addr : Nat := 0
  deriving DecidableEq, Repr

/-- One core: its contexts, queues' FIFOs, running commands, leases and engines. -/
structure Core where
  ctxs : List (Nat × Ctx) := []
  /-- Engine command FIFOs, queues 0 to 19 (03 R65). -/
  fifo : List (Nat × List Cmd) := []
  /-- Running engine commands by queue: the one of the queue that started first. -/
  running : List (Nat × Option Run) := []
  /-- Commands of a queue that started behind it, oldest first (04 R106; 05 R140). -/
  later : List (Nat × List Run) := []
  /-- Leases by unit: 0 MXE, 1 VXE, 3 GSE. -/
  leases : List (Nat × Lease) := []
  /-- The context that last issued at each PRIO level; 79 until one has (03 R54). -/
  lastIssuer : List (Nat × Nat) := []
  /-- The context that issued the previous bundle, and how many it has issued in a row (03 R54). -/
  issuer : Option Nat := none
  runLen : Nat := 0
  /-- The queue of its engine that each start resource last served, 3 before the first: 0 load port, 1 array, 2 VXE,
  3 RDU, 4 GSE (04 R106; 05 R140; 06 R170). -/
  lastServed : List (Nat × Nat) := []
  /-- Issue order of commands and queue accesses. -/
  ord : Nat := 0
  /-- Outbound queues whose transfers an address error has stopped (03 R69). -/
  stopped : List (Nat × Bool) := []
  mxe : Mxe := {}
  vxe : Vxe := {}
  gse : Gse := {}
  chains : List (Nat × Option Chain) := []
  /-- States saved in lease save areas, by context * 4 + unit (03 R80). -/
  saved : List (Nat × Option Saved) := []
  deriving DecidableEq, Repr

/-! ### The device -/

/-- An event for a core's trace buffer (16 R423): its type of Table 16.4, context where it has one, engine or 7, token or
EXCCODE, and the PC or command word. -/
structure TraceNote where
  core : Nat
  ty : Nat
  ctx : Option Nat
  eng : Nat
  tok : Nat
  word : W64
  deriving DecidableEq, Repr

/-- What the device sends out or returns to the one who asked (the model's own record of its outputs, oldest first). -/
inductive Out where
  /-- A link frame leaves fabric port `p` (10 R265). -/
  | frame (p : Nat) (f : Frame)
  /-- A Lular frame leaves long-haul port `l` (12 R311). -/
  | lular (l : Nat) (f : LulFrame)
  /-- A PTP message leaves long-haul port `l` (17 R447). -/
  | ptp (l : Nat) (msg : List Byte)
  /-- Bits leave the TAP at TDO, the first first (16 R424). -/
  | tdo (bits : List Bool)
  /-- The bytes a read on a path returns. -/
  | data (path : Path) (bytes : List Byte)
  /-- An MSI-X message is sent (17 R443). -/
  | msix (vector : Nat)
  /-- The MGC interrupt is raised (14 R366). -/
  | mgcIrq
  deriving DecidableEq, Repr

/-! ### Fabric (10) -/

/-- A posted FABRIC descriptor (10 R276): the posting core and command queue, and the descriptor's fields. -/
structure Post where
  core : Nat
  q : Nat
  xid : W32
  len : Nat
  src : Nat
  dst : Nat
  dev : Nat
  /-- TV, CORE and TOKEN as bytes 28 to 31 of a DATA header hold them. -/
  tv : Bool
  tcore : Nat
  token : Nat
  /-- Bytes of the transfer that have been sent. -/
  sent : Nat := 0
  deriving DecidableEq, Repr

/-- The state of a fabric port's link (10 R267 to R270, R275, R276). -/
structure Link where
  /-- LSEQ of the next sequenced frame to send. -/
  txNext : W16 := 0
  /-- The replay buffer: sequenced frames sent and not acknowledged, oldest first. -/
  replay : List Frame := []
  /-- Frames that wait to leave, in order, for credits or for room in the replay buffer, each with the port whose
  receive buffer it still fills when it came in from another device. -/
  sendq : List (Option Nat × Frame) := []
  /-- LSEQ expected next. -/
  rxNext : W16 := 0
  /-- The far end's cumulative count of credits granted, by VC (an unlisted one is the buffer size); credits used. -/
  granted : List (Nat × W16) := []
  used : List (Nat × W16) := []
  /-- This receiver's cumulative count of credits granted. -/
  rxGranted : List (Nat × W16) := []
  /-- DATA frames held in the VC0 buffer until the walker of their egress port takes them. -/
  fwd : List Frame := []
  /-- QMSG frames held in the VC2 buffer until their ring has room (10 R278). -/
  qheld : List Frame := []
  /-- Replays, and retrains, without progress of ACK (10 R269). -/
  replays : Nat := 0
  retrains : Nat := 0
  /-- The post queue (10 R276). -/
  posts : List Post := []
  /-- The slot order in effect: PORT_SOBASE and PORT_SOCNT as they stood when the walker last began at entry 0. -/
  sobase : Nat := 0
  socnt : Nat := 0
  /-- The walker has stopped at a malformed entry or a wrong arrival port (10 R275). -/
  soStop : Bool := false
  /-- A PORT_SOPTR set by a restore, to take effect when the port is next enabled (13 R360). -/
  soRestore : Option W32 := none
  /-- The device at the far end of the port, as its croak named it at link-up (10 R270). -/
  nbr : Nat := 0
  /-- The port has stopped after LINKFAIL, until EN is set again (10 R269). -/
  failed : Bool := false
  /-- XIDs whose forwarding has stopped at a parity failure: their later frames are dropped (10 R266). -/
  dropXids : List W32 := []
  deriving DecidableEq, Repr

/-- A chorus vote: cause bits in the order of CHR_DREC[14:8], STEP, LS and RUN (09 R256; 10 R288). -/
structure Vote where
  causes : Nat
  step : W32
  ls : Nat
  run : Nat
  deriving DecidableEq, Repr

/-- A reduction tree in progress on this device, for one tree and phase (10 R280 to R287). -/
structure TreeRun where
  tree : Nat
  phase : Nat
  /-- The descriptor of the first command, 128 bytes; empty until an RTX has named one. -/
  desc : List Byte := []
  /-- Contributing cores whose RTX has started, with its issue number. -/
  cores : List (Nat × Nat) := []
  /-- Each contributing core's data: for EXP its exponent bytes, for MANT the agreed plane it read and then its words,
  for R64 its record. -/
  parts : List (Nat × List Byte) := []
  /-- Header messages and data received from below, by arrival port, and whether the data are complete. -/
  heads : List (Nat × List Byte) := []
  kids : List (Nat × List Byte) := []
  kidsDone : List (Nat × Bool) := []
  /-- This node's partial has gone up to the parent. -/
  sent : Bool := false
  /-- The last block of the result has come down; the done message is still to come. -/
  got : Bool := false
  /-- A TREE error has ended the RTX of this device's cores. -/
  failed : Bool := false
  deriving DecidableEq, Repr

/-! ### Chorus (09 R255 to R258) -/

/-- The progress of the chorus on this device. -/
structure Chorus where
  /-- Bumps of ATOK received since the last decision, by core; a core that has arrived discards further bumps. -/
  arrivals : List (Nat × Nat) := []
  /-- The vote formed, with the participants whose NF and SAT it counted (core * 128 + context) and the CHR_VOTE bits. -/
  vote : Option Vote := none
  nfOf : List Nat := []
  satOf : List Nat := []
  bitsOf : Nat := 0
  /-- Children's votes by the port of their edge. -/
  kids : List (Nat × Option Vote) := []
  /-- The vote has been sent up, or the root has decided. -/
  sent : Bool := false
  /-- A decision that has come and is not applied yet: DEC and cause bits. -/
  decision : Option (Nat × Nat) := none
  /-- The boundary being applied: DEC, and the last order of Table 9.4 done (0: none is being applied). -/
  applying : Nat := 0
  order : Nat := 0
  /-- The slacks of the last steps, newest first (10 R294). -/
  slacks : List Nat := []
  /-- The device stops at the next boundary with this SCAUSE (14 R377); 0: none asked for. -/
  stopAsked : Nat := 0
  deriving DecidableEq, Repr

/-! ### Distant sites (12) -/

/-- What the Lular unit knows of a member site. -/
structure LulSite where
  /-- Delay samples in ns, newest first (12 R315). -/
  samples : List Int := []
  /-- TERR of its last CROAK (12 R322). -/
  terr : Nat := 0
  /-- Declared absent (12 R328). -/
  absent : Bool := false
  /-- The last round that the site's counterpart turned away with BUSY while it was not open here (12 R321, R335). -/
  busy : Option Nat := none
  deriving DecidableEq, Repr

/-- A round decision (12 Table 12.3, DEC): kind 1 MERGE, 2 SKIP, 3 REFORM, 4 EFT; k; the eft site; T. -/
structure LulDecision where
  kind : Nat
  k : Nat
  eft : Nat
  t : Nat
  deriving DecidableEq, Repr

/-- What the partner's DATA frames say of it: s, D and SINCE (12 R322, R323, R330). -/
structure LulPeerSide where
  s : Nat
  d : Nat
  since : Nat
  deriving DecidableEq, Repr

/-- A round of this device (12 R319 to R335). -/
structure LulRound where
  round : Nat
  partner : Nat
  /-- The send step, or for a re-formed round the step of the boundary that formed it. -/
  s : Nat
  reform : Bool := false
  /-- This side's D and SINCE. -/
  d : Nat := 0
  since : Nat := 0
  /-- Records reported done by their formation kernels. -/
  formed : List (Nat × Bool) := []
  peer : Option LulPeerSide := none
  /-- SEQ of the DATA frames filed; one more than the highest SEQ seen. -/
  got : List (Nat × Bool) := []
  high : Nat := 0
  /-- The partner's RACK has come. -/
  rack : Bool := false
  dec : Option LulDecision := none
  /-- The merge log entry that a replay applies (12 R334). -/
  entry : List Byte := []
  /-- The round is formed again at the next boundary (12 R329). -/
  reformNext : Bool := false
  deriving DecidableEq, Repr

/-- The Lular unit (12) beside its registers. -/
structure Lul where
  sites : List (Nat × LulSite) := []
  /-- This site has joined the group. -/
  joined : Bool := false
  /-- JOINED is set at the next boundary (12 R332). -/
  joinNext : Bool := false
  /-- The open or held round; LUL_STATUS.STATE is its state. -/
  round : Option LulRound := none
  /-- Decisions sent and not yet answered by DACK, oldest first: round, partner and decision (12 R325, R329). -/
  decOut : List (Nat × Nat × LulDecision) := []
  /-- Records whose merge kernel is still to report, while a MERGE is applied; k of it. -/
  merging : Option (List Nat × Nat) := none
  /-- The ends of the last boundaries in TIM time, newest first, each with whether it was held (12 R315). -/
  bounds : List (Nat × Bool) := []
  /-- The boundary being applied has been held under R327 or R328. -/
  held : Bool := false
  /-- The join stream this device sends: the joiner, its round and the bytes; the joiner has acknowledged none of it. -/
  joinOut : Option (Nat × Nat × List Byte) := none
  /-- The donor, and the join stream received: frames by SEQ, one more than the highest SEQ seen, the frame count. -/
  donor : Nat := 0
  joinGot : List (Nat × List Byte) := []
  joinHigh : Nat := 0
  /-- The join stream is complete; clearing JOINER ends the join (12 R332). -/
  joinDone : Bool := false
  deriving DecidableEq, Repr

/-- The time unit (12 R313) beside its registers. -/
structure Tim where
  /-- UTC seconds of the sentence that labels the next edge. -/
  label : Option Nat := none
  /-- The label of the last edge, and the consecutive edges whose labels agree. -/
  last : Option Nat := none
  agree : Nat := 0
  /-- Nanoseconds spent in holdover. -/
  holdNs : Nat := 0
  deriving DecidableEq, Repr

/-! ### Clutches (13) -/

/-- A page that a running clutch protects and has not copied yet (13 R342). -/
structure ProtPage where
  /-- The clutch slot, the area's index in the list, the page within it and its leaf's index over all areas. -/
  slot : Nat
  area : Nat
  page : Nat
  leaf : Nat
  /-- DPA of the copy's page; for a TWIN area it lies on the twin. -/
  dest : Nat
  twin : Bool
  /-- The bytes of a TWIN page, from its first on, that the twin has read. -/
  got : Nat := 0
  deriving DecidableEq, Repr

/-- A page of the spill area in use (13 R345): the physical page it stands in for, its leaf, and the bytes of it that
the twin has read. -/
structure SpillPage where
  slot : Nat
  phys : Nat
  leaf : Nat
  got : Nat := 0
  deriving DecidableEq, Repr

/-- A piece of work of the SNP that reads the twin by remote reads (13 R345, R355 to R361; 10 R273). -/
structure TwinJob where
  /-- 0 a pull, 1 locating a mismatch, 2 COMPARE, 3 a restore from the twin, 4 the twin's ROOT after a restore, 5 locating the
  difference of a restored ROOT. -/
  kind : Nat
  slot : Nat
  /-- Who asked, for the lock entry: the entry's number. -/
  lock : Option Nat := none
  /-- The step within the work, and the read it waits for: tag, address and length. -/
  stage : Nat := 0
  tag : Nat := 0
  addr : Nat := 0
  len : Nat := 0
  /-- The twin's SNP page, bytes 0 to 0x1FF. -/
  page : List Byte := []
  /-- A cursor, and what has been found so far. -/
  cur : Nat := 0
  cur2 : Nat := 0
  area : Nat := 0
  npg : Nat := 0
  own : W64 := 0
  twin : W64 := 0
  buf : List Byte := []
  /-- A pull's region page: the recorded CUR, the CUR that the source showed last, and the bytes read under it. -/
  frame : Nat := 0
  view : Nat := 0
  data : List Byte := []
  deriving DecidableEq, Repr

/-- A round's entry in the receive archive (13 R363): its first byte in the archive's byte count, its length, ROUND and
step. -/
structure ArchEntry where
  start : Nat
  len : Nat
  round : Nat
  step : Nat
  deriving DecidableEq, Repr

/-- The snapshot unit (13) beside its registers. -/
structure Snp where
  /-- The clutch sequence number. -/
  clseq : W64 := 0
  /-- A clutch has been started since EN was set. -/
  started : Bool := false
  /-- A due clutch waits to start at order 4. -/
  due : Bool := false
  /-- TWIN pages of the running clutch that PULLSEQ has not shown yet. -/
  twinLeft : Nat := 0
  /-- The lock entry of the running clutch. -/
  lock : Option Nat := none
  /-- The twin's pull (job 0) and the compare or restore (job 1), and the reads issued so far. -/
  jobs : List (Nat × Option TwinJob) := []
  serial : Nat := 0
  arch : List ArchEntry := []
  /-- The last PULLSEQ read from the twin. -/
  sawPull : W64 := 0
  deriving DecidableEq, Repr

/-! ### Faults and repair (14) -/

/-- A command in a replay store (14 R370). -/
structure Stored where
  q : Nat
  cmd : Cmd
  /-- The second word of a wide command, in its own FIFO entry. -/
  wide : Option Cmd := none
  wasRunning : Bool := false
  deriving DecidableEq, Repr

/-- An episode of level 1 or 2 on an engine (14 R371 to R374). -/
structure Episode where
  /-- The suspects in ascending local context order. -/
  suspects : List Nat := []
  current : Option Nat := none
  /-- Stored commands that are still to replay. -/
  stored : List Stored := []
  guilty : Option Nat := none
  /-- 1 or 2. -/
  level : Nat := 1
  /-- The engine is in reset until its self-test ends. -/
  resetting : Bool := false
  lock : Option Nat := none
  /-- CHR_STEP when it began. -/
  step : Nat := 0
  deriving DecidableEq, Repr

/-- A past episode: core, engine, level, CHR_STEP, and whether every replay was clean. -/
structure PastEpisode where
  core : Nat
  eng : Nat
  level : Nat
  step : Nat
  clean : Bool
  deriving DecidableEq, Repr

/-- A core substitution whose spare is filling (14 R375, R383): the core, its lock entry, the commands stored, the contexts
stored and reset, and whether a byte of the core could not be read. -/
structure Subst where
  core : Nat
  lock : Option Nat := none
  stored : List Stored := []
  ctxs : List Nat := []
  lost : Bool := false
  deriving DecidableEq, Repr

/-- A start by the FLT that waits for a lock (14 R389): activity, scope, and its operand. -/
structure LockWait where
  act : Nat
  scope : Nat
  arg : Nat := 0
  deriving DecidableEq, Repr

/-- A channel migration in progress (14 R380). -/
structure Migration where
  /-- The logical channel, the spare that is filling (32 or 33), and the lock entry. -/
  chan : Nat
  spare : Nat
  lock : Option Nat := none
  deriving DecidableEq, Repr

/-- A crash dump in progress (14 R391, R392): the sections still to read as unit and section, and the next byte. -/
structure Dump where
  todo : List (Nat × Nat) := []
  base : Nat := 0
  next : Nat := 0
  lock : Option Nat := none
  deriving DecidableEq, Repr

/-- The FLT block (14) beside its registers. -/
structure Flt where
  /-- Episodes by core * 8 + engine. -/
  episodes : List (Nat × Option Episode) := []
  past : List PastEpisode := []
  waits : List LockWait := []
  /-- A guilty context has been found, and cores are to be made to arrive. -/
  force : Bool := false
  /-- Core substitutions whose spare is filling, and cores whose substitution a die reset has abandoned (14 R383). -/
  subs : List Subst := []
  unfinished : List Nat := []
  /-- Lock entries that software has taken with LOCK and frees with UNLOCK (14 R387). -/
  swHeld : List (Nat × Bool) := []
  /-- Die resets in progress, with the lock entry. -/
  dies : List (Nat × Option Nat) := []
  migs : List (Nat × Option Migration) := []
  /-- Spare channels retired, stack * 2 + spare - 32. -/
  retired : List (Nat × Bool) := []
  /-- Failing rows tracked, per die, oldest first: the row's first byte and whether it has been written again. -/
  rows : List (Nat × List (Nat × Bool)) := []
  /-- Spare rows used, by bank (unit ID without the row). -/
  spareRows : List (Nat × Nat) := []
  /-- Ports whose spare lane has been used. -/
  spareLanes : List (Nat × Bool) := []
  dump : Option Dump := none
  /-- DTOK has been withheld by a stop that RELEASE ends. -/
  withheld : Bool := false
  deriving DecidableEq, Repr

/-! ### Power and thermal limits (15) -/

/-- The PWR block (15) beside its registers. -/
structure Pwr where
  /-- Stage 5: 0 not running, 1 the next boundary is marked, 2 that boundary has been decided. -/
  flush : Nat := 0
  /-- The slot of the final clutch. -/
  slot : Option Nat := none
  /-- The autotomy stage in force: the highest entered and not reversed yet; PWR_STATUS.SAG keeps the highest entered. -/
  top : Nat := 0
  /-- The supply has been recovered for 20 ms. -/
  steady : Bool := true
  /-- The pins PWR_WARN_N and PWR_FAIL_N, seen low; the state of each monitored rail: 0 clear, 1 not clear, 2 below its warning
  threshold, 3 below its reset threshold; whether the supply is recovered, and whether it is failing (15 R400, R401). -/
  warnLow : Bool := false
  failLow : Bool := false
  rails : List (Nat × Nat) := []
  recovered : Bool := true
  failing : Bool := false
  /-- Stages are being reversed. -/
  reversing : Bool := false
  /-- Stage 5 or 6 was entered for heat. -/
  hot : Bool := false
  /-- Consecutive samples with every sensor at or below TJMAX - HYST. -/
  coolFor : Nat := 0
  /-- A trip since POR_N: THERMTRIP_N is low. -/
  tripped : Bool := false
  /-- Thermal steps by sensor. -/
  steps : List (Nat × Nat) := []
  /-- Level requested for VDD_CL by die, in mV. -/
  vdd : List (Nat × Nat) := []
  /-- What the Tj counters have not shown yet: the rest of the integral in units of 0.125 C x 100 us, and samples of the
  second that runs. -/
  tjRest : Nat := 0
  tjCnt : Nat := 0
  deriving DecidableEq, Repr

/-! ### Counters (16) -/

/-- The PMC hub (16 R416 to R420) beside its registers. -/
structure Pmc where
  /-- Shadow counts by counter number, and the LOST bits of shadows by set. -/
  shadow : List (Nat × Nat) := []
  lost : List (Nat × Nat) := []
  /-- Sets of the window whose shadow the hub has not taken, in its order; bytes of the rates and flags it has taken. -/
  todo : List Nat := []
  /-- Rates of the window being collected: counter number to bytes, and the counters LOST. -/
  taken : List (Nat × Nat) := []
  lostTaken : List Nat := []
  /-- Sets whose shadow holds two windows. -/
  merged : List Nat := []
  /-- The window collected: number, start, length in us, and whether it is the first after RESET. -/
  win : Nat := 0
  start : W64 := 0
  len : Nat := 1000
  first : Bool := false
  /-- The window now counting: its start, its length, and whether it is the first after RESET. -/
  curStart : W64 := 0
  curLen : Nat := 1000
  curFirst : Bool := false
  /-- RESET waits for the next edge. -/
  reset : Bool := false
  deriving DecidableEq, Repr

/-! ### Host, boot and test access (16, 17) -/

/-- The management island's own state (17). -/
structure Mgc where
  /-- SPI NOR by byte; an unlisted byte is erased. -/
  spi : List (Nat × Byte) := []
  /-- An SPI NOR answers. -/
  spiFitted : Bool := true
  /-- The preferred copy (17 R440, R450). -/
  preferred : Nat := 0
  /-- The running image's SVN and copy (2: host). -/
  svn : Nat := 0
  copy : Nat := 0
  /-- A host boot waits for MGC_BOOTCMD. -/
  waiting : Bool := false
  /-- The host port is released; it is limited to the MGC block until the firmware enables it (17 R441). -/
  hostUp : Bool := false
  limited : Bool := false
  /-- The firmware waits with every die in reset for the sensors (15 R410); the supply was low when POR_N rose (17 R433). -/
  coldWait : Bool := false
  dark : Bool := false
  /-- SPI reads that fail at this boot: copy A, copy B, the repair record (17 Table 17.7, CODE 8). -/
  spiErr : BitVec 3 := 0
  /-- The SPI copy whose staging write POR_N has cut off (17 R435). -/
  torn : Option Nat := none
  /-- The repairs of the repair record, as unit and spare, oldest first (14 R382). -/
  repairs : List (Nat × Nat) := []
  /-- SMBus pointer and its ERR. -/
  smbPtr : W48 := 0
  smbErr : Bool := false
  /-- TAP instruction; the boundary-scan register as last updated, and the bypass register (16 R424). -/
  tapIr : Byte := 1
  bscan : List Bool := []
  bypass : Bool := false
  /-- DBGACC: CMD and DPA as last updated, STATUS and DATA of the most recent access, and whether an Update-DR has started one
  since the last scan that found it done (16 R425). -/
  accCmd : BitVec 4 := 0
  accDpa : W48 := 0
  accStatus : Nat := 0
  accData : W64 := 0
  accRun : Bool := false
  deriving DecidableEq, Repr

/-- A BDP channel's prefetched bytes, their first DPA, and the DPAs of those whose parity is wrong (08 R201, R206). -/
structure BdpChan where
  base : Nat := 0
  bytes : List Byte := []
  bad : List Nat := []
  deriving DecidableEq, Repr

/-- What an arbiter instance keeps beside its registers (11): pointers by level (15 where not listed), ages by input,
inputs whose age has reached AGETHR and is not flagged yet, and the level of the last decision. -/
structure Arb where
  ptr : List (Nat × Nat) := []
  age : List (Nat × Nat) := []
  due : List (Nat × Bool) := []
  level : Nat := 0
  deriving DecidableEq, Repr

/-- Everything the spec gives the machine. -/
structure Dev where
  /-- Memory bytes by physical address: stacks, CLM, CSM and the boot buffer. An unlisted byte is 0 (08 R203). -/
  mem : List Host.Cell := []
  /-- Memory bytes whose parity is wrong (08 R200). -/
  badPar : List (Nat × Bool) := []
  /-- Registers by DPA; an unlisted register holds its reset value. -/
  regs : List (Nat × W64) := []
  cores : List (Nat × Core) := []
  /-- The counter classes in effect: PMC_CTL.CLASS as of the last window edge (16 R420). -/
  pmcOn : W32 := 0
  /-- Dies out of reset (14 R376; 17 R437); a die not listed is held in reset. -/
  diesUp : List (Nat × Bool) := []
  /-- Protected, uncopied pages of the running clutch by physical page (13 R342). -/
  prot : List (Nat × Option ProtPage) := []
  /-- Spill pages in use, by index in the spill area (13 R345). -/
  spills : List (Nat × Option SpillPage) := []
  /-- Writes that wait on a full spill area: physical address and bytes (13 R345). -/
  waitingWrites : List (Nat × List Byte) := []
  /-- Bumps of DATA transfers that wait until their writes are visible: core, token, and the pages of waiting writes
  (10 R277). -/
  heldBumps : List (Nat × Nat × List Nat) := []
  /-- Written bits of the regions' shadow pages, by (unit * 32 + region) * 65536 + page (09 R251). -/
  written : List (Nat × Bool) := []
  /-- Fabric links by port. -/
  links : List (Nat × Link) := []
  /-- XIDs whose transfer has failed: their later frames are dropped (10 R272). -/
  deadXids : List W32 := []
  /-- Reduction trees in progress. -/
  trees : List TreeRun := []
  chorus : Chorus := {}
  lul : Lul := {}
  tim : Tim := {}
  snp : Snp := {}
  flt : Flt := {}
  pwr : Pwr := {}
  pmc : Pmc := {}
  mgc : Mgc := {}
  arbs : List (Nat × Arb) := []
  bdp : List (Nat × BdpChan) := []
  /-- Code table slots by stack * 4 + slot (08 R229 to R232). -/
  tabs : List (Nat × TabSlot) := []
  /-- Lular frames held while their port idles (15 R403), oldest first, with the port. -/
  lulHeld : List (Nat × LulFrame) := []
  /-- MSI-X vectors that the host has unmasked, and those whose message waits for it (17 R446). -/
  msixOpen : List (Nat × Bool) := []
  msixPend : List (Nat × Bool) := []
  /-- Trace buffer entries, core * 256 + index (16 R423). An unlisted entry reads as zeros. -/
  trace : List (Nat × List Byte) := []
  /-- The trace events of the command that is being run, oldest first; empty between commands (16 R423). -/
  traceQ : List TraceNote := []
  /-- Read latches and held writes of 64-bit registers by access path: the register's DPA and the word (18 R453). -/
  latches : List (Nat × Option (Nat × W32)) := []
  heldWrites : List (Nat × Option (Nat × W32)) := []
  /-- What the device has sent out or returned, oldest first. -/
  outbox : List Out := []
  /-- The number of free values used so far (Config.freeWord; assumption log 2). -/
  freeCtr : Nat := 0
  deriving DecidableEq, Repr

/-- The state of the block: the device and the commands that wait, first in, first out. -/
structure State where
  pending : List Instr := []
  dev : Dev := {}
  deriving DecidableEq, Repr

/-- Reasons for a command to stop the model with a fault. -/
inductive Fault where
  /-- No command raises it: every error the spec names is an effect on the state (an exception, an error register,
  a fault record). Safe. -/
  | none
  deriving DecidableEq, Repr

/-- Reasons for a command to have no meaning in the model. -/
inductive Refusal where
  /-- A command of the table that the model does not give a meaning. Raised by the dispatcher only. Safe. -/
  | notModelled (mnemonic : String)
  deriving DecidableEq, Repr

/-- The state right after reset: POR_N is low, every register holds its reset value, memory lists nothing and no
command waits (17 R435; 18 R456). -/
def State.reset : State := {}

end Sys2Proof.Machine
end

