-- ==== Sys2Proof/Machine/Ops.lean ====
section
/-! DEFINITION. The named operations every command is built from: registers, cores and contexts, free values, the
page map and memory with its parity, the clutch's page protection, fault records and taking an exception. -/

namespace Sys2Proof.Machine

/-! ### Registers -/

/-- The reset value of the register at a DPA (18). -/
def regDefault (a : Nat) : W64 :=
  match regAt a with
  | some r => BitVec.ofNat 64 r.resetValue
  | none => 0

/-- The stored value of a register. -/
def Dev.reg (d : Dev) (r : Reg) : W64 := mapGet regDefault d.regs r.addr

/-- The device with a register set. -/
def Dev.setReg (d : Dev) (r : Reg) (v : W64) : Dev := { d with regs := mapSet regDefault d.regs r.addr v }

/-- A register's value as a number. -/
def Dev.regN (d : Dev) (r : Reg) : Nat := (d.reg r).toNat

/-- Bits [hi:lo] of a register. -/
def Dev.rbits (d : Dev) (r : Reg) (hi lo : Nat) : Nat := bits (d.reg r) hi lo

/-- Bit `i` of a register. -/
def Dev.rbit (d : Dev) (r : Reg) (i : Nat) : Bool := bit (d.reg r) i

/-- The device with bits [hi:lo] of a register set to `v`. -/
def Dev.setRbits (d : Dev) (r : Reg) (hi lo v : Nat) : Dev := d.setReg r (setBits (d.reg r) hi lo v)

/-- The device with bit `i` of a register set to `b`. -/
def Dev.setRbit (d : Dev) (r : Reg) (i : Nat) (b : Bool) : Dev := d.setReg r (setBit (d.reg r) i b)

/-- The device with a register set to a number. -/
def Dev.setRegN (d : Dev) (r : Reg) (v : Nat) : Dev := d.setReg r (BitVec.ofNat 64 v)

/-- A register field that counts and sticks at all ones (00 R7; 18). -/
def Dev.addStick (d : Dev) (r : Reg) (hi lo n : Nat) : Dev :=
  d.setRbits r hi lo (stick (hi + 1 - lo) (d.rbits r hi lo + n))

/-! ### Free values -/

/-- The next free value (assumption log 2). -/
def Dev.free (d : Dev) : W64 := Config.freeWord d.freeCtr

/-- The device with `n` free values used. -/
def Dev.useFree (d : Dev) (n : Nat) : Dev := { d with freeCtr := d.freeCtr + n }

/-! ### Outputs -/

/-- The device with an output appended. -/
def Dev.emit (d : Dev) (o : Out) : Dev := { d with outbox := d.outbox ++ [o] }

/-! ### Performance counters (16 R414, R415) -/

/-- The enable bit of a counter set's class in PMC_CTL.CLASS (16): [6] host, [5] cluster, [4] codec, [3] stack,
[2] LHP, [1] fabric, [0] the per-core sets. -/
def pmcClass (s : Nat) : Nat :=
  if s < 4096 then 0 else if s < 4120 then 1 else if s < 4122 then 2 else if s < 4130 then 3
  else if s < 4138 then 4 else if s < 4202 then 5 else 6

/-- Slot `i` of set `s` adds `n` while its class is enabled; a count that would pass the top stays there and sets
LOST (16 R415). -/
def Dev.count (d : Dev) (s i n : Nat) : Dev :=
  if bit d.pmcOn (pmcClass s) then
    let v := d.regN (.pmcCnt s i) + n
    if v < 2 ^ 32 then d.setRegN (.pmcCnt s i) v
    else (d.setRegN (.pmcCnt s i) (2 ^ 32 - 1)).setRbit (.pmcSetst s) i true
  else d

/-! ### Trace buffers (16 R423) -/

/-- An event for core `c`'s trace buffer, where TRC_CTL wants it (16 R423). -/
def Dev.traceEv (d : Dev) (c ty : Nat) (x : Option Nat) (eng tok : Nat) (w : W64) : Dev :=
  let ctl := d.reg (.trcCtl c)
  if bit ctl 31 && bit ctl (16 + ty) && (!bit ctl 7 || x == some (bits ctl 6 0)) then
    { d with traceQ := d.traceQ ++ [{ core := c, ty := ty, ctx := x, eng := eng, tok := tok, word := w }] }
  else d

/-- The place of an event among those of one cycle: EXC, ISSUE and SWITCH, each engine's CMDEND and CMDSTART, BUMP and
BOUNDARY (16 R423). -/
def TraceNote.rank (n : TraceNote) : Nat :=
  match n.ty with
  | 4 => 0
  | 1 | 6 => 1
  | 3 => 2 + 2 * n.eng
  | 2 => 3 + 2 * n.eng
  | _ => 20

/-- The entry of an event (16 Table 16.4). The cycle count, and the context of an event that has none, are free: the model has
no clock (assumption log 5). -/
def TraceNote.entry (n : TraceNote) (free : W64) : List Byte :=
  toBytes 4 free.toNat ++ toBytes 1 n.ty ++ toBytes 1 (n.ctx.getD ((free >>> 32).toNat % 128)) ++ toBytes 1 n.eng ++
  toBytes 1 n.tok ++ toBytes 8 n.word.toNat

/-- An entry is written at WP, which wraps; with STOP a full buffer stops capture (16 R423). -/
def Dev.tracePut (d : Dev) (n : TraceNote) : Dev :=
  let c := n.core
  if d.rbit (.trcPtr c) 30 then d
  else
    let wp := d.rbits (.trcPtr c) 7 0
    let d1 := { d with trace := mapSet (fun _ => []) d.trace (c * 256 + wp) (n.entry d.free) }
    let d2 := d1.setRbits (.trcPtr c) 7 0 ((wp + 1) % 256)
    if wp = 255 then d2.setRbit (.trcPtr c) (if d2.rbit (.trcCtl c) 30 then 30 else 31) true else d2

/-- The events of core `c` are written in their order, at most four; the others are counted in DROP (16 R423). -/
def Dev.traceCore (d : Dev) (c : Nat) : Dev :=
  let mine := (List.range 21).flatMap (fun r => d.traceQ.filter (fun n => n.core == c && n.rank == r))
  let d1 := ((mine.take 4).foldl (fun (e : Dev) n => e.tracePut n) d).useFree 1
  if d1.rbit (.trcPtr c) 30 then d1
  else d1.setRbits (.trcPtr c) 23 16 (min 255 (d1.rbits (.trcPtr c) 23 16 + (mine.length - 4)))

/-- The trace events of a command are written; those of one command count as of one cycle (DESIGN CHOICE, assumption
log 61). -/
def Dev.traceFlush (d : Dev) : Dev :=
  if d.traceQ.isEmpty then d
  else { ((d.traceQ.map TraceNote.core).eraseDups.foldl (fun (e : Dev) c => e.traceCore c) d) with traceQ := [] }

/-! ### Cores and contexts -/

/-- Core `c`. -/
def Dev.core (d : Dev) (c : Nat) : Core := mapGet (fun _ => {}) d.cores c

/-- The device with core `c` replaced. -/
def Dev.setCore (d : Dev) (c : Nat) (k : Core) : Dev := { d with cores := mapSet (fun _ => {}) d.cores c k }

/-- The device with core `c` changed by `f`. -/
def Dev.onCore (d : Dev) (c : Nat) (f : Core → Core) : Dev := d.setCore c (f (d.core c))

/-- Context `x` of a core. -/
def Core.ctx (k : Core) (x : Nat) : Ctx := mapGet (fun _ => {}) k.ctxs x

/-- The core with context `x` replaced. -/
def Core.setCtx (k : Core) (x : Nat) (v : Ctx) : Core := { k with ctxs := mapSet (fun _ => {}) k.ctxs x v }

/-- Context `x` of core `c`. -/
def Dev.ctx (d : Dev) (c x : Nat) : Ctx := (d.core c).ctx x

/-- The device with context `x` of core `c` replaced. -/
def Dev.setCtx (d : Dev) (c x : Nat) (v : Ctx) : Dev := d.setCore c ((d.core c).setCtx x v)

/-- The device with context `x` of core `c` changed by `f`. -/
def Dev.onCtx (d : Dev) (c x : Nat) (f : Ctx → Ctx) : Dev := d.setCtx c x (f (d.ctx c x))

/-- Scalar register `r`. -/
def Ctx.sreg (k : Ctx) (r : Nat) : W64 := mapGet (fun _ => 0) k.s r

/-- The context with scalar register `r` set. -/
def Ctx.setS (k : Ctx) (r : Nat) (v : W64) : Ctx :=
  { k with s := mapSet (fun _ => 0) k.s r v, bad := k.bad.filter (fun o => o ≠ 8 * r) }

/-- The STATE field of CSTATUS (03 Table 3.1). -/
def Ctx.state (k : Ctx) : Nat := bits k.cstatus 2 0

/-- The context with STATE set. -/
def Ctx.setState (k : Ctx) (v : Nat) : Ctx := { k with cstatus := setBits k.cstatus 2 0 v }

/-- The context's PRIO. -/
def Ctx.prio (k : Ctx) : Nat := bits k.cstatus 6 4

/-- Whether the context runs in A1 compatibility mode (03 R84). -/
def Ctx.a1c (k : Ctx) : Bool := bit k.cstatus 8

/-- Binding Bn (03 R66). -/
def Ctx.binding (k : Ctx) (n : Nat) : W32 := mapGet (fun _ => 0) k.b n

/-- Window Wn (03 R63). -/
def Ctx.window (k : Ctx) (n : Nat) : W128 := mapGet (fun _ => 0) k.w n

/-- The sticky flags NF, SAT and ALIGNLOSS as bits 0, 1 and 2 of a mask are set in CSTATUS[18:16] (02 R39). -/
def Ctx.setFlags (k : Ctx) (mask : Nat) : Ctx :=
  { k with cstatus := k.cstatus ||| BitVec.ofNat 64 (mask % 8 * 2 ^ 16) }

/-! ### Memory (01 R17, R18; 08 R200) -/

/-- The size of one stack's range. -/
def stackSize : Nat := 0x1200000000

/-- Whether die `n` is out of reset. -/
def Dev.dieUp (d : Dev) (n : Nat) : Bool := mapGet (fun _ => false) d.diesUp n

/-- Whether the island clocks are stopped: autotomy stage 6 (15 R405). -/
def Dev.clocksStopped (d : Dev) : Bool := d.rbits .pwrStatus 31 29 = 6

/-- The die that holds the memory byte at a DPA, where one is mapped and populated (01 R17, Table 1.4). -/
def memDie (a : Nat) : Option Nat :=
  if a < 8 * stackSize then some (a / stackSize / 2)
  else if 0xF000000000 ≤ a ∧ a < 0xF040000000 ∧ (a - 0xF000000000) % 0x200000 < 0x180000 then
    some ((a - 0xF000000000) / 0x200000 / 128)
  else if 0xF100000000 ≤ a ∧ a < 0xF110000000 then some ((a - 0xF100000000) / 0x400000 / 16)
  else none

/-- Whether a DPA lies in register space (01 R18). -/
def isRegSpace (a : Nat) : Bool := 0xFF00000000 ≤ a ∧ a < 0x10000000000

/-- Whether two DPAs lie in one unbroken range of memory: the stacks, one core's CLM, the CSM. -/
def sameRange (a e : Nat) : Bool :=
  (a < 8 * stackSize ∧ e < 8 * stackSize) ∨
  (0xF000000000 ≤ a ∧ e < 0xF040000000 ∧ (a - 0xF000000000) / 0x200000 = (e - 0xF000000000) / 0x200000) ∨
  (0xF100000000 ≤ a ∧ e < 0xF110000000)

/-- Whether the die of a memory byte can be reached: mapped, out of reset and clocked (01 R18; 14 R376). -/
def Dev.byteOk (d : Dev) (a : Nat) : Bool :=
  match memDie a with
  | some n => d.dieUp n && !d.clocksStopped
  | none => false

/-- Whether an access of `n` bytes at `a` reaches memory: every byte mapped, on dies that can be reached. -/
def Dev.memOk (d : Dev) (a n : Nat) : Bool :=
  n = 0 || (sameRange a (a + n - 1) && d.byteOk a && d.byteOk (a + n - 1))

/-- The region unit that covers a memory byte (09 R249): 0 to 63 clusters, 64 to 71 stacks. -/
def unitOf (a : Nat) : Option Nat :=
  if a < 8 * stackSize then some (64 + a / stackSize)
  else if 0xF000000000 ≤ a ∧ a < 0xF040000000 then some ((a - 0xF000000000) / 0x200000 / 8)
  else if 0xF100000000 ≤ a ∧ a < 0xF110000000 then some ((a - 0xF100000000) / 0x400000)
  else none

/-- A parameter region: unit, number, BASE, NPAGES and CUR (09 R249). -/
structure Region where
  unit : Nat
  num : Nat
  base : Nat
  pages : Nat
  cur : Nat
  deriving DecidableEq, Repr

/-- The size of a page (09 R249). -/
def pageSize : Nat := 65536

/-- Region `n` of unit `u`, where its entry is valid (09 R249). -/
def Dev.region (d : Dev) (u n : Nat) : Option Region :=
  let c := d.reg (.pregCfg u n)
  if bit c 63 then
    some { unit := u, num := n, base := bits c 47 16 * pageSize, pages := bits c 15 0,
           cur := d.rbits (.pregStat u n) 31 31 }
  else none

/-- The valid regions of a unit. -/
def Dev.regionsOf (d : Dev) (u : Nat) : List Region := (List.range 32).filterMap (d.region u)

/-- The region that holds a DPA in one of its two views. -/
def Dev.regionAt (d : Dev) (a : Nat) : Option Region :=
  match unitOf a with
  | none => none
  | some u => (d.regionsOf u).find? (fun r => r.base ≤ a ∧ a < r.base + 2 * r.pages * pageSize)

/-- The offset of a DPA within its view, and whether the view is the shadow view (09 R249). -/
def Region.view (r : Region) (a : Nat) : Bool × Nat :=
  let o := a - r.base
  if o < r.pages * pageSize then (false, o) else (true, o - r.pages * pageSize)

/-- The base of frame `k` of a region. -/
def Region.frame (r : Region) (k : Nat) : Nat := r.base + k * (r.pages * pageSize)

/-- The physical address behind a DPA of a region: the live view reaches frame CUR, the shadow view frame 1 - CUR
(09 R250). -/
def Region.phys (r : Region) (a : Nat) : Nat :=
  match r.view a with
  | (false, o) => r.frame r.cur + o
  | (true, o) => r.frame (1 - r.cur) + o

/-- The physical address behind a memory DPA: the page map applies to every access, whatever its agent (09 R250). -/
def Dev.physOf (d : Dev) (a : Nat) : Nat :=
  match d.regionAt a with
  | some r => r.phys a
  | none => a

/-- The pieces of a range that lie within one page each: start and length. -/
def pagePieces : Nat → Nat → Nat → List (Nat × Nat)
  | 0, _, _ => []
  | k + 1, a, n =>
    if n = 0 then []
    else
      let m := min n (pageSize - a % pageSize)
      (a, m) :: pagePieces k (a + m) (n - m)

/-- The pieces of `n` bytes from `a`. -/
def pieces (a n : Nat) : List (Nat × Nat) := pagePieces (n / pageSize + 2) a n

/-- Memory is in its canonical form: addresses strictly rising, and no entry equal to what an unlisted byte reads as. -/
def Dev.memWf (d : Dev) : Bool := mapWf (fun _ => 0) d.mem

/-- The bytes of physical memory. -/
def Dev.physBytes (d : Dev) (p n : Nat) : List Byte := mapRead (fun _ => 0) d.mem p n

/-- Whether any of `n` physical bytes has a wrong parity bit (08 R200). -/
def Dev.physBad (d : Dev) (p n : Nat) : Bool := d.badPar.any (fun e => e.2 && decide (p ≤ e.1 ∧ e.1 < p + n))

/-- Tracked failing rows that a write of `n` bytes at `p` reaches have been written again (14 R381). -/
def rowsWritten (p n : Nat) (rows : List (Nat × List (Nat × Bool))) : List (Nat × List (Nat × Bool)) :=
  rows.map (fun e => (e.1, e.2.map (fun r => if r.1 < p + n ∧ p < r.1 + 64 then (r.1, true) else r)))

/-- The counters of the stack controller or the CSM that serves `n` bytes of physical memory: stack slot `slot` (0 read,
1 written) counts bytes and slot 2 accesses of 64 B, the cluster's slot 0 CSM lines (16 Table 16.2; 11 Table 11.1). Which
accesses of the device itself count is a DESIGN CHOICE (assumption log 63). -/
def Dev.served (d : Dev) (slot p n : Nat) : Dev :=
  if n = 0 || d.pmcOn == 0 then d
  else
    let k := (p + n - 1) / 64 + 1 - p / 64
    if p < 8 * stackSize then (d.count (4122 + p / stackSize) slot n).count (4122 + p / stackSize) 2 k
    else if 0xF100000000 ≤ p ∧ p < 0xF110000000 then d.count (4138 + (p - 0xF100000000) / 0x400000) 0 k
    else d

/-- Physical memory with a run of bytes written, their parity right (08 R200). -/
def Dev.putPhys (d0 : Dev) (p : Nat) (bs : List Byte) : Dev :=
  let d := d0.served 1 p bs.length
  { d with mem := mapWrite (fun _ => 0) d.mem p bs,
           badPar := mapDrop (fun k => decide (p ≤ k ∧ k < p + bs.length)) d.badPar,
           flt := { d.flt with rows := rowsWritten p bs.length d.flt.rows } }

/-- The bytes at a DPA, through the page map. -/
def Dev.bytesAt (d : Dev) (a n : Nat) : List Byte := (pieces a n).flatMap (fun q => d.physBytes (d.physOf q.1) q.2)

/-- The counters after a read of `n` bytes at a DPA (16 Table 16.2). -/
def Dev.readServed (d : Dev) (a n : Nat) : Dev :=
  if d.pmcOn == 0 then d else (pieces a n).foldl (fun (e : Dev) q => e.served 0 (e.physOf q.1) q.2) d

/-- Whether any byte of a DPA range has a wrong parity bit. -/
def Dev.badAt (d : Dev) (a n : Nat) : Bool := (pieces a n).any (fun q => d.physBad (d.physOf q.1) q.2)

/-- Physical memory with a run of bytes copied, each with its parity as read (08 R200; 13 R343). -/
def Dev.copyPhys (d : Dev) (src dst n : Nat) : Dev :=
  let d1 := (d.served 0 src n).putPhys dst (d.physBytes src n)
  let bad := (List.range n).filter (fun i => d.physBad (src + i) 1)
  { d1 with badPar := bad.foldl (fun m i => mapSet (fun _ => false) m (dst + i) true) d1.badPar }

/-- Physical memory with a run of bytes and their parity marks (0 right) written. -/
def Dev.putMarked (d : Dev) (p : Nat) (bs : List Byte) (bad : List Nat) : Dev :=
  let d1 := d.putPhys p bs
  { d1 with badPar := bad.foldl (fun m i => mapSet (fun _ => false) m (p + i) true) d1.badPar }

/-! ### The twin bond (10 R290) -/

/-- PORTA and PORTB while FAB_TWIN.EN = 1; a port value of 24 to 31 names no port (01 R13). -/
def Dev.bond (d : Dev) : Option (Nat × Nat) :=
  let a := d.rbits .fabTwin 4 0
  let b := d.rbits .fabTwin 12 8
  if d.rbit .fabTwin 31 && decide (a < 24 ∧ b < 24) then some (a, b) else none

/-- Whether port `p` belongs to the twin bond. -/
def Dev.inBond (d : Dev) (p : Nat) : Bool :=
  match d.bond with
  | some (a, b) => p == a || p == b
  | none => false

/-! ### Digests (13 R353) -/

/-- One word of the digest of 13 R353. -/
def digestStep (a b : W32) (w : W32) (i : Nat) : W32 × W32 :=
  let a1 := a + w + BitVec.ofNat 32 i
  let b1 := rotl32 (b ^^^ a1) 13
  let a2 := rotl32 a1 7 + b1
  (a2, b1 + 0x9E3779B9#32)

/-- The words of the digest in order. -/
def digestWords : W32 → W32 → Nat → List W32 → W32 × W32
  | a, b, _, [] => (a, b)
  | a, b, i, w :: ws => digestWords (digestStep a b w i).1 (digestStep a b w i).2 (i + 1) ws

/-- One of the eight closing rounds of the digest. -/
def digestClose (p : W32 × W32) : W32 × W32 :=
  let a1 := p.1 + 0x243F6A88#32
  let b1 := rotl32 (p.2 ^^^ a1) 13
  (rotl32 a1 7 + b1, b1)

/-- dg(key, w, n) of 13 R353. -/
def digest (key : W64) (ws : List W32) : W64 :=
  let p := digestWords (key.setWidth 32) ((key >>> 32).setWidth 32 ^^^ BitVec.ofNat 32 ws.length) 0 ws
  let q := digestClose (digestClose (digestClose (digestClose (digestClose (digestClose (digestClose (digestClose p)))))))
  BitVec.ofNat 64 (q.2.toNat * 2 ^ 32 + q.1.toNat)

/-- The 32-bit little-endian words of a byte string. -/
def words32 : List Byte → List W32
  | a :: b :: c :: e :: r => BitVec.ofNat 32 (ofBytes [a, b, c, e]) :: words32 r
  | _ => []

/-! ### Written bits (09 R251) -/

/-- A shadow-view page that receives a write gets its written bit, counted in WRPAGES (09 R251). -/
def Dev.markWritten (d : Dev) (r : Region) (page : Nat) : Dev :=
  let k := (r.unit * 32 + r.num) * 65536 + page
  if mapGet (fun _ => false) d.written k then d
  else
    { d.setRbits (.pregStat r.unit r.num) 15 0 (d.rbits (.pregStat r.unit r.num) 15 0 + 1) with
      written := mapSet (fun _ => false) d.written k true }

/-- The written bits of a device's own write of `n` bytes at a DPA (09 R251). -/
def Dev.markAt (d : Dev) (a n : Nat) : Dev :=
  (pieces a n).foldl (fun (e : Dev) q =>
    match e.regionAt q.1 with
    | some r => if (r.view q.1).1 then e.markWritten r ((r.view q.1).2 / pageSize) else e
    | none => e) d

/-- Bytes that the device itself writes at a DPA: the page map applies, and written bits are set. -/
def Dev.devWrite (d : Dev) (a : Nat) (bs : List Byte) : Dev :=
  (pieces a bs.length).foldl (fun (e : Dev) q =>
    (e.markAt q.1 q.2).putPhys (e.physOf q.1) ((bs.drop (q.1 - a)).take q.2)) d

/-! ### Fault records (14 R365) -/

/-- A unit ID of 14 Table 14.1. -/
def unitId (kind index : Nat) : Nat := kind * 2 ^ 28 + index

/-- The row reads that the GSE of core `c` keeps outstanding at most: 64, and 32 from autotomy stage 2 on or while its cluster's
island is at thermal step 2 (06 R154; 15 R402, R409). -/
def Dev.gseCap (d : Dev) (c : Nat) : Nat := if 2 ≤ d.pwr.top || d.rbit .pwrThl2 (c / 8) then 32 else 64

/-- The fault record's 32 bytes (14 R365). -/
def faultBytes (d : Dev) (code unit level part detail : Nat) : List Byte :=
  toBytes 8 (d.regN .timNow) ++ toBytes 4 unit ++ toBytes 2 code ++ toBytes 1 level ++ toBytes 1 part ++
  toBytes 8 detail ++ toBytes 8 (d.regN .chrStep)

/-- A fault record is appended to the ring; one whose write fails is counted in FLT_LOGLOST (14 R365). -/
def Dev.faultRec (d : Dev) (code unit level part detail : Nat) : Dev :=
  let n := 2 ^ d.rbits .fltLogcfg 4 0
  let wp := d.regN .fltLogwp
  let a := d.regN .fltLogbase + wp % n * 32
  if d.memOk a 32 then
    let d1 := d.devWrite a (faultBytes d code unit level part detail)
    let d2 := if n ≤ (d.reg .fltLogwp - d.reg .fltLogrp).toNat then d1.setRbit .fltStatus 8 true else d1
    d2.setRegN .fltLogwp (wp + 1)
  else d.addStick .fltLoglost 31 0 1

/-- A fault record with level 0 and part 0. -/
def Dev.faultAt (d : Dev) (code unit detail : Nat) : Dev := d.faultRec code unit 0 0 detail

/-- The unit ID of engine `e` of core `c`. -/
def unitEngine (c e : Nat) : Nat := unitId 4 (e * 2 ^ 9 + c)
/-- The unit ID of logical core `c`. -/
def unitCore (c : Nat) : Nat := unitId 3 c
/-- The unit ID of fabric port `p`. -/
def unitPort (p : Nat) : Nat := unitId 6 p
/-- The unit ID of the codec of stack `n`. -/
def unitCodec (n : Nat) : Nat := unitId 12 (n / 2 * 2 ^ 8 + 4 * 2 ^ 4 + n % 2)

/-- The unit ID of the SRAM bank and row that hold a CLM or CSM byte (14 Table 14.1; 08 R196, R197). -/
def unitSram (a : Nat) : Nat :=
  if a < 0xF100000000 then
    let l := (a - 0xF000000000) % 0x200000 / 64
    unitId 9 ((a - 0xF000000000) / 0x200000 * 2 ^ 5 + l % 24 + l / 24 * 2 ^ 16)
  else
    let l := (a - 0xF100000000) % 0x400000 / 64
    unitId 9 (2 ^ 27 + (a - 0xF100000000) / 0x400000 * 2 ^ 5 + ((l % 32) ^^^ (l / 32 % 32)) + l / 32 * 2 ^ 16)

/-- The logical channel of a stack offset (08 R198). -/
def stackChannel (o : Nat) : Nat := (o / 2 ^ 8 % 32) ^^^ (o / 2 ^ 13 % 32) ^^^ (o / 2 ^ 18 % 32)

/-- The channel address of a stack offset (08 R198). -/
def channelAddr (o : Nat) : Nat := o / 2 ^ 13 * 256 + o % 256

/-- The channel address behind the last byte of a logical channel (08 R198). -/
def channelEnd : Nat := channelAddr stackSize

/-- The physical channel that serves logical channel `lc` of stack `n` (08 R199). -/
def Dev.physChannel (d : Dev) (n lc : Nat) : Nat :=
  if d.rbit (.stkChmap n) 7 && d.rbits (.stkChmap n) 4 0 = lc then 32
  else if d.rbit (.stkChmap n) 15 && d.rbits (.stkChmap n) 12 8 = lc then 33
  else lc

/-- The physical bytes among `n` whose parity is wrong. -/
def Dev.badPhys (d : Dev) (p n : Nat) : List Nat :=
  (d.badPar.filter (fun e => e.2 && decide (p ≤ e.1 ∧ e.1 < p + n))).map (fun e => e.1)

/-- The DPAs of a range whose parity is wrong. -/
def Dev.badDpas (d : Dev) (a n : Nat) : List Nat :=
  (pieces a n).flatMap (fun q => (d.badPhys (d.physOf q.1) q.2).map (fun p => p - d.physOf q.1 + q.1))

/-- What one error covers: a granule of a stack, a line of an SRAM (DEDUCED, assumption log 50). -/
def errorUnit (b : Nat) : Nat := if b < 8 * stackSize then b / 256 else b / 64

/-- The first bad byte of each error unit. -/
def errorBytes (bs : List Nat) : List Nat :=
  bs.foldl (fun acc b => if acc.any (fun x => errorUnit x == errorUnit b) then acc else acc ++ [b]) []

/-- A CLM or CSM row fails parity: it is tracked, 16 rows to a die; a row written again since it last failed is to be
replaced where REPCFG.ROW is 1: the start waits for its lock (14 R381, R389). -/
def Dev.rowFailed (d : Dev) (p : Nat) : Dev :=
  let die := (memDie p).getD 0
  let row := p / 64 * 64
  let mine := mapGet (fun _ => []) d.flt.rows die
  match mine.find? (fun e => e.1 = row) with
  | none =>
    let kept := if 16 ≤ mine.length then mine.drop 1 else mine
    { d with flt := { d.flt with rows := mapSet (fun _ => []) d.flt.rows die (kept ++ [(row, false)]) } }
  | some (_, false) => d
  | some (_, true) =>
    let u := unitSram p
    let w : LockWait := { act := 7, scope := unitId 2 ((unitOf p).getD 0), arg := u }
    if d.rbit .fltRepcfg 2 then
      { d with flt := { d.flt with rows := mapSet (fun _ => []) d.flt.rows die (mine.filter (fun e => e.1 ≠ row)),
                                   waits := d.flt.waits ++ [w] } }
    else d

/-- The parity failure of the byte at a DPA is reported to the FLT block where it is detected: SRAMPAR for CLM and CSM; for
a stack, STK_ECC.UNCORR, STK_ERRLOG and STKUNC (08 R201, R202; 14 Table 14.2). -/
def Dev.reportByte (d : Dev) (b : Nat) : Dev :=
  if b < 8 * stackSize then
    let k := b / stackSize
    let d1 := (d.addStick (.stkEcc k) 31 16 1).setRegN (.stkErrlog k) (2 ^ 63 + b)
    d1.faultAt 0x0301 (unitId 8 (k * 2 ^ 6 + d.physChannel k (stackChannel (d.physOf b % stackSize)))) b
  else (d.faultAt 0x0201 (unitSram (d.physOf b)) (b / 64 * 64)).rowFailed (d.physOf b)

/-- A read of `n` bytes at `a` reports every failure among them (08 R201, R202). -/
def Dev.reportParity (d : Dev) (a n : Nat) : Dev :=
  (errorBytes (d.badDpas a n)).foldl (fun (e : Dev) b => e.reportByte b) d

/-- The device is to stop at the next boundary with a cause (14 R377). A cause already set stays. -/
def Dev.askStop (d : Dev) (cause : Nat) : Dev :=
  if d.chorus.stopAsked = 0 then { d with chorus := { d.chorus with stopAsked := cause } } else d

/-- A parity failure in an engine, a queue FIFO or the context store of core `c`, none of which has a spare row, is reported
and calls for level 3: the substitution waits for its lock, or the device is to stop at the next boundary with ADVISE 3 where
MAXAUTO is lower (14 R365, R373, R389; DEDUCED, assumption log 50). -/
def Dev.coreParity (d : Dev) (c code unit detail : Nat) : Dev :=
  if d.rbits .fltEsccfg 2 0 < 3 then
    ((d.faultRec code unit 0 0 detail).setRbits .fltStatus 22 20 3).askStop 6
  else
    let d1 := d.faultRec code unit 3 0 detail
    let w : LockWait := { act := 3, scope := unitCore c }
    if d1.flt.waits.contains w then d1 else { d1 with flt := { d1.flt with waits := d1.flt.waits ++ [w] } }

/-- PATHPAR of engine `e` of core `c` (14 Table 14.2). -/
def Dev.pathParity (d : Dev) (c e : Nat) : Dev := d.coreParity c 0x0202 (unitEngine c e) 0

/-! ### Clutch page protection (13 R342 to R345) -/

/-- The state field of a clutch slot (13 Table 13.2). -/
def Dev.slotSt (d : Dev) (k : Nat) : Nat := d.rbits (.slotState k) 2 0

/-- The running clutch's lock entry is freed (14 R387). -/
def Dev.dropClutchLock (d : Dev) : Dev :=
  match d.snp.lock with
  | some i => { d.setReg (.fltLock i) 0 with snp := { d.snp with lock := none } }
  | none => d

/-- Whether a waiting write's page is still protected. -/
def Dev.stillWaits (d : Dev) (w : Nat × List Byte) : Bool := (mapGet (fun _ => none) d.prot (w.1 / pageSize)).isSome

/-- Writes that waited on pages which are protected no more are made, in order (13 R343, R345). -/
def Dev.releasePages (d : Dev) : Dev :=
  (d.waitingWrites.filter (fun w => !d.stillWaits w)).foldl (fun (e : Dev) w => e.putPhys w.1 w.2)
    { d with waitingWrites := d.waitingWrites.filter d.stillWaits }

/-- The spill pages of a slot are free. -/
def Dev.dropSpills (d : Dev) (k : Nat) : Dev :=
  let mine := fun (e : Nat × Option SpillPage) => match e.2 with | some p => p.slot == k | none => false
  { d.setRegN .snpSpused (d.regN .snpSpused - d.spills.countP mine) with spills := d.spills.filter (fun e => !mine e) }

/-- The search for a slot's mismatch ends with the slot (13 R339). -/
def Dev.dropLocate (d : Dev) (k : Nat) : Dev :=
  { d with snp := { d.snp with jobs := d.snp.jobs.filter (fun e => match e.2 with
      | some j => !(j.kind == 1 && j.slot == k)
      | none => true) } }

/-- A slot becomes BAD with a cause: its remaining pages are released, and SNP_STATUS.BAD is set (13 R343, R345). -/
def Dev.slotBad (d0 : Dev) (k cause : Nat) : Dev :=
  let d := d0.dropLocate k
  let d1 := d.setRegN (.slotState k) (cause * 2 ^ 8 + 4)
  let d2 := d1.setRbit .snpStatus 8 true
  let d2 := if d.slotSt k = 1 ∨ d.slotSt k = 2 then d2.dropClutchLock else d2
  ({ d2 with prot := d2.prot.filter (fun e => match e.2 with | some q => q.slot ≠ k | none => true) }.dropSpills k).releasePages

/-- The leaf of a page's bytes as copied (13 R354). -/
def leafOf (area page : Nat) (bs : List Byte) : W64 :=
  digest (BitVec.ofNat 64 (area * 2 ^ 32 + page)) (words32 bs)

/-- The leaf of a page over its bytes as they stand is stored (13 R354). -/
def Dev.storeLeaf (d : Dev) (pg : Nat) (q : ProtPage) : Dev :=
  d.devWrite (d.regN (.slotDbase q.slot) + 8 * q.leaf) (toBytes 8 (leafOf q.area q.page (d.physBytes (pg * pageSize) pageSize)).toNat)

/-- A page counts as copied: LEFT falls by one and its protection ends (13 R344). -/
def Dev.pageDone (d : Dev) (pg k : Nat) : Dev :=
  let d1 := d.setRegN (.slotLeft k) (d.regN (.slotLeft k) - 1)
  { d1 with prot := mapErase d1.prot pg }

/-- The failures among `n` physical bytes are reported at their DPAs: a region's page map is its own inverse (09 R250;
08 R201, R202). -/
def Dev.reportPhys (d : Dev) (p n : Nat) : Dev :=
  (errorBytes ((d.badPhys p n).map d.physOf)).foldl (fun (e : Dev) b => e.reportByte b) d

/-- A protected page is copied to its destination and its leaf stored (13 R342, R354); a byte with an uncorrected
error makes the slot BAD, and the FLT block is told (13 Table 13.3). -/
def Dev.copyPage (d : Dev) (pg : Nat) (q : ProtPage) : Dev :=
  let src := pg * pageSize
  let d1 := (d.markAt q.dest pageSize).copyPhys src (d.physOf q.dest) pageSize
  if d.physBad src pageSize then ((d1.reportPhys src pageSize).pageDone pg q.slot).slotBad q.slot 1
  else (d1.storeLeaf pg q).pageDone pg q.slot

/-- The lowest free page of the spill area, where one is left (13 R345). -/
def Dev.freeSpill (d : Dev) : Option Nat :=
  (List.range (d.regN .snpSpn)).find? (fun i => (mapGet (fun _ => none) d.spills i).isNone)

/-- A TWIN page that the twin has not read is copied into the spill area (13 R345), its leaf stored; an uncorrected error
makes the slot BAD as in any copy (13 Table 13.3). -/
def Dev.spillPage (d : Dev) (pg : Nat) (q : ProtPage) (i : Nat) : Dev :=
  let src := pg * pageSize
  let a := d.regN .snpSpbase + i * pageSize
  let d1 := (d.markAt a pageSize).copyPhys src (d.physOf a) pageSize
  if d.physBad src pageSize then (d1.reportPhys src pageSize).slotBad q.slot 1
  else
    let d2 := d1.storeLeaf pg q
    let d3 := d2.setRegN .snpSpused (d2.regN .snpSpused + 1)
    { d3 with spills := mapSet (fun _ => none) d3.spills i (some { slot := q.slot, phys := pg, leaf := q.leaf, got := q.got }),
              prot := mapErase d3.prot pg }

/-- A run of bytes is written to physical memory within one page: an uncopied protected page is copied first
(13 R343); on a full spill area the write waits and SPILLFULL is set (13 R345). -/
def Dev.writePhys (d : Dev) (p : Nat) (bs : List Byte) : Dev :=
  match mapGet (fun _ => none) d.prot (p / pageSize) with
  | none => d.putPhys p bs
  | some q =>
    if q.twin && decide (pageSize ≤ q.got) then d.putPhys p bs
    else if q.twin then
      match d.freeSpill with
      | some i => (d.spillPage (p / pageSize) q i).putPhys p bs
      | none => { d.setRbit .snpStatus 5 true with waitingWrites := d.waitingWrites ++ [(p, bs)] }
    else (d.copyPage (p / pageSize) q).putPhys p bs

/-! ### Writes through the page map (09 R236, R250, R251) -/

/-- A write of bytes at a DPA within one page, by any agent but the region logic: header bytes are dropped and set
HDRW (09 R236). -/
def Dev.writePiece (d : Dev) (a : Nat) (bs : List Byte) : Dev :=
  match d.regionAt a with
  | none => d.writePhys a bs
  | some r =>
    let v := r.view a
    let drop := if v.2 < 64 then min (64 - v.2) bs.length else 0
    let d1 := if drop = 0 then d else d.setRbit .chrStatus 5 true
    let rest := bs.drop drop
    if rest.isEmpty then d1
    else
      let d2 := if v.1 then d1.markWritten r (v.2 / pageSize) else d1
      d2.writePhys (r.phys (a + drop)) rest

/-- The pieces of a write with their bytes. -/
def writePieces : List (Nat × Nat) → List Byte → Dev → Dev
  | [], _, d => d
  | (a, n) :: qs, bs, d => writePieces qs (bs.drop n) (d.writePiece a (bs.take n))

/-- The bytes are written at a DPA through the page map, the header rule and the clutch protection. -/
def Dev.writeAt (d : Dev) (a : Nat) (bs : List Byte) : Dev := writePieces (pieces a bs.length) bs d

/-! ### Time -/

/-- The error of TIM in HOLDOVER after `t` nanoseconds: 100 ns + ceil(1,000 ns x t / 3,600 s), sticking (12 R313). -/
def holdoverErr (t : Nat) : Nat := stick 32 (100 + (t + 3599999999) / 3600000000)

/-- The device after `n` nanoseconds of TAI: TIM_NOW moves on, and in HOLDOVER TIM_HOLDT and TIM_TERR follow
(12 R313). -/
def Dev.passTime (d : Dev) (n : Nat) : Dev :=
  let d1 := d.setRegN .timNow ((d.regN .timNow + n) % 2 ^ 64)
  if d1.rbits .timStatus 31 30 = 2 then
    let t := d1.tim.holdNs + n
    let d2 := { d1 with tim := { d1.tim with holdNs := t } }
    (d2.setRegN .timHoldt (t / 1000000000 % 2 ^ 32)).setRegN .timTerr (holdoverErr t)
  else d1

/-- The device after an idle step: TAI moves on by a free amount (assumption log 3). -/
def Dev.tick (d : Dev) : Dev := (d.passTime (Config.elapsed d.freeCtr)).useFree 1
/-! ### Completion and error queues, and taking an exception (03 R70, R81, R82) -/

/-- The pointer registers of a ring: HEAD, TAIL, FULL and the entry count 2^LOG2N (03 R72). -/
def Dev.ringHead (d : Dev) (c q : Nat) : Nat := d.rbits (.qptr c q) 11 0
/-- TAIL of a ring. -/
def Dev.ringTail (d : Dev) (c q : Nat) : Nat := d.rbits (.qptr c q) 27 16
/-- FULL of a ring. -/
def Dev.ringFull (d : Dev) (c q : Nat) : Bool := d.rbit (.qptr c q) 29
/-- The entries a ring holds at most. -/
def Dev.ringSize (d : Dev) (c q : Nat) : Nat := 2 ^ d.rbits (.qcfg c q) 3 0
/-- The fill level of a ring (03 R72). -/
def Dev.ringFill (d : Dev) (c q : Nat) : Nat :=
  if d.ringFull c q then d.ringSize c q
  else (d.ringTail c q + d.ringSize c q - d.ringHead c q) % d.ringSize c q
/-- The DPA of ring entry `i`. -/
def Dev.ringEntry (d : Dev) (c q i : Nat) : Nat := d.rbits (.qbase c q) 47 6 * 64 + i * 64

/-- A push advances TAIL; one that makes TAIL equal to HEAD sets FULL (03 R72). -/
def Dev.ringPush (d : Dev) (c q : Nat) : Dev :=
  let t := (d.ringTail c q + 1) % d.ringSize c q
  let d1 := d.setRbits (.qptr c q) 27 16 t
  if t = d.ringHead c q then d1.setRbit (.qptr c q) 29 true else d1

/-- A pop advances HEAD and clears FULL (03 R72). -/
def Dev.ringPop (d : Dev) (c q : Nat) : Dev :=
  (d.setRbits (.qptr c q) 11 0 ((d.ringHead c q + 1) % d.ringSize c q)).setRbit (.qptr c q) 29 false

/-- The completion and error entry (03 R70). -/
def ceEntry (rec pc : W64) (dpa : Nat) (cmd : W64) : List Byte :=
  toBytes 8 rec.toNat ++ toBytes 8 pc.toNat ++ toBytes 8 dpa ++ toBytes 8 cmd.toNat ++ toBytes 32 0

/-- An entry is discarded: QPTR.OVF and SEQ_INTSTAT.CEOVF are set (03 R70). -/
def Dev.ceDiscard (d : Dev) (c q : Nat) : Dev :=
  ((d.setRbit (.qptr c q) 31 true).setRbit (.seqIntstat c) 2 true).count (c * 8 + 6) 5 1

/-- The device writes an entry to completion and error queue `q`, or discards it (03 R70). -/
def Dev.cePush (d : Dev) (c q : Nat) (e : List Byte) : Dev :=
  if d.ringFull c q || !d.rbit (.qcfg c q) 31 then d.ceDiscard c q
  else
    let a := d.ringEntry c q (d.ringTail c q)
    if d.memOk a 64 then ((d.writeAt a e).ringPush c q).count (c * 8 + 6) 4 1
    else (d.ceDiscard c q).faultAt 0x0205 (unitCore c) a

/-- The queue that B5 names, where the binding is valid and names a completion and error queue (03 R68, R81). -/
def Ctx.ceQueue (k : Ctx) : Option Nat :=
  let b := k.binding 5
  let q := bits b 5 0
  if bit b 6 && decide (52 ≤ q ∧ q ≤ 59) then some q else none

/-- What an exception carries (03 R81, R82). -/
structure Exc where
  /-- Code of Table 3.6. -/
  code : Nat
  /-- SLOT, UNIT and DETAIL of EXCREC. -/
  slot : Nat := 0xFF
  unit : Nat := 0xFF
  detail : Nat := 0
  /-- The faulting DPA and the failing command, 0 if none. -/
  dpa : Nat := 0
  cmd : W64 := 0
  deriving DecidableEq, Repr

/-- EXCREC (03 Table 3.7). -/
def excRec (x : Nat) (e : Exc) : W64 :=
  BitVec.ofNat 64 (e.detail % 2 ^ 32 * 2 ^ 32 + e.slot * 2 ^ 24 + e.unit * 2 ^ 16 + x)

/-- The CSTATUS bit that shows the lease of a unit (03 CSTATUS). -/
def leaseBit (u : Nat) : Nat := if u = 0 then 10 else if u = 1 then 11 else 12

/-- The units that are leased (03 R78). -/
def leaseUnits : List Nat := [0, 1, 3]

/-- The lease of unit `u`. -/
def Core.lease (k : Core) (u : Nat) : Lease := mapGet (fun _ => {}) k.leases u

/-- The core with the lease of unit `u` replaced. -/
def Core.setLease (k : Core) (u : Nat) (l : Lease) : Core := { k with leases := mapSet (fun _ => {}) k.leases u l }

/-- The leases that context `x` holds are marked as released, as RELEASE does; an A1C context holds a lease until it
halts, faults or is reset (03 R84). -/
def Core.releaseAll (k : Core) (x : Nat) : Core :=
  let k1 := leaseUnits.foldl (fun e u =>
    let l := e.lease u
    if l.owner = some x then e.setLease u { l with released := true } else e) k
  let c := k1.ctx x
  k1.setCtx x { c with cstatus := c.cstatus &&& ~~~(BitVec.ofNat 64 0x1C00) }

/-- An exception of context `x` of core `c` at bundle `pc` (03 R81): the context is FAULTED and waits no more, EXCREC, EXCPC and
EXCCODE are written, an entry goes to the queue bound in B5, and SEQ_INTSTAT.EXC is set. EXCPEND follows STATE. -/
def Dev.raiseExc (d : Dev) (c x : Nat) (pc : W64) (e : Exc) : Dev :=
  let r := excRec x e
  let k := d.ctx c x
  let k1 := { k with cstatus := setBits (setBits k.cstatus 31 24 e.code) 2 0 4, excrec := r, excpc := pc, wait := 0, gated := [] }
  let d1 := ((d.setCtx c x k1).count (c * 8) 5 1).traceEv c 4 (some x) (if e.unit ≤ 4 then e.unit else 7) e.code pc
  let d1 := if k.a1c then d1.onCore c (fun e => e.releaseAll x) else d1
  let d2 := match k.ceQueue with
    | some q => d1.cePush c q (ceEntry r pc e.dpa e.cmd)
    | none => d1
  d2.setRbit (.seqIntstat c) 0 true

/-- An exception that an engine, or a memory access still to complete, brings to a context: void for a context in FREE
or RESETTING (03 R58). One brought to a context that is FAULTED already is recorded as the first was: its EXCREC and EXCPC
stand in place of the first's, and B5's queue gets another entry (DESIGN CHOICE, assumption log 52). -/
def Dev.lateExc (d : Dev) (c x : Nat) (pc : W64) (e : Exc) : Dev :=
  let st := (d.ctx c x).state
  if st = 0 ∨ st = 5 then d else d.raiseExc c x pc e

/-! ### Windows (03 R63) -/

/-- Whether all `n` bytes at `a` lie in window `w`, which is valid and grants the permission bit `perm` (0 R, 1 W,
2 X). -/
def windowGrants (w : W128) (perm a n : Nat) : Bool :=
  bit w 3 && bit w perm &&
  decide (bits w 47 12 * 4096 ≤ a ∧ a + n ≤ (bits w 111 76 + 1) * 4096 ∧ bits w 47 12 ≤ bits w 111 76)

/-- Whether one of the context's windows allows the access (03 R63). -/
def Ctx.allows (k : Ctx) (perm a n : Nat) : Bool := (List.range 8).any (fun i => windowGrants (k.window i) perm a n)

/-- Whether a DPA lies in a counter set or in the PMC block (16 R421). -/
def isPmcSpace (a : Nat) : Bool :=
  (0xFF00400000 ≤ a && a < 0xFF00500000) ||
  (match regAt (a / 4 * 4) with
   | some (.pmcCnt _ _) => true
   | some (.pmcSetst _) => true
   | _ => false)

/-- The DETAIL of the WINDOW exception that an access made on behalf of a context raises, if it raises one: the window
check first, then PMC_USER_EN (03 R63; 16 R421). -/
def Ctx.accessFail (k : Ctx) (perm a n : Nat) : Option Nat :=
  if !k.allows perm a n then some 0
  else if isRegSpace a && isPmcSpace a && !bit k.cstatus 9 then some 1
  else none

end Sys2Proof.Machine
end

