-- ==== Sys2Proof/Machine/Irq.lean ====
section
/-! DEFINITION. Interrupt sources and their delivery: FLT_ISRC (14 R366), the MSI-X vectors (17 R446), the MGC interrupt, the status pins
(17 R427, R448), and running a command with the messages its effect sends. -/

namespace Sys2Proof.Machine

/-! ### Interrupt sources (03 R83; 11 R303; 14 R366) -/

/-- Bits [hi:lo] of a status register that an enable register of the same layout enables. -/
def Dev.enabled (d : Dev) (st en : Reg) (hi lo : Nat) : Bool := bits (d.reg st &&& d.reg en) hi lo != 0

/-- Whether core `c` raises its SEQ interrupt (03 R83). -/
def Dev.seqPending (d : Dev) (c : Nat) : Bool := (d.reg (.seqIntstat c) &&& d.reg (.seqInten c)) != 0

/-- FLT_COREPEND[k] (14 R366). -/
def Dev.corePend (d : Dev) (k : Nat) : Nat :=
  (List.range 32).foldl (fun v j => v + b2n (d.seqPending (32 * k + j)) * 2 ^ j) 0

/-- Whether arbiter instance `i` has a starvation bit set (11 R303). -/
def Dev.arbStarved (d : Dev) (i : Nat) : Bool := d.rbits (.arbStarve i) 15 0 != 0

/-- Whether any of `n` arbiter instances from `lo` has a starvation bit set. -/
def Dev.anyStarved (d : Dev) (lo n : Nat) : Bool := (List.range n).any (fun b => d.arbStarved (lo + b))

/-- ARB_SUMCSM: bit `c` stands for the 32 banks of cluster `c` (11 R303). -/
def Dev.arbSumCsm (d : Dev) : Nat :=
  (List.range 64).foldl (fun v c => v + b2n (d.anyStarved (c * 32) 32) * 2 ^ c) 0

/-- ARB_SUMIO: bits [23:0] stand for the fabric ports, bits [31:24] for the stacks (11 R303). -/
def Dev.arbSumIo (d : Dev) : Nat :=
  (List.range 24).foldl (fun v p => v + b2n (d.arbStarved (2048 + p)) * 2 ^ p) 0 +
  (List.range 8).foldl (fun v n => v + b2n (d.anyStarved (2072 + n * 34) 34) * 2 ^ (24 + n)) 0

/-- The arbiter interrupt (11 ARB_INTEN). -/
def Dev.arbIrq (d : Dev) : Bool :=
  (d.rbit .arbInten 0 && d.arbSumCsm != 0) || (d.rbit .arbInten 1 && d.arbSumIo % 2 ^ 24 != 0) ||
  (d.rbit .arbInten 2 && d.arbSumIo / 2 ^ 24 != 0)

/-- FLT_ISRC (14 R366). -/
def Dev.isrc (d : Dev) : Nat :=
  b2n (d.reg .fltLogwp != d.reg .fltLogrp) +
  2 * b2n ((List.range 512).any d.seqPending) +
  4 * b2n (d.enabled .chrStatus .chrInten 7 2) +
  8 * b2n (d.enabled .snpStatus .snpInten 15 4) +
  16 * b2n (d.enabled .lulStatus .lulInten 9 0) +
  32 * b2n d.arbIrq +
  64 * b2n (d.enabled .pwrStatus .pwrInten 11 4) +
  128 * b2n (d.rbit .fltStatus 0)

/-- Whether a source enabled by an enable register is pending. -/
def Dev.irqOn (d : Dev) (en : Reg) : Bool :=
  let m := d.rbits en 7 0
  if m = 0 then false else (m &&& d.isrc) != 0

/-! ### Pins (17 R427, R448) -/

/-- The level of READY: high when MGC_BOOTST.READY is 1. -/
def Dev.pinReady (d : Dev) : Bool := d.rbit .mgcBootst 31

/-- The level of FAULT_N: low while FAIL, STOPPED or TRIP is 1. -/
def Dev.pinFaultN (d : Dev) : Bool := !(d.rbit .mgcBootst 30 || d.rbit .fltStatus 0 || d.rbit .pwrStatus 11)

/-- The level of THERMTRIP_N: low from a trip until the next POR_N. -/
def Dev.pinThermtripN (d : Dev) : Bool := !d.pwr.tripped

/-- The level of SMB_ALERT_N: low while FLT_ISRC has a bit enabled in MGC_SMBALERT. -/
def Dev.pinSmbAlertN (d : Dev) : Bool := !(d.irqOn .mgcSmbalert)

/-! ### MSI-X (17 R446) -/

/-- Whether the source of an MSI-X vector becomes pending between two states of the device. -/
def Dev.vectorRises (a b : Dev) (v : Nat) : Bool :=
  match v with
  | 0 => b.irqOn .fltHosten && !a.irqOn .fltHosten
  | 1 =>
    b.reg .hstTsrxwp == (a.reg .hstTsrxwp + 1) % 65536 || b.reg .hstTstxrp == (a.reg .hstTstxrp + 1) % 65536 ||
    (b.rbit .hstTsstat 0 && !a.rbit .hstTsstat 0)
  | 2 => b.rbit (.mbxStat 0) 30 && !a.rbit (.mbxStat 0) 30
  | _ => (b.rbit .mgcBootst 31 && !a.rbit .mgcBootst 31) || (b.rbit .mgcBootst 30 && !a.rbit .mgcBootst 30)

/-- Whether a source enabled in FLT_MGCEN becomes pending between two states of the device (14 R366). -/
def Dev.mgcRises (a b : Dev) : Bool := b.irqOn .fltMgcen && !a.irqOn .fltMgcen

/-- The device after a change, with the interrupts that it makes pending: an unmasked vector sends its message, a masked
one keeps it in the pending-bit array, and the MGC interrupt is raised. -/
def Dev.deliver (a b : Dev) : Dev :=
  let d := (List.range 4).foldl (fun e v =>
    if a.vectorRises b v then
      if mapGet (fun _ => false) b.msixOpen v then e.emit (.msix v)
      else { e with msixPend := mapSet (fun _ => false) e.msixPend v true }
    else e) b
  if a.mgcRises b then d.emit .mgcIrq else d

/-! ### Running a command -/

/-- The device with no trace event of an earlier command, as a command finds it. -/
def Dev.fresh (d : Dev) : Dev := { d with traceQ := [] }

/-- The command's effect is a function of the device; its trace events are written and the messages it gives rise to are
sent; the queue is not touched. -/
def State.run (s : State) (f : Dev → Dev) : Host.Outcome State Fault Refusal :=
  .next { s with dev := s.dev.deliver (f s.dev.fresh).traceFlush }

end Sys2Proof.Machine
end

