-- ==== Sys2Proof/Machine/Arb.lean ====
section
/-! DEFINITION. The arbiter instances (11): the decision of a cycle, the parked grant, ages and starvation. -/

namespace Sys2Proof.Machine

/-- PRIO of input `r` of instance `i` (11 ARB_PRIO0, ARB_PRIO1). -/
def Dev.arbPrio (d : Dev) (i r : Nat) : Nat :=
  if r < 8 then d.rbits (.arbPrio0 i) (4 * r + 3) (4 * r) else d.rbits (.arbPrio1 i) (4 * (r - 8) + 3) (4 * (r - 8))

/-- The inputs that Table 11.1 assigns to instance `i`. -/
def arbInputs (i : Nat) : Nat := if i < 2048 then 12 else if i < 2072 then 7 else if (i - 2072) / 34 < 2 then 12 else 11

/-- Whether instance `i` is the egress of PORTB of a formed bond, which receives no requests (11 R299). -/
def Dev.arbIdle (d : Dev) (i : Nat) : Bool :=
  match d.bond with
  | some (_, b) => decide (i = 2048 + b)
  | none => false

/-- What an instance keeps. -/
def Dev.arb (d : Dev) (i : Nat) : Arb := mapGet (fun _ => {}) d.arbs i

/-- The device with what an instance keeps replaced. -/
def Dev.setArb (d : Dev) (i : Nat) (a : Arb) : Dev := { d with arbs := mapSet (fun _ => {}) d.arbs i a }

/-- The pointer of a level: 15 after reset (11 R300). -/
def Arb.ptrOf (a : Arb) (l : Nat) : Nat := mapGet (fun _ => 15) a.ptr l

/-- The pointer of a level is set. -/
def Arb.setPtr (a : Arb) (l r : Nat) : Arb := { a with ptr := mapSet (fun _ => 15) a.ptr l r }

/-- The age of an input. -/
def Arb.ageOf (a : Arb) (r : Nat) : Nat := mapGet (fun _ => 0) a.age r

/-- The first of some inputs in circular order after `p` (11 R300). -/
def circular (p : Nat) (cs : List Nat) : Option Nat :=
  ((List.range 16).map (fun k => (p + 1 + k) % 16)).find? cs.contains

/-- An input has waited for `n` cycles: its age rises and sticks, and is due for its flag once it has reached the threshold
(11 R303). -/
def Arb.wait (a : Arb) (thr r n : Nat) : Arb :=
  let v := stick 16 (a.ageOf r + n)
  let a1 := { a with age := mapSet (fun _ => 0) a.age r v }
  if thr ≠ 0 ∧ a.ageOf r < thr ∧ thr ≤ v then { a1 with due := mapSet (fun _ => false) a1.due r true } else a1

/-- Service of a unit of an input sets its age to 0 (11 R303). -/
def Arb.serve (a : Arb) (r : Nat) : Arb := { a with age := mapSet (fun _ => 0) a.age r 0 }

/-- The ages at the end of a cycle: those that wait age, a served one is 0 (11 R303). -/
def Arb.grow (a : Arb) (req : List Nat) (served : Option Nat) (thr : Nat) : Arb :=
  let a1 := match served with | some r => a.serve r | none => a
  (req.filter (fun r => served ≠ some r)).foldl (fun (e : Arb) r => e.wait thr r 1) a1

/-- The cycles of the unit that ends, before its last one, in which inputs waited: a count for inputs 0 onwards
(11 R303). -/
def Arb.waits (a : Arb) (thr : Nat) (ns : List W16) : Arb :=
  ((List.range 16).zip ns).foldl (fun (e : Arb) p => if p.2 = 0 then e else e.wait thr p.1 p.2.toNat) a

/-- ARB_MAXAGE follows the ages; the lowest-numbered input on a tie. -/
def Dev.noteMaxAge (d : Dev) (i : Nat) (req : List Nat) : Dev :=
  let a := d.arb i
  let top := req.foldl (fun m r => max m (a.ageOf r)) 0
  if d.rbits (.arbMaxage i) 15 0 < top then
    (d.setRbits (.arbMaxage i) 15 0 top).setRbits (.arbMaxage i) 19 16 ((req.find? (fun r => a.ageOf r = top)).getD 0)
  else d

/-- One cycle of instance `i`, in which the resource can start a new unit in the next one (11 R300 to R303): the parked
owner or the granted requester is served where its line is raised; the decision for the next cycle is made. `waited` counts
the cycles since the last decision, before this one, in which each input's line was raised and it was not served. -/
def Dev.arbCycle (d : Dev) (i : Nat) (lines more : W16) (waited : List W16) : Dev :=
  let req := if d.arbIdle i then [] else (List.range (arbInputs i)).filter (fun r => bit lines r)
  let owner := d.rbits (.arbState i) 3 0
  let parked := d.rbit (.arbState i) 8
  let a := (d.arb i).waits (d.rbits (.arbAgecfg i) 15 0) (if d.arbIdle i then [] else waited.take (arbInputs i))
  let served := if req.contains owner then some owner else none
  let a1 := if served.isSome then a.setPtr (if parked then d.arbPrio i owner else a.level) owner else a
  let cands := req.filter (fun r => bit more r || served ≠ some r)
  let level := cands.foldl (fun m r => max m (d.arbPrio i r)) 0
  let others := cands.filter (fun r => r ≠ owner)
  let pick := if others.isEmpty then none else circular (a1.ptrOf level) (cands.filter (fun r => d.arbPrio i r = level))
  let a2 := (match pick with | some _ => { a1 with level := level } | none => a1).grow req served (d.rbits (.arbAgecfg i) 15 0)
  let reqBits := req.foldl (fun v r => v + 2 ^ r) 0
  let st := match pick with | some r => reqBits * 2 ^ 16 + r | none => reqBits * 2 ^ 16 + 2 ^ 8 + owner
  let d1 := ((d.setArb i a2).setRegN (.arbState i) st).noteMaxAge i
    ((List.range 16).filter (fun r => req.contains r || waited.getD r 0 != 0))
  if i < 2048 ∧ served.isSome then
    let d2 := d1.count (4138 + i / 32) 0 1
    if parked then d2.count (4138 + i / 32) 2 1 else d2
  else d1

/-- The first candidate at the highest level, in circular order after that level's pointer, and the level (11 R300). -/
def Dev.arbPick (d : Dev) (i : Nat) (cands : List Nat) : Option (Nat × Nat) :=
  let level := cands.foldl (fun m r => max m (d.arbPrio i r)) 0
  (circular ((d.arb i).ptrOf level) (cands.filter (fun r => d.arbPrio i r = level))).map (fun r => (r, level))

/-- The unit of input `r` is granted and served (11 R300, step 5), while the inputs of `req` go on waiting: the pointer of
its level, its age, and the grant parked on it until the next decision. -/
def Dev.arbServe (d : Dev) (i r level : Nat) (req : List Nat) : Dev :=
  (d.setArb i { ((d.arb i).serve r).setPtr level r with level := level }).setRegN (.arbState i)
    (req.foldl (fun v j => v + 2 ^ j) 0 * 2 ^ 16 + 2 ^ 8 + r)

/-- A reset of the unit behind input `r` lowers its line and ends its grant; the instance then decides as if the unit had
finished (11 R306). -/
def Dev.arbDrop (d : Dev) (i r : Nat) : Dev :=
  let st := d.regN (.arbState i)
  let req := (List.range 16).filter (fun j => j ≠ r ∧ st / 2 ^ (16 + j) % 2 = 1)
  let reqBits := req.foldl (fun v j => v + 2 ^ j) 0
  if st / 2 ^ (16 + r) % 2 = 0 ∧ (st % 16 ≠ r ∨ st / 2 ^ 8 % 2 = 1) then d
  else if st % 16 ≠ r ∨ st / 2 ^ 8 % 2 = 1 then d.setRegN (.arbState i) (reqBits * 2 ^ 16 + st % 2 ^ 16)
  else
    match d.arbPick i req with
    | some (j, level) =>
      (d.setArb i { d.arb i with level := level }).setRegN (.arbState i) (reqBits * 2 ^ 16 + j)
    | none => d.setRegN (.arbState i) (reqBits * 2 ^ 16 + 2 ^ 8 + st % 16)

/-- The line of logical core `c` at the CSM banks of its cluster is lowered (11 R306). -/
def Dev.arbDropCore (d : Dev) (c : Nat) : Dev :=
  (List.range 32).foldl (fun (e : Dev) k => e.arbDrop (c / 8 * 32 + k) (c % 8)) d

/-- ARB_DECISION (11 R300). -/
def execArbDecision (i : Fin 2344) (req more : W16) (waited : List W16) (s : State) : Host.Outcome State Fault Refusal :=
  s.run (fun d => d.arbCycle i req more waited)

/-- An input's age rises by the cycles it has waited since it was last counted, and where it has reached AGETHR the starvation
bit is set (11 R303, R306). -/
def Dev.starveFlag (d0 : Dev) (i r waited : Nat) : Dev :=
  let thr := d0.rbits (.arbAgecfg i) 15 0
  let d := if waited = 0 ∨ !d0.rbit (.arbState i) (16 + r) then d0
    else (d0.setArb i ((d0.arb i).wait thr r waited)).noteMaxAge i [r]
  let a := d.arb i
  if mapGet (fun _ => false) a.due r then
    let d1 := (d.setArb i { a with due := mapSet (fun _ => false) a.due r false }).setRbit (.arbStarve i) r true
    if i < 2048 then d1.count (4138 + i / 32) 4 1 else d1
  else d

/-- ARB_STARVE_FLAG (11 R303). -/
def execArbStarveFlag (i : Fin 2344) (input : Fin 16) (waited : W16) (s : State) : Host.Outcome State Fault Refusal :=
  s.run (fun d => d.starveFlag i input waited.toNat)

end Sys2Proof.Machine
end

