-- ==== Sys2Proof/Machine/Locks.lean ====
section
/-! DEFINITION. The maintenance lock table (14 R387 to R389): activities and their scopes, which of them may run together,
and taking and freeing an entry. -/

namespace Sys2Proof.Machine

/-- The KIND of a unit ID (14 Table 14.1). -/
def unitKind (u : Nat) : Nat := u / 2 ^ 28

/-- The INDEX of a unit ID. -/
def unitIndex (u : Nat) : Nat := u % 2 ^ 28

/-- Whether a unit ID is one of Table 14.1: KIND below 14, every INDEX bit that the table does not name 0 (14 R364). -/
def unitOk (u : Nat) : Bool :=
  let i := unitIndex u
  match unitKind u with
  | 0 | 11 | 13 => i == 0
  | 1 => decide (i < 4)
  | 2 => decide (i < 64)
  | 3 => decide (i < 512) || (decide (2 ^ 16 ≤ i ∧ i < 2 ^ 17) && i / 2 ^ 4 % 2 ^ 6 == 0 && decide (i % 16 < 9))
  | 4 => decide (i < 2 ^ 12 ∧ i / 2 ^ 9 < 5)
  | 5 => decide (i < 2 ^ 16 ∧ i % 128 < 80)
  | 6 => decide (i < 2 ^ 13 ∧ i % 32 < 24 ∧ i / 256 ≤ 17) && i / 32 % 8 == 0
  | 7 => decide (i < 8)
  | 8 => decide (i < 512 ∧ i % 64 < 34)
  | 9 => i / 2 ^ 14 % 4 == 0 && (if i < 2 ^ 27 then decide (i % 32 < 24) else decide (i / 32 % 512 < 64))
  | 10 => decide (i < 2)
  | 12 => decide (i < 2 ^ 10 ∧ i / 16 % 16 < 7)
  | _ => false

/-- The die of a core, cluster, port or stack scope (01 R10; 14 R376). -/
def scopeDie (u : Nat) : Nat :=
  let i := unitIndex u
  match unitKind u with
  | 1 => i % 4
  | 2 => i / 16
  | 3 => i % 512 / 128
  | 6 => i % 32 / 6
  | 7 => i / 2
  | _ => 0

/-- Whether two scopes share anything: a core is contained in its cluster and die, a cluster in its die, a port or stack
in its die (14 R388). -/
def scopesMeet (u v : Nat) : Bool :=
  let k := unitKind u
  let l := unitKind v
  let i := unitIndex u
  let j := unitIndex v
  if k = 0 ∨ l = 0 then true
  else if scopeDie u ≠ scopeDie v then false
  else if k = 1 ∨ l = 1 then true
  else if k = 3 ∧ l = 3 then i == j
  else if k = 3 ∧ l = 2 then i / 8 == j
  else if k = 2 ∧ l = 3 then i == j / 8
  else if k = 6 ∧ l = 6 then i % 32 == j % 32
  else k == l && i == j

/-- How two activities may run together (14 Table 14.8): always, with disjoint scopes, in different clusters, never. -/
inductive Compat where
  | y
  | s
  | c
  | n
  deriving DecidableEq, Repr

/-- Table 14.8, one row for each activity code from 1. -/
def compatRow (a : Nat) : List Compat :=
  match a with
  | 1 => [.s, .s, .s, .s, .y, .y, .y, .y, .n, .y, .n, .y]
  | 2 => [.s, .s, .s, .s, .y, .y, .y, .y, .n, .y, .n, .y]
  | 3 => [.s, .s, .c, .s, .y, .y, .s, .y, .n, .y, .n, .n]
  | 4 => [.s, .s, .s, .s, .s, .s, .s, .y, .n, .n, .n, .n]
  | 5 => [.y, .y, .y, .s, .s, .y, .y, .y, .n, .y, .y, .n]
  | 6 => [.y, .y, .y, .s, .y, .s, .y, .y, .n, .y, .y, .y]
  | 7 => [.y, .y, .s, .s, .y, .y, .s, .y, .n, .y, .y, .y]
  | 8 => [.y, .y, .y, .y, .y, .y, .y, .n, .n, .y, .y, .y]
  | 9 => [.n, .n, .n, .n, .n, .n, .n, .n, .n, .n, .n, .n]
  | 10 => [.y, .y, .y, .n, .y, .y, .y, .y, .n, .n, .y, .y]
  | 11 => [.n, .n, .n, .n, .y, .y, .y, .y, .n, .y, .n, .n]
  | 12 => [.y, .y, .n, .n, .n, .y, .y, .y, .n, .y, .n, .n]
  | _ => []

/-- Whether activity `a` on scope `u` conflicts with activity `b` held on scope `v` (14 R388). -/
def conflicts (a u b v : Nat) : Bool :=
  match (compatRow a).getD (b - 1) .n with
  | .y => false
  | .n => true
  | .s => scopesMeet u v
  | .c => unitIndex u / 8 == unitIndex v / 8

/-- The KIND of scope that an activity takes (14 Table 14.7). -/
def scopeKind (a : Nat) : Nat :=
  if a = 1 ∨ a = 2 ∨ a = 3 then 3 else if a = 4 then 1 else if a = 5 then 6 else if a = 6 then 7 else if a = 7 then 2 else 0

/-- Whether an activity and a scope belong together. -/
def lockOk (a u : Nat) : Bool :=
  decide (1 ≤ a ∧ a ≤ 12) && unitOk u && unitKind u == scopeKind a && (unitKind u != 3 || decide (unitIndex u < 512))

/-- Whether entry `i` of the lock table is held. -/
def Dev.lockHeld (d : Dev) (i : Nat) : Bool := d.rbit (.fltLock i) 63

/-- The lowest entry that is held and conflicts with a start. -/
def Dev.lockConflict (d : Dev) (a u : Nat) : Option Nat :=
  (List.range 16).find? (fun i =>
    d.lockHeld i && conflicts a u (d.rbits (.fltLock i) 59 56) (d.rbits (.fltLock i) 31 0))

/-- The lowest free entry. -/
def Dev.lockFree (d : Dev) : Option Nat := (List.range 16).find? (fun i => !d.lockHeld i)

/-- Who asks for a lock: OWNER and CTX of an entry. -/
structure Owner where
  code : Nat
  ctx : Nat := 0
  deriving DecidableEq, Repr

/-- The FLT or the SNP itself. -/
def ownerFlt : Owner := { code := 0 }

/-- The owner that an access path stands for; SMBus and JTAG accesses are MGC accesses (17 R448; 16 R425). -/
def ownerOf (p : Path) : Owner :=
  match p with
  | .host | .bdp _ => { code := 1 }
  | .smbus | .jtag | .mgc => { code := 2 }
  | .ctx c x => { code := 3, ctx := c.val * 128 + x.val }

/-- A lock entry's word. -/
def lockWord (o : Owner) (a u : Nat) : Nat := 2 ^ 63 + a * 2 ^ 56 + o.code * 2 ^ 52 + o.ctx * 2 ^ 32 + u

/-- A start takes a lock entry, or meets a conflict or a full table: the entry taken, and the device after. -/
def Dev.takeLock (d : Dev) (o : Owner) (a u : Nat) : Option Nat × Dev :=
  match d.lockConflict a u, d.lockFree with
  | none, some i => (some i, d.setRegN (.fltLock i) (lockWord o a u))
  | _, _ => (none, d)

/-- Whether software holds entry `i` by LOCK (14 R387). -/
def Dev.swHolds (d : Dev) (i : Nat) : Bool := mapGet (fun _ => false) d.flt.swHeld i

/-- The lock entry of an activity that has ended is freed; one that software has taken with LOCK stays until UNLOCK (14
R387). -/
def Dev.freeLock (d : Dev) (i : Nat) : Dev := if d.swHolds i then d else d.setReg (.fltLock i) 0

/-- LOCK has taken entry `i`. -/
def Dev.holdLock (d : Dev) (i : Nat) : Dev := { d with flt := { d.flt with swHeld := mapSet (fun _ => false) d.flt.swHeld i true } }

/-- UNLOCK frees entry `i`. -/
def Dev.dropLock (d : Dev) (i : Nat) : Dev :=
  { d.setReg (.fltLock i) 0 with flt := { d.flt with swHeld := mapSet (fun _ => false) d.flt.swHeld i false } }

/-- The entry that software holds for an activity and scope, taken with LOCK ahead of the start (14 R387). -/
def Dev.ownLock (d : Dev) (o : Owner) (a u : Nat) : Option Nat :=
  (List.range 16).find? (fun i => d.lockHeld i && d.swHolds i && d.reg (.fltLock i) == BitVec.ofNat 64 (lockWord o a u))

/-- The lock entry of an activity, where it has one, is freed. -/
def Dev.endLock (d : Dev) (i : Option Nat) : Dev :=
  match i with
  | some k => d.freeLock k
  | none => d

/-- A refusal is recorded in FLT_BUSYREC: the activity refused, the one held with its entry, and the requester
(14 R389); with all 16 entries in use and none in conflict, the held fields read 0 (DESIGN CHOICE, assumption
log 22). -/
def Dev.busyRec (d : Dev) (o : Owner) (a u : Nat) : Dev :=
  let (held, e) := match d.lockConflict a u with
    | some i => (d.rbits (.fltLock i) 59 56, i)
    | none => (0, 0)
  d.setRegN .fltBusyrec (a * 2 ^ 28 + held * 2 ^ 24 + e * 2 ^ 20 + o.code * 2 ^ 16)

end Sys2Proof.Machine
end

