-- ==== Sys2Proof/Machine/Wire.lean ====
section
/-! DEFINITION. Frames as they stand on the wire: the link frame of a fabric port (10 R265), and the Ethernet frame of a
long-haul port that carries a Lular frame (12 R308, R311). -/

namespace Sys2Proof.Machine

/-! ### Link frames (10 R265, Table 10.2) -/

/-- The reserved bits [hi:lo] of a frame, in their ascending order. -/
def rsvBits (f : Frame) (hi lo : Nat) : Nat := bits f.rsv hi lo

/-- The 32 header bytes of a frame (10 Table 10.2). -/
def frameHeader (f : Frame) : List Byte :=
  toBytes 1 (f.typ.toNat * 16 + f.vc.toNat * 4 + rsvBits f 0 0 * 2 + b2n f.lastf) ++
  toBytes 1 (f.payload.length / 32) ++ toBytes 2 f.lseq.toNat ++
  toBytes 2 (rsvBits f 7 1 * 2 ^ 9 + f.src.toNat) ++ toBytes 2 (rsvBits f 14 8 * 2 ^ 9 + f.dst.toNat) ++
  toBytes 4 f.xid.toNat ++ toBytes 4 f.off.toNat ++ toBytes 6 f.addr.toNat ++ toBytes 2 (rsvBits f 30 15) ++
  toBytes 4 f.step.toNat ++
  toBytes 4 (b2n f.tv * 2 ^ 31 + rsvBits f 36 31 * 2 ^ 25 + f.core.toNat * 2 ^ 16 + rsvBits f 44 37 * 2 ^ 8 + f.token.toNat)

/-- The bytes that the CRC covers: the header, the payload and trailer bytes 0 to 3. -/
def frameCovered (f : Frame) : List Byte :=
  frameHeader f ++ f.payload ++ toBytes 2 f.ack.toNat ++ toBytes 2 (rsvBits f 60 45)

/-- The frame with the CRC-32 of IEEE 802.3 in its trailer. -/
def sealFrame (f : Frame) : Frame := { f with crc := crc32 (frameCovered f) }

/-- Whether a frame's CRC checks. -/
def crcGood (f : Frame) : Bool := f.crc == crc32 (frameCovered f)

/-- A frame's bytes on the link. -/
def frameBytes (f : Frame) : List Byte := frameCovered f ++ toBytes 4 f.crc.toNat

/-- A frame as its receiver takes it in: parity is regenerated once the CRC has checked (10 R266), and reserved bits have no
meaning (DESIGN CHOICE, assumption log 56). -/
def takeIn (f : Frame) : Frame := { f with rsv := 0, crc := 0, bad := false }

/-! ### Long-haul frames (12 R308, R311, Tables 12.1 and 12.2) -/

/-- The low `8 n` bits of a number as `n` bytes, most significant first: the order of Ethernet, IPv6 and UDP headers
(PRESUMED, assumption log 58). -/
def toBytesBE (n v : Nat) : List Byte := (toBytes n v).reverse

/-- The 48 bytes of the Lular header (12 Table 12.2). -/
def lulHeader (f : LulFrame) : List Byte :=
  let rsv := fun hi lo => bits f.rsv hi lo
  toBytes 1 (f.ver.toNat * 16 + f.typ.toNat) ++ toBytes 1 (rsv 5 0 * 4 + b2n f.joined * 2 + b2n f.reform) ++
  toBytes 1 (rsv 7 6 * 64 + f.srcSite.toNat) ++ toBytes 1 (rsv 9 8 * 64 + f.dstSite.toNat) ++
  toBytes 2 (rsv 16 10 * 512 + f.dev.toNat) ++ toBytes 2 (rsv 23 17 * 512 + f.nshard.toNat) ++
  toBytes 4 f.round.toNat ++ toBytes 4 f.seq.toNat ++ toBytes 4 f.nframes.toNat ++ toBytes 8 f.step.toNat ++
  toBytes 2 f.dprop.toNat ++ toBytes 2 (rsv 39 24) ++ toBytes 8 f.txtime.toNat ++ toBytes 4 f.terr.toNat ++
  toBytes 4 f.since.toNat

/-- What the Lular CRC covers: the Lular header and the payload. -/
def lulCovered (f : LulFrame) : List Byte := lulHeader f ++ f.payload

/-- The bytes that UDP carries. -/
def lulDatagram (f : LulFrame) : List Byte := lulCovered f ++ toBytes 4 f.crc.toNat

/-- The sum of the 16-bit words of a byte string, a last odd byte filled up with zero. -/
def wordSum : List Byte → Nat
  | a :: b :: r => a.toNat * 256 + b.toNat + wordSum r
  | [a] => a.toNat * 256
  | [] => 0

/-- The UDP checksum over the IPv6 pseudo header, the UDP header and its data; 12 R311 names it and leaves it to the
standards (PRESUMED, assumption log 58). -/
def udpChecksum (f : LulFrame) : W16 :=
  let e := f.env
  let pseudo := toBytes 16 e.srcIp.toNat ++ toBytes 16 e.dstIp.toNat ++ toBytesBE 4 e.udpLen.toNat ++
    toBytesBE 4 e.nextHeader.toNat
  let head := toBytesBE 2 e.srcPort.toNat ++ toBytesBE 2 e.dstPort.toNat ++ toBytesBE 2 e.udpLen.toNat
  BitVec.ofNat 16 (65535 - wordSum (pseudo ++ head ++ lulDatagram f) % 65535)

/-- Whether a frame's UDP checksum and Lular CRC check. -/
def lulChecks (f : LulFrame) : Bool := f.crc == crc32 (lulCovered f) && f.env.udpSum == udpChecksum f

/-- A frame with its lengths, its Lular CRC and its UDP checksum filled in. -/
def sealLul (f : LulFrame) : LulFrame :=
  let n := BitVec.ofNat 16 (60 + f.payload.length)
  let f1 := { f with crc := crc32 (lulCovered f), env := { f.env with udpLen := n, ipLen := n } }
  { f1 with env := { f1.env with udpSum := udpChecksum f1 } }

/-- The bytes of a long-haul frame before its FCS (12 Table 12.1). -/
def lulFrameBytes (f : LulFrame) : List Byte :=
  let e := f.env
  toBytesBE 6 e.dstMac.toNat ++ toBytesBE 6 e.srcMac.toNat ++
  (match e.tag with | some t => toBytesBE 2 0x8100 ++ toBytesBE 2 t.toNat | none => []) ++ toBytesBE 2 e.etherType.toNat ++
  toBytesBE 4 (e.ipVersion.toNat * 2 ^ 28 + e.tclass.toNat * 2 ^ 20 + e.flow.toNat) ++ toBytesBE 2 e.ipLen.toNat ++
  toBytes 1 e.nextHeader.toNat ++ toBytes 1 e.hopLimit.toNat ++ toBytes 16 e.srcIp.toNat ++ toBytes 16 e.dstIp.toNat ++
  toBytesBE 2 e.srcPort.toNat ++ toBytesBE 2 e.dstPort.toNat ++ toBytesBE 2 e.udpLen.toNat ++ toBytesBE 2 e.udpSum.toNat ++
  lulDatagram f

/-- The bytes on the line, with the FCS of IEEE 802.3. -/
def lulLine (f : LulFrame) : List Byte := lulFrameBytes f ++ toBytes 4 (crc32 (lulFrameBytes f)).toNat

end Sys2Proof.Machine
end

