-- ==== Sys2Proof/Machine/Link.lean ====
section
/-! DEFINITION. The links of the fabric ports (10 R261 to R271, R290): the twin bond, credits, LSEQ, the replay buffer,
acknowledgement and replay, and the sending of frames along routes. -/

namespace Sys2Proof.Machine

/-! ### Ports, the bond and the site -/

/-- This device's ID. -/
def Dev.me (d : Dev) : Nat := d.rbits .fabDevid 8 0

/-- CHR_STEP[31:0], which every frame carries (10 Table 10.2). -/
def Dev.chrStep32 (d : Dev) : W32 := (d.reg .chrStep).setWidth 32

/-- The port whose LSEQ space, credits and slot order govern port `p`: PORTA for either member of the bond (10 R290). -/
def Dev.linkOf (d : Dev) (p : Nat) : Nat :=
  match d.bond with
  | some (a, b) => if p = b then a else p
  | none => p

/-- The state of the link that governs port `p`. -/
def Dev.link (d : Dev) (p : Nat) : Link := mapGet (fun _ => {}) d.links (d.linkOf p)

/-- The device with that state replaced. -/
def Dev.setLink (d : Dev) (p : Nat) (k : Link) : Dev :=
  { d with links := mapSet (fun _ => {}) d.links (d.linkOf p) k }

/-- What is held for port `p` itself, whatever its bond. -/
def Dev.portOwn (d : Dev) (p : Nat) : Link := mapGet (fun _ => {}) d.links p

/-- The device with what is held for port `p` itself replaced. -/
def Dev.setPortOwn (d : Dev) (p : Nat) (k : Link) : Dev := { d with links := mapSet (fun _ => {}) d.links p k }

/-- Whether port `p` is up. -/
def Dev.portUp (d : Dev) (p : Nat) : Bool := d.rbit (.portStatus p) 31

/-- Whether the port's neighbour is declared absent (10 R289). -/
def Dev.portAbsent (d : Dev) (p : Nat) : Bool := d.rbit (.portStatus p) 30

/-- Whether Shade has stopped the port (10 R291). -/
def Dev.portOff (d : Dev) (p : Nat) : Bool := d.rbit (.portStatus p) 28

/-- UP of PORT_STATUS and of FAB_STATUS. -/
def Dev.setUp (d : Dev) (p : Nat) (b : Bool) : Dev :=
  (d.setRbit (.portStatus p) 31 b).setRbit .fabStatus p b

/-- The members of the link that governs port `p`. -/
def Dev.members (d : Dev) (p : Nat) : List Nat :=
  match d.bond with
  | some (a, b) => if p = a ∨ p = b then [a, b] else [p]
  | none => [p]

/-- Whether the link has a member that is up. -/
def Dev.linkUp (d : Dev) (p : Nat) : Bool := (d.members p).any d.portUp

/-- The member that a frame leaves on: PORTA for an even LSEQ, PORTB for an odd one, the other where one has failed: is down,
or its neighbour is absent (10 R290). -/
def Dev.member (d : Dev) (p : Nat) (lseq : W16) : Nat :=
  match d.members p with
  | [a, b] =>
    let want := if bit lseq 0 then b else a
    if d.portUp want && !d.portAbsent want then want else if want = a then b else a
  | _ => p

/-- The device ID of port `p`'s neighbour: PORT_NBR.DEV where it is checked, else as the croak named it. -/
def Dev.neighbour (d : Dev) (p : Nat) : Nat :=
  if d.rbit (.portNbr p) 31 then d.rbits (.portNbr p) 8 0 else (d.portOwn p).nbr

/-- The valid route to a device: its egress port (10 R271); a port stopped by Shade acts as no route (15 R399). -/
def Dev.route (d : Dev) (dst : Nat) : Option Nat :=
  let r := d.reg (.fabRoute dst)
  let p := bits r 4 0
  if bit r 7 && decide (p < 24) && !(d.portOff p) then some p else none

/-! ### Reports -/

/-- A fabric transfer has failed: FAB_STATUS.XFAIL, the port's XFAIL, and a fault record with the XID (10 R266, R272). -/
def Dev.xfailAt (d : Dev) (p : Nat) (xid : W32) : Dev :=
  ((d.setRbit .fabStatus 26 true).setRbit (.portStatus p) 0 true).faultAt 0x0403 (unitPort p) xid.toNat

/-- A port value of 24 to 31 is rejected: port `p` reports it (01 R13). No code of Table 14.2 names such a value, and XFAIL with
XID 0 stands for it (DESIGN CHOICE, assumption log 56). -/
def Dev.portReject (d : Dev) (p : Nat) : Dev := d.faultAt 0x0403 (unitPort p) 0

/-- A frame with no valid route is dropped: FAB_STATUS.XFAIL, and a fault record for the port it came in on, or for a
port the spec does not name where this device made the frame (10 R271; assumption log 7). -/
def Dev.noRoute (d : Dev) (arrival : Option Nat) (xid : W32) : Dev :=
  match arrival with
  | some p => (d.setRbit .fabStatus 26 true).faultAt 0x0403 (unitPort p) xid.toNat
  | none => ((d.setRbit .fabStatus 26 true).faultAt 0x0403 (unitPort (d.free.toNat % 24)) xid.toNat).useFree 1

/-- FAB_ABSENT gets the bit of every device that is an absent neighbour, or whose route names a port that is absent or
has failed (10 R274). -/
def Dev.absentCond (d : Dev) (n : Nat) : Bool :=
  (List.range 24).any (fun p => d.portAbsent p && decide (d.neighbour p = n)) ||
  (let r := d.reg (.fabRoute n)
   bit r 7 && decide (bits r 4 0 < 24) &&
     (d.portAbsent (bits r 4 0) || d.rbit (.portStatus (bits r 4 0)) 1 || (d.portOwn (bits r 4 0)).failed))

/-- The word of FAB_ABSENT[k] that the conditions of R274 set. -/
def Dev.absentWord (d : Dev) (k : Nat) : Nat :=
  (List.range 32).foldl (fun v j => v + b2n (d.absentCond (32 * k + j)) * 2 ^ j) 0

/-- The conditions of R274 set their bits. -/
def Dev.refreshAbsent (d : Dev) : Dev :=
  (List.range 16).foldl (fun e k => e.setReg (.fabAbsent k) (e.reg (.fabAbsent k) ||| BitVec.ofNat 64 (d.absentWord k))) d

/-- Whether device `n` is marked absent. -/
def Dev.isAbsent (d : Dev) (n : Nat) : Bool := d.rbit (.fabAbsent (n / 32)) (n % 32)

/-! ### Credits and the replay buffer (10 R267, R268) -/

/-- The buffer of each VC in credits of 64 B: 256 KiB, 64 KiB, 64 KiB. -/
def vcInit (vc : Nat) : W16 := if vc = 0 then 4096 else if vc = 1 ∨ vc = 2 then 1024 else 0

/-- The credits a frame costs. -/
def frameCost (f : Frame) : Nat := ceilDiv (40 + f.payload.length) 64

/-- The credits a sender has left on a VC. -/
def Link.avail (k : Link) (vc : Nat) : Nat :=
  (mapGet vcInit k.granted vc - mapGet (fun _ => 0) k.used vc).toNat

/-- The bytes the replay buffer holds. -/
def Link.replayBytes (k : Link) : Nat := k.replay.foldl (fun n f => n + (40 + f.payload.length)) 0

/-- ACK: the highest LSEQ received in order. -/
def Link.ack (k : Link) : W16 := k.rxNext - 1

/-- Whether a sequenced frame may leave now. -/
def Link.mayGo (k : Link) (f : Frame) : Bool :=
  decide (frameCost f ≤ k.avail f.vc.toNat) && decide (k.replayBytes + 40 + f.payload.length ≤ 512 * 1024)

/-- A sequenced frame leaves: it gets its LSEQ and enters the replay buffer (10 R268). -/
def Link.go (k : Link) (f : Frame) : Frame × Link :=
  let g := { f with lseq := k.txNext, ack := k.ack }
  let u := mapGet (fun _ => 0) k.used f.vc.toNat + BitVec.ofNat 16 (frameCost f)
  (g, { k with txNext := k.txNext + 1, replay := k.replay ++ [g],
               used := mapSet (fun _ => 0) k.used f.vc.toNat u })

/-- The input of the egress arbiter at which a frame waits (11 Table 11.1): 0 DATA, 1 TREE, 2 CHORUS, 3 RDREQ, 4 RDRSP and
6 QMSG of this device, 5 those in transit. -/
def egressInput (f : Option Nat × Frame) : Nat :=
  if f.2.typ = 1 then 0 else if f.2.typ = 4 then 1 else if f.2.typ = 5 then 2 else if f.1.isSome then 5
  else if f.2.typ = 2 then 3 else if f.2.typ = 3 then 4 else 6

/-- The frame that waits longest at an input, and the queue without it. -/
def takeInput (i : Nat) : List (Option Nat × Frame) → Option ((Option Nat × Frame) × List (Option Nat × Frame))
  | [] => none
  | f :: fs => if egressInput f = i then some (f, fs) else (takeInput i fs).map (fun r => (r.1, f :: r.2))

/-- The inputs at which a frame waits. -/
def Link.egressInputs (k : Link) : List Nat := (List.range 7).filter (fun i => k.sendq.any (fun f => egressInput f == i))

/-- The inputs whose next frame may leave now: it has its credits and room in the replay buffer. -/
def Link.egressReady (k : Link) : List Nat :=
  (List.range 7).filter (fun i => match takeInput i k.sendq with | some r => k.mayGo r.1.2 | none => false)

/-- A frame is put on the wire by the member its LSEQ selects, its CRC computed. -/
def Dev.wire (d : Dev) (p : Nat) (f : Frame) : Dev :=
  let m := d.member p f.lseq
  ((d.emit (.frame m (sealFrame f))).count (4096 + m) 0 1).count (4096 + m) 2 f.payload.length

/-- The receiver returns the credits of a frame it has taken out of its buffer (10 R267, R293). -/
def Dev.returnCredits (d : Dev) (p : Nat) (vc cost : Nat) : Dev :=
  let k := d.link p
  d.setLink p { k with rxGranted := mapSet vcInit k.rxGranted vc (mapGet vcInit k.rxGranted vc + BitVec.ofNat 16 cost) }

/-- The buffer that a frame filled at its arrival port is free. -/
def Dev.freeBuffer (d : Dev) (f : Option Nat × Frame) : Dev :=
  match f.1 with
  | some a => d.returnCredits a f.2.vc.toNat (frameCost f.2)
  | none => d

/-- A forwarded frame with a byte that fails parity is dropped with every later frame of its XID, and reported (10 R266):
PATHPAR of the port at the failure, and XFAIL. -/
def Dev.dropForward (d : Dev) (p : Nat) (f : Option Nat × Frame) : Dev :=
  let d1 := if f.2.bad then (d.faultAt 0x0202 (unitPort p) 0).xfailAt p f.2.xid else d
  let rest := (d1.link p).dropXids.filter (fun x => x ≠ f.2.xid)
  (d1.setLink p { d1.link p with dropXids := if f.2.lastf then rest else f.2.xid :: rest }).freeBuffer f

/-- The next frame of an input leaves on port `p`, or is dropped for its parity. -/
def Dev.leave (d : Dev) (p i : Nat) : Dev :=
  let k := d.link p
  match takeInput i k.sendq with
  | none => d
  | some (f, rest) =>
    if f.1.isSome && (f.2.bad || k.dropXids.contains f.2.xid) then (d.setLink p { k with sendq := rest }).dropForward p f
    else
      let r := k.go f.2
      ((d.setLink p { r.2 with sendq := rest }).wire p r.1).freeBuffer f

/-- As many of `fuel` frames as may leave the link do, one grant of its egress arbiter after the other (11 R300). -/
def Dev.drainGo (p : Nat) : Nat → Dev → Dev
  | 0, d => d
  | fuel + 1, d =>
    let inst := 2048 + d.linkOf p
    match d.arbPick inst (d.link p).egressReady with
    | none => d
    | some (i, level) =>
      let d1 := d.leave p i
      Dev.drainGo p fuel (d1.arbServe inst i level (d1.link p).egressInputs)

/-- Everything that may leave the link now leaves. -/
def Dev.drain (d : Dev) (p : Nat) : Dev := if d.linkUp p then Dev.drainGo p (d.link p).sendq.length d else d

/-- A sequenced frame is handed to the link of port `p`, and leaves when it may; `arrival` is the port whose buffer it
fills until then. -/
def Dev.sendVia (d : Dev) (p : Nat) (arrival : Option Nat) (f : Frame) : Dev :=
  let k := d.link p
  (d.setLink p { k with sendq := k.sendq ++ [(arrival, f)] }).drain p

/-- A sequenced frame of this device's own making is handed to the link of port `p`. -/
def Dev.sendOn (d : Dev) (p : Nat) (f : Frame) : Dev := d.sendVia p none f

/-- A frame for another device takes its route (10 R271); one with no valid route is dropped. -/
def Dev.sendRouted (d : Dev) (arrival : Option Nat) (f : Frame) : Dev :=
  match d.route f.dst.toNat with
  | some p => d.sendVia p arrival f
  | none =>
    let d1 := d.noRoute arrival f.xid
    match arrival with
    | some a => d1.returnCredits a f.vc.toNat (frameCost f)
    | none => d1

/-- An unsequenced frame leaves at once on every member of a list that is up. -/
def Dev.sendNow (d : Dev) (p : Nat) (f : Frame) : Dev :=
  if d.portUp p then
    ((d.emit (.frame p (sealFrame { f with lseq := 0, ack := (d.link p).ack }))).count (4096 + p) 0 1).count (4096 + p) 2 f.payload.length
  else d

/-- A frame of this device's own making. -/
def Dev.mkFrame (d : Dev) (typ : BitVec 4) (vc : BitVec 2) (dst : Nat) (xid off : W32) (payload : List Byte) : Frame :=
  { typ := typ, vc := vc, lastf := true, lseq := 0, src := BitVec.ofNat 9 d.me, dst := BitVec.ofNat 9 dst, xid := xid,
    off := off, addr := 0, step := d.chrStep32, tv := false, core := 0, token := 0, ack := 0, payload := payload }

/-- The payload of a CTRL frame (10 R267). -/
def ctrlPayload (k : Link) (nak : Option W16) : List Byte :=
  toBytes 2 k.ack.toNat ++ toBytes 2 (nak.getD 0).toNat ++ toBytes 4 (b2n nak.isSome) ++
  toBytes 2 (mapGet vcInit k.rxGranted 0).toNat ++ toBytes 2 (mapGet vcInit k.rxGranted 1).toNat ++
  toBytes 2 (mapGet vcInit k.rxGranted 2).toNat ++ toBytes 18 0

/-- The member of the link that carries CTRL frames: the first that is up. -/
def Dev.ctrlPort (d : Dev) (p : Nat) : Nat := ((d.members p).find? d.portUp).getD p

/-- A CTRL frame is sent, with a NAK where one is due (10 R267, R268). -/
def Dev.sendCtrl (d : Dev) (p : Nat) (nak : Option W16) : Dev :=
  let m := d.ctrlPort p
  let d1 := d.sendNow m (d.mkFrame 7 3 (d.neighbour m) 0 0 (ctrlPayload (d.link p) nak))
  if nak.isSome && d.portUp m then d1.count (4096 + m) 8 1 else d1

/-! ### Acknowledgement and replay (10 R268, R269) -/

/-- Whether `a` acknowledges the oldest frame of the replay buffer: it lies from that frame's LSEQ to the last one
sent. -/
def Link.acks (k : Link) (a : W16) : Bool :=
  match k.replay with
  | [] => false
  | f :: _ => decide ((a - f.lseq).toNat < k.replay.length)

/-- An ACK releases every frame up to it; progress restarts the counts of R269. -/
def Dev.gotAck (d : Dev) (p : Nat) (a : W16) : Dev :=
  let k := d.link p
  if k.acks a then
    let n := match k.replay with | [] => 0 | f :: _ => (a - f.lseq).toNat + 1
    (d.setLink p { k with replay := k.replay.drop n, replays := 0, retrains := 0 }).drain p
  else d

/-- The frames of the replay buffer from position `i` leave again in order; the replay is counted (10 R268, R269). -/
def Dev.replayFrom (d : Dev) (p i : Nat) : Dev :=
  let k := d.link p
  let d1 := d.setLink p { k with replays := k.replays + 1 }
  let m := d.ctrlPort p
  let d2 := (d1.addStick (.portRetry m) 31 16 1).count (4096 + m) 7 1
  (k.replay.drop i).foldl (fun e f => e.wire p { f with ack := k.ack }) d2

/-- Port `p` of the link stops: LINKFAIL and a report (10 R269). A member of the bond that fails leaves the other to carry
every frame, and what is not acknowledged leaves on it again (10 R290). -/
def Dev.linkFail (d : Dev) (p : Nat) : Dev :=
  let m := if d.portUp p then p else d.ctrlPort p
  let d1 := ((d.setUp m false).setRbit (.portStatus m) 1 true).setPortOwn m { d.portOwn m with failed := true }
  let d2 := (d1.faultAt 0x0402 (unitPort m) 0).refreshAbsent
  if d2.linkUp p then (d2.setLink p { d2.link p with replays := 0, retrains := 0 }).replayFrom p 0 else d2

/-- A replay that is due: after 32 without progress a retrain comes first, and after three retrains without progress the
port stops (10 R269). -/
def Dev.replayDue (d : Dev) (p i : Nat) : Dev :=
  let k := d.link p
  if !d.linkUp p || k.replay.isEmpty then d
  else if k.replays < 32 then d.replayFrom p i
  else if k.retrains < 3 then
    ((d.setLink p { k with replays := 0, retrains := k.retrains + 1 }).addStick (.portRetry (d.ctrlPort p)) 15 0 1).replayFrom
      p i
  else d.linkFail p

/-- A NAK names the LSEQ to replay from (10 R268). -/
def Dev.gotNak (d : Dev) (p : Nat) (n : W16) : Dev :=
  let k := d.link p
  match k.replay with
  | [] => d
  | f :: _ =>
    let i := (n - f.lseq).toNat
    if i < k.replay.length then d.replayDue p i else d

/-! ### Receiving (10 R265, R268, R289) -/

/-- The VC of a frame type (10 Table 10.3); 4 for a reserved type. -/
def typeVc (t : Nat) : Nat :=
  if t = 1 then 0 else if t = 2 ∨ t = 3 ∨ t = 8 then 2 else if t = 4 ∨ t = 5 then 1 else if t = 6 ∨ t = 7 then 3 else 4

/-- Whether the frame's form is good: CRC, type, VC and length (10 R265). -/
def frameForm (t : Nat) (f : Frame) : Bool :=
  crcGood f && f.typ.toNat = t && f.vc.toNat = typeVc t && f.payload.length % 32 = 0 && decide (f.payload.length ≤ 4096)

/-- Whether a received frame reaches the port at all: the port is up, and a neighbour declared absent is heard only in
CROAK frames (10 R289). -/
def Dev.hears (d : Dev) (p : Nat) (f : Frame) : Bool := d.portUp p && (!d.portAbsent p || f.typ == 6)

/-- Counters of a received frame. -/
def Dev.countRx (d : Dev) (p : Nat) (f : Frame) : Dev :=
  (d.count (4096 + p) 1 1).count (4096 + p) 3 f.payload.length

/-- A discarded sequenced frame is answered by a NAK of the LSEQ expected (10 R268). -/
def Dev.discard (d : Dev) (p : Nat) : Dev := d.sendCtrl p (some (d.link p).rxNext)

/-- A sequenced frame that is the next expected one with a good form is accepted: its ACK counts and the LSEQ expected
advances. Any other is discarded with a NAK, or is not heard at all. -/
def Dev.acceptSeq (d : Dev) (p t : Nat) (f : Frame) (act : Frame → Dev → Dev) : Dev :=
  if !d.hears p f then d
  else if !frameForm t f then d.discard p
  else
    let d1 := d.gotAck p f.ack
    let k := d1.link p
    if f.lseq = k.rxNext then act (takeIn f) ((d1.setLink p { k with rxNext := k.rxNext + 1 }).countRx p f)
    else d1.discard p

/-- An accepted frame is taken out of the receive buffer at once. -/
def Dev.consumed (d : Dev) (p : Nat) (f : Frame) : Dev := d.returnCredits p f.vc.toNat (frameCost f)

/-! ### Bringing a port up and down (10 R264, R270) -/

/-- The link's frames and sequence state at link-up: what is held for the walker, the post queue and frames that wait
stays. -/
def Link.fresh (k : Link) : Link :=
  { k with txNext := 0, replay := [], rxNext := 0, granted := [], used := [], rxGranted := [], fwd := [], qheld := [],
           replays := 0, retrains := 0, dropXids := [] }

/-- Port `p` comes down and, where no member of its link is left up, every frame held at it is discarded (10 R270). -/
def Dev.portDown (d : Dev) (p : Nat) : Dev :=
  let d1 := ((d.setUp p false).setRbit (.portStatus p) 27 false).setRbit (.portStatus p) 29 false
  if d1.linkUp p then d1 else d1.setLink p { (d1.link p).fresh with sendq := [] }

/-- A write of EN: setting it starts training, and a restored slot-order position takes effect (13 R360); clearing it
takes the link down (10 R270). -/
def Dev.portEnable (d : Dev) (p : Nat) (en : Bool) : Dev :=
  let was := d.rbit (.portCtl p) 31
  let d1 := d.setRbit (.portCtl p) 31 en
  if en && !was then
    let d2 := d1.setPortOwn p { d1.portOwn p with failed := false }
    let k := d2.link p
    match k.soRestore with
    | none => d2
    | some v =>
      (d2.setLink p { k with soRestore := none, soStop := false, sobase := d2.rbits (.portSobase p) 47 4 * 16,
                             socnt := d2.rbits (.portSocnt p) 23 0 }).setReg (.portSoptr (d2.linkOf p)) (v.setWidth 64)
  else if !en && was then d1.portDown p
  else d1

/-- Whether a port is to run on logical lanes 0 to 7: from autotomy stage 3 on, or while it is thermally halved; the twin bond
is left out (10 R292; 15 R402, R409). -/
def Dev.halfWanted (d : Dev) (p : Nat) : Bool := !d.inBond p && (decide (3 ≤ d.pwr.top) || d.rbit .pwrThport p)

/-- Training and the croak exchange end with the neighbour's device and port: UP, or NBRERR where PORT_NBR differs
(10 R270). A neighbour's port of 24 to 31 is rejected (01 R13). In autotomy stage 6 the ports outside the twin bond are
stopped (15 R405). -/
def Dev.portLinkUp (d : Dev) (p nbrDev nbrPort : Nat) : Dev :=
  if !d.rbit (.portCtl p) 31 || d.portUp p || d.portOff p || (d.portOwn p).failed || (d.clocksStopped && !d.inBond p) then d
  else if 24 ≤ nbrPort then d.portReject p
  else if d.rbit (.portNbr p) 31 && (d.rbits (.portNbr p) 8 0 != nbrDev || d.rbits (.portNbr p) 20 16 != nbrPort) then
    d.setRbit (.portStatus p) 3 true
  else
    let d1 := d.setPortOwn p { d.portOwn p with nbr := nbrDev }
    let d2 := if d1.linkUp p then d1 else d1.setLink p (d1.link p).fresh
    (((d2.setUp p true).setRbit (.portStatus p) 30 false).setRbit (.portStatus p) 29 (d.halfWanted p)).drain p

/-- A spare switch: the new LSPARE, a retrain, and a replay from the oldest frame not acknowledged (10 R264). A value
above 16 is ignored, and while the port is not up the field is only written. -/
def Dev.spareSwitch (d : Dev) (p lane : Nat) : Dev :=
  if 16 < lane then d
  else
    let d1 := d.setRbits (.portCtl p) 12 8 lane
    if d.portUp p && d.rbits (.portCtl p) 12 8 != lane then
      let d2 := d1.addStick (.portRetry p) 15 0 1
      if (d2.link p).replay.isEmpty then d2 else d2.replayFrom p 0
    else d1

/-- A write of PORT_CTL: EN, RTO and LSPARE (10 R264, R270). -/
def Dev.portCtlWrite (d : Dev) (p : Nat) (v : W32) : Dev :=
  ((d.setRbits (.portCtl p) 23 16 (bits v 23 16)).spareSwitch p (bits v 12 8)).portEnable p (bit v 31)

/-- A write of FAB_TWIN: ignored while a port that it names, before or after, has EN = 1 (10 R290); a port value of 24 to 31 is
rejected (01 R13). -/
def Dev.twinWrite (d : Dev) (v : W64) : Dev :=
  let on := fun (p : Nat) => d.rbit (.portCtl p) 31
  let a := bits v 4 0
  let b := bits v 12 8
  if 24 ≤ a then d.portReject a
  else if 24 ≤ b then d.portReject b
  else if on a || on b || on (d.rbits .fabTwin 4 0) || on (d.rbits .fabTwin 12 8) then d
  else d.setReg .fabTwin (v &&& 0x80001F1F#64)

/-- A write of 1s to FAB_ABSENT clears a bit only where no condition of R274 holds. -/
def Dev.fabAbsentWrite (d : Dev) (k : Nat) (v : W32) : Dev :=
  let old := d.reg (.fabAbsent k)
  d.setReg (.fabAbsent k) ((old &&& ~~~(v.setWidth 64)) ||| BitVec.ofNat 64 (d.absentWord k))

/-! ### Rows of the table -/

/-- CTRL_SEND (10 R267). -/
def execCtrlSend (p : PortId) (s : State) : Host.Outcome State Fault Refusal := s.run (fun d => d.sendCtrl p none)

/-- The payload of a CROAK (10 R289): port, power mode, TWINEN, read as FAB_TWIN.EN (DEDUCED, assumption log 8). -/
def croakPayload (d : Dev) (p : Nat) : List Byte :=
  toBytes 1 p ++ toBytes 1 (d.rbits .pwrMode 1 0) ++ toBytes 1 (b2n (d.rbit .fabTwin 31)) ++ toBytes 29 0

/-- CROAK_SEND (10 R289): every up port sends a CROAK. -/
def execCroakSend (s : State) : Host.Outcome State Fault Refusal :=
  s.run (fun d => (List.range 24).foldl (fun e p =>
    e.sendNow p (e.mkFrame 6 3 (e.neighbour p) 0 0 (croakPayload e p))) d)

/-- LINK_UP (10 R270). -/
def execLinkUp (p : PortId) (nbrDev : BitVec 9) (nbrPort : BitVec 5) (s : State) : Host.Outcome State Fault Refusal :=
  s.run (fun d => d.portLinkUp p nbrDev.toNat nbrPort.toNat)

/-- LANE_SPARE_SWITCH (10 R264). -/
def execLaneSpareSwitch (p : PortId) (lane : BitVec 5) (s : State) : Host.Outcome State Fault Refusal :=
  s.run (fun d => d.spareSwitch p lane.toNat)

/-- SEQUENCED_FRAME_DISCARD (10 R268): a frame with a bad CRC, in an uncorrectable codeword or out of sequence. -/
def execSequencedFrameDiscard (p : PortId) (f : Frame) (s : State) : Host.Outcome State Fault Refusal :=
  s.run (fun d => if d.hears p f then d.discard p else d)

/-- CROAK_FRAME (10 R289). -/
def execCroakFrame (p : PortId) (f : Frame) (s : State) : Host.Outcome State Fault Refusal :=
  s.run (fun d =>
    if d.portUp p && frameForm 6 f then
      let d1 := ((d.gotAck p f.ack).countRx p f).count (4096 + p) 13 1
      d1.setPortOwn p { d1.portOwn p with nbr := f.src.toNat }
    else d)

end Sys2Proof.Machine
end

