-- ==== Sys2Proof/Machine/Chorus.lean ====
section
/-! DEFINITION. The chorus (09 R255 to R259; 10 R279, R288, R294): token bumps and arrivals, the vote, its way up the
chorus tree, the decision and the loss-scale rule; the parameter regions' commit and skip (09 R249 to R254). -/

namespace Sys2Proof.Machine

/-! ### Tree descriptors (10 R279) -/

/-- An edge of a tree: port and device. -/
structure Edge where
  port : Nat
  dev : Nat
  deriving DecidableEq, Repr

/-- A tree descriptor's fields (10 Table 10.6). -/
structure Tree where
  id : Nat
  fmt : Nat
  ofmt : Nat
  root : Bool
  parent : Option Edge
  kids : List Edge
  nblk : Nat
  /-- Contributing cores, in ascending order. -/
  cores : List Nat
  deriving DecidableEq, Repr

/-- An edge as its 16 bits hold it. -/
def edgeOf (w : Nat) : Edge := { port := w / 512 % 32, dev := w % 512 }

/-- Whether an edge is one link that PORT_NBR names and Shade has not stopped (10 R279). -/
def Dev.edgeOk (d : Dev) (e : Edge) : Bool :=
  decide (e.port < 24) && d.rbit (.portNbr e.port) 31 && decide (d.rbits (.portNbr e.port) 8 0 = e.dev) &&
  !d.portOff e.port

/-- The numbers of the bits set in a little-endian bit map. -/
def bitNumbers (bs : List Byte) : List Nat :=
  (List.range (8 * bs.length)).filter (fun k => (bs.getD (k / 8) 0).getLsbD (k % 8))

/-- The fields of a 128-byte descriptor (10 Table 10.6). -/
def treeFields (bs : List Byte) : Tree :=
  let b1 := fieldBytes bs 1 1
  let root := b1 / 2 % 2 == 1
  { id := fieldBytes bs 0 1, fmt := b1 / 32, ofmt := b1 / 4 % 8, root := root,
    parent := if root then none else some (edgeOf (fieldBytes bs 2 2)),
    kids := (List.range (fieldBytes bs 4 1)).map (fun i => edgeOf (fieldBytes bs (16 + 2 * i) 2)),
    nblk := fieldBytes bs 8 4, cores := bitNumbers (sliceBytes bs 64 64) }

/-- The edges a descriptor names: its parent's, then its children's. -/
def Tree.edges (t : Tree) : List Edge := t.parent.toList ++ t.kids

/-- The fields of a 128-byte descriptor, where it is valid (10 R279). -/
def Dev.parseTree (d : Dev) (bs : List Byte) : Option Tree :=
  let up := fieldBytes bs 2 2
  let t := treeFields bs
  let reserved := fieldBytes bs 5 3 = 0 ∧ fieldBytes bs 12 4 = 0 ∧ up / 2 ^ 14 = 0 ∧
    (∀ i ∈ List.range 24, fieldBytes bs (16 + 2 * i) 2 / 2 ^ 14 = 0)
  if fieldBytes bs 1 1 % 2 = 1 ∧ fieldBytes bs 4 1 ≤ 24 ∧ (t.root = true → up = 0) ∧ reserved ∧ t.edges.all d.edgeOk ∧
      (t.edges.map Edge.port).Nodup then
    some t
  else none

/-- The descriptor at a DPA, where it can be read and is valid. -/
def Dev.treeAt (d : Dev) (a : Nat) : Option Tree :=
  if d.memOk a 128 && !d.badAt a 128 then d.parseTree (d.bytesAt a 128) else none

/-- The chorus tree that FAB_CHTREE names: the same layout with FMT, OFMT, NBLK and CORES at 0. -/
def Dev.chorusTree (d : Dev) : Option Tree :=
  match d.treeAt (d.rbits .fabChtree 47 6 * 64) with
  | some t => if t.fmt = 0 ∧ t.ofmt = 0 ∧ t.nblk = 0 ∧ t.cores = [] then some t else none
  | none => none

/-! ### Parameter regions (09 R249 to R254) -/

/-- The base of the PREG registers. -/
def pregBase : Nat := 0xFF00390000

/-- Every valid region, in ascending unit and number. -/
def Dev.allRegions (d : Dev) : List Region :=
  d.regs.filterMap (fun e =>
    let o := e.1 - pregBase
    if pregBase ≤ e.1 ∧ o < 72 * 0x200 ∧ o % 16 = 0 then d.region (o / 0x200) (o % 0x200 / 16) else none)

/-- WRPAGES of a region. -/
def Dev.wrPages (d : Dev) (r : Region) : Nat := d.rbits (.pregStat r.unit r.num) 15 0

/-- The written bits of a region are cleared, and WRPAGES with them. -/
def Dev.clearWritten (d : Dev) (r : Region) : Dev :=
  let d1 := d.setRbits (.pregStat r.unit r.num) 15 0 0
  { d1 with written := mapDrop (fun k => decide (k / 65536 = r.unit * 32 + r.num)) d1.written }

/-- The region ID word (09 Table 9.1). -/
def Dev.regionId (d : Dev) (r : Region) : Nat := d.me * 2 ^ 23 + r.unit * 2 ^ 16 + r.num * 2 ^ 11

/-- The commit of one region (09 R252): header of frame 1 - CUR, CUR, VTAG, written bits. -/
def Dev.commitRegion (d : Dev) (r : Region) : Dev :=
  let tag := (d.rbits (.pregStat r.unit r.num) 63 32 + 1) % 2 ^ 32
  let hdr := toBytes 4 tag ++ toBytes 4 (d.regionId r) ++ toBytes 8 (d.regN .chrStep) ++ toBytes 48 0
  let d1 := d.writePhys (r.frame (1 - r.cur)) hdr
  let d2 := d1.setRbits (.pregStat r.unit r.num) 31 31 (1 - r.cur)
  (d2.setRbits (.pregStat r.unit r.num) 63 32 tag).clearWritten r

/-- The commit of every region whose WRPAGES = NPAGES (09 R252). -/
def Dev.commitAll (d : Dev) : Dev :=
  d.allRegions.foldl (fun e r => if e.wrPages r = r.pages then e.commitRegion r else e) d

/-- A SKIP clears every written bit (09 R253). -/
def Dev.skipAll (d : Dev) : Dev := d.allRegions.foldl (fun e r => e.clearWritten r) d

/-- Whether a region votes REGPART (09 R251). -/
def Dev.regPart (d : Dev) : Bool :=
  d.allRegions.any (fun r => decide (0 < d.wrPages r ∧ d.wrPages r < r.pages))

/-- The memory that a region unit covers, within one core's populated CLM, one CSM or one stack (09 R249). -/
def unitHolds (u a n : Nat) : Bool :=
  if u < 64 then
    (decide (0xF000000000 + u * 8 * 0x200000 ≤ a ∧ a + n ≤ 0xF000000000 + (u + 1) * 8 * 0x200000) &&
      decide (a % 0x200000 + n ≤ 0x180000)) ||
    decide (0xF100000000 + u * 0x400000 ≤ a ∧ a + n ≤ 0xF100000000 + (u + 1) * 0x400000)
  else decide ((u - 64) * stackSize ≤ a ∧ a + n ≤ (u - 63) * stackSize)

/-- Whether a PREG_CFG value with V = 1 keeps the rules of R249. -/
def Dev.pregOk (d : Dev) (u n : Nat) (v : W64) : Bool :=
  let base := bits v 47 16 * pageSize
  let len := 2 * bits v 15 0 * pageSize
  decide (0 < bits v 15 0) && unitHolds u base len &&
  (d.regionsOf u).all (fun r => r.num == n || decide (base + len ≤ r.base ∨ r.base + 2 * r.pages * pageSize ≤ base))

/-- A write of PREG_CFG[u][n] (09 R249): ignored while OPEN; an entry with V set that breaks a rule is ignored and sets
PREGERR; setting V sets VTAG, CUR and WRPAGES to 0. A write that leaves a valid entry as it is does not set V
(DEDUCED, assumption log 9). -/
def Dev.pregWrite (d : Dev) (u n : Nat) (v : W64) : Dev :=
  let w := v &&& 0x8000FFFFFFFFFFFF#64
  let old := d.reg (.pregCfg u n)
  if d.rbit .chrStatus 0 || w == old then d
  else if bit w 63 then
    if d.pregOk u n w then
      let d1 := (d.setReg (.pregCfg u n) w).setReg (.pregStat u n) 0
      { d1 with written := mapDrop (fun k => decide (k / 65536 = u * 32 + n)) d1.written }
    else d.setRbit .chrStatus 6 true
  else
    let d1 := d.setReg (.pregCfg u n) w
    { d1 with written := mapDrop (fun k => decide (k / 65536 = u * 32 + n)) d1.written }

/-! ### The vote (09 R255, R256; 10 R288) -/

/-- CHR_NARR of a core: its arrivals per boundary, 0 outside the chorus. -/
def Dev.narr (d : Dev) (c : Nat) : Nat := d.rbits (.chrNarr (c / 4)) (8 * (c % 4) + 7) (8 * (c % 4))

/-- Whether core `c` takes part in the chorus (09 R255). -/
def Dev.takesPart (d : Dev) (c : Nat) : Bool := d.rbit .chrCfg 0 && decide (d.narr c ≠ 0)

/-- Whether context `x` is selected as a participant. -/
def Dev.isParticipant (d : Dev) (x : Nat) : Bool := d.rbit (.chrCtxmask (x / 32)) (x % 32)

/-- Whether core `c` has arrived. -/
def Dev.arrived (d : Dev) (c : Nat) : Bool := decide (d.narr c ≤ mapGet (fun _ => 0) d.chorus.arrivals c)

/-- Whether every core that takes part has arrived. -/
def Dev.allArrived (d : Dev) : Bool := (List.range 512).all (fun c => !d.takesPart c || d.arrived c)

/-- The participants that meet a test, as core * 128 + context; a FREE context holds no state and is none (DEDUCED,
assumption log 10). -/
def Dev.participantsWhere (d : Dev) (p : Ctx → Bool) : List Nat :=
  d.cores.flatMap (fun e =>
    if d.takesPart e.1 then
      (e.2.ctxs.filter (fun x => d.isParticipant x.1 && decide (x.2.state ≠ 0) && p x.2)).map (fun x => e.1 * 128 + x.1)
    else [])

/-- A CHORUS frame's payload (10 R288). -/
def chorusPayload (kind dec : Nat) (v : Vote) : List Byte :=
  toBytes 1 kind ++ toBytes 2 v.causes ++ toBytes 1 dec ++ toBytes 4 v.step.toNat ++ toBytes 1 v.ls ++ toBytes 1 0 ++
  toBytes 2 v.run ++ toBytes 20 0

/-- A CHORUS frame is sent along an edge. -/
def Dev.sendChorus (d : Dev) (e : Edge) (pl : List Byte) : Dev := d.sendOn e.port (d.mkFrame 5 1 e.dev 0 0 pl)

/-- The decision at the root (09 R257): HOLD on CFG or ABSENT, else SKIP on any cause, else COMMIT. Cause bits stand in
the order of CHR_DREC[14:8]: NF, SAT, VERM, REGPART, ABORT, CFG, ABSENT. -/
def decide257 (causes : Nat) : Nat := if 32 ≤ causes then 3 else if causes = 0 then 1 else 2

/-- The decision has reached this device: it goes on down the tree and waits to be applied; the slack is taken, a free
value since the model has no clock (10 R294; assumption log 5). -/
def Dev.decided (d : Dev) (dec causes : Nat) (v : Vote) : Dev :=
  let d1 := match d.chorusTree with
    | some t => t.kids.foldl (fun (e : Dev) k => e.sendChorus k (chorusPayload 2 dec { v with causes := causes })) d
    | none => d
  let slack := d1.free.toNat % 2 ^ 32
  let n := max 1 (d1.rbits .fabCfg 23 16)
  let ls := if d1.chorus.vote.isSome then (slack :: d1.chorus.slacks).take n else d1.chorus.slacks
  let d2 := if d1.chorus.vote.isSome then
      (d1.useFree 1).setRegN .fabSlack (ls.foldl min (2 ^ 32 - 1) * 2 ^ 32 + slack)
    else d1
  { d2.setRbit .chrStatus 1 false with
    chorus := { d2.chorus with decision := some (dec, causes), kids := [], sent := true, slacks := ls } }

/-- The votes that a node has: its own and those of its children, with ABSENT for a child that is absent; none while a
child that is present has not voted (10 R288). -/
def Dev.gather (d : Dev) (own : Vote) (t : Tree) : Option (Nat × List Vote) :=
  t.kids.foldl (fun acc k =>
    match acc with
    | none => none
    | some (c, vs) =>
      let gone := if d.isAbsent k.dev then 64 else 0
      match mapGet (fun _ => none) d.chorus.kids k.port with
      | some v => some (c ||| v.causes ||| gone, v :: vs)
      | none => if gone = 64 then some (c ||| 64, vs) else none) (some (own.causes, [own]))

/-- The vote goes up, or the root decides, once this device and each child have voted (09 R257; 10 R288). A node whose
parent is absent cannot send. -/
def Dev.tryVote (d : Dev) : Dev :=
  match d.chorus.vote, d.chorusTree with
  | some own, some t =>
    if d.chorus.sent then d
    else
      match d.gather own t with
      | none => d
      | some (c, vs) =>
        let differ := vs.any (fun v => v.step != own.step || v.ls != own.ls || v.run != own.run)
        let causes := if differ then c ||| 32 else c
        match t.parent with
        | none => d.decided (decide257 causes) causes own
        | some p =>
          if d.isAbsent p.dev then d
          else
            { d.sendChorus p (chorusPayload 1 0 { own with causes := causes }) with
              chorus := { d.chorus with sent := true } }
  | _, _ => d

/-- The device forms its vote (09 R256); FAB_BUSY is taken, a free value (10 R294; assumption log 5). -/
def Dev.formVote (d : Dev) : Dev :=
  let nf := d.participantsWhere (fun k => bit k.cstatus 16)
  let sat := if d.rbit .chrCfg 1 then d.participantsWhere (fun k => bit k.cstatus 17) else []
  let vb := d.rbits .chrVote 1 0
  let causes := b2n (!nf.isEmpty) + 2 * b2n (!sat.isEmpty) + 4 * (vb / 2) + 8 * b2n d.regPart + 16 * (vb % 2)
  let v : Vote := { causes := causes, step := d.chrStep32, ls := d.rbits .chrLs 5 0, run := d.rbits .chrLs 31 16 }
  let d1 := ((d.setRegN .fabBusy (d.free.toNat % 2 ^ 32)).useFree 1).setRbit .chrStatus 1 true
  { d1 with chorus := { d1.chorus with vote := some v, nfOf := nf, satOf := sat, bitsOf := vb, sent := false } }.tryVote

/-- A bump of ATOK counts as an arrival of core `c`; the last core to arrive makes the device vote (09 R255, R256). -/
def Dev.arrive (d : Dev) (c : Nat) : Dev :=
  let n := mapGet (fun _ => 0) d.chorus.arrivals c
  let d1 := { d with chorus := { d.chorus with arrivals := mapSet (fun _ => 0) d.chorus.arrivals c (n + 1) } }
  if d1.chorus.vote.isNone && d1.allArrived && (List.range 4).all d1.dieUp then d1.formVote else d1

/-- Whether a bump of token `t` of core `c` is an arrival bump. -/
def Dev.isAtok (d : Dev) (c t : Nat) : Bool := d.takesPart c && decide (t = d.rbits .chrCfg 23 16)

/-- A bump of TOKEN[t] of core `c` (03 R73; 09 R255): a core that has arrived discards further bumps of ATOK. `ty` is
the trace event, 5 BUMP or 7 BOUNDARY; `x` and `eng` the context and engine where there are any. -/
def Dev.bumpAs (d : Dev) (ty c t : Nat) (x : Option Nat) (eng : Nat) : Dev :=
  if d.isAtok c t && d.arrived c then d
  else
    let d1 := (d.setRegN (.token c t) ((d.regN (.token c t) + 1) % 2 ^ 32)).traceEv c ty x eng t 0
    if d.isAtok c t then d1.arrive c else d1

/-- A bump by the sequencer, an engine or an incoming transfer. -/
def Dev.bump (d : Dev) (c t : Nat) (x : Option Nat) (eng : Nat) : Dev := d.bumpAs 5 c t x eng

/-- The bump of a DATA transfer waits until its writes are visible: while writes wait on protected pages (10 R277; 13 R345). -/
def Dev.bumpVisible (d : Dev) (c t : Nat) : Dev :=
  if d.waitingWrites.isEmpty then d.bump c t none 7
  else { d with heldBumps := d.heldBumps ++ [(c, t, d.waitingWrites.map (fun w => w.1 / pageSize))] }

/-- Whether a held bump still waits for a write. -/
def Dev.bumpWaits (d : Dev) (b : Nat × Nat × List Nat) : Bool := d.waitingWrites.any (fun w => b.2.2.contains (w.1 / pageSize))

/-- Held bumps whose writes are visible are made, in order. -/
def Dev.releaseBumps (d : Dev) : Dev :=
  (d.heldBumps.filter (fun b => !d.bumpWaits b)).foldl (fun (e : Dev) b => e.bump b.1 b.2.1 none 7)
    { d with heldBumps := d.heldBumps.filter d.bumpWaits }

/-- The conditions of R274 are looked at again, and a vote that waited for a device now absent goes up (10 R274, R288). -/
def Dev.noteAbsent (d : Dev) : Dev := d.refreshAbsent.tryVote

/-- A host or MGC write of TOKEN[n] (03 R77), which counts as one arrival where the token is ATOK (09 R255). -/
def Dev.tokenWrite (d : Dev) (c t : Nat) (v : W32) : Dev :=
  let d1 := d.setRegN (.token c t) v.toNat
  if d.isAtok c t && !d.arrived c then d1.arrive c else d1

/-! ### The loss-scale rule (09 R259) -/

/-- LS, RUN and whether LSFLOOR is set, after a decision with its causes. -/
def lossScale (ls run lsmin lsmax grow dec causes : Nat) : Nat × Nat × Bool :=
  if dec = 2 then
    if causes % 4 ≠ 0 then (max (ls - 1) lsmin, 0, decide (ls = lsmin)) else (ls, 0, false)
  else
    let r := run + 1
    if grow ≠ 0 ∧ grow ≤ r then (min (ls + 1) lsmax, 0, false) else (ls, r % 65536, false)

/-- Order 1 of a boundary (09 Table 9.4). -/
def Dev.order1 (d : Dev) (dec causes : Nat) : Dev :=
  let c := d.reg .chrLscfg
  let l := lossScale (d.rbits .chrLs 5 0) (d.rbits .chrLs 31 16) (bits c 5 0) (bits c 13 8) (bits c 31 16) dec causes
  let drec := (d.chrStep32.toNat) * 2 ^ 32 + l.1 * 2 ^ 16 + causes * 2 ^ 8 + dec
  let nf := d.chorus.nfOf
  let sat := d.chorus.satOf
  let onCtx := fun (core : Nat) (e : Nat × Ctx) =>
    if d.isParticipant e.1 && decide (e.2.state ≠ 0) then
      let k := { e.2 with step := e.2.step + 1 }
      let k1 := if nf.contains (core * 128 + e.1) then { k with cstatus := setBit k.cstatus 16 false } else k
      (e.1, if sat.contains (core * 128 + e.1) then { k1 with cstatus := setBit k1.cstatus 17 false } else k1)
    else e
  let cores := d.cores.map (fun e =>
    if d.takesPart e.1 then (e.1, { e.2 with ctxs := e.2.ctxs.map (onCtx e.1) }) else e)
  let d1 := { d with cores := cores }
  let d2 := (d1.setRegN .chrDrec drec).setReg .chrStep (d1.reg .chrStep + 1)
  let d3 := (d2.setRbits .chrVote 1 0 (d2.rbits .chrVote 1 0 &&& (3 - d.chorus.bitsOf % 4))).setRegN .chrLs (l.2.1 * 2 ^ 16 + l.1)
  let d4 := if l.2.2 then d3.setRbit .chrStatus 7 true else d3
  let arr := if d.chorus.vote.isSome then [] else d.chorus.arrivals
  { d4 with chorus := { d4.chorus with vote := none, nfOf := [], satOf := [], bitsOf := 0, sent := false, arrivals := arr } }

/-- DTOK is bumped on every core that takes part (09 Table 9.4, order 6). -/
def Dev.bumpDtok (d : Dev) : Dev :=
  (List.range 512).foldl (fun e c => if d.takesPart c then e.bumpAs 7 c (d.rbits .chrCfg 31 24) none 7 else e) d

/-- The device stops: STOPPED, SCAUSE and a STOP record (14 R377). -/
def Dev.stopNow (d : Dev) (cause : Nat) : Dev :=
  (((d.setRbit .fltStatus 0 true).setRbits .fltStatus 19 16 cause).faultAt 0x0606 (unitId 0 0) cause)

/-- One event of the failure-rate estimator (13 R347, R348). -/
def Dev.estEvent (d : Dev) : Dev :=
  d.setRegN .snpRate ((d.regN .snpRate + 2 ^ 48 / 2 ^ d.rbits .snpEstcfg 4 0) % 2 ^ 64)

/-- A HOLD decision (09 R258; 14 R385): CHR_DREC records it (DEDUCED, assumption log 10), arrivals and vote stay, a
HOLD record is written and the device stops with SCAUSE 4; the estimator counts an event (13 R347). -/
def Dev.applyHold (d : Dev) (causes : Nat) : Dev :=
  let drec := (d.chrStep32.toNat) * 2 ^ 32 + d.rbits .chrLs 5 0 * 2 ^ 16 + causes * 2 ^ 8 + 3
  let d1 := ((d.setRegN .chrDrec drec).setRbit .chrStatus 3 true).estEvent
  (d1.faultAt 0x0801 (unitId 0 0) drec).stopNow 4

/-- The standing vote goes over the tree again (14 R385). -/
def Dev.revote (d : Dev) : Dev :=
  if d.chorus.vote.isSome then
    ({ d.setRbit .chrStatus 1 true with chorus := { d.chorus with sent := false, decision := none } }).tryVote
  else d

/-! ### Registers of the chorus -/

/-- A write of CHR_CFG: the fields other than EN may be written only while EN = 0. -/
def Dev.chrCfgWrite (d : Dev) (v : W64) : Dev :=
  if d.rbit .chrCfg 0 then d.setRbit .chrCfg 0 (bit v 0) else d.setReg .chrCfg (v &&& 0xFFFFFFF3#64)

/-! ### Rows of the table -/

/-- REPLAY_TIMEOUT (10 R268, R269): a link that fails leaves its neighbour absent. -/
def execReplayTimeout (p : PortId) (s : State) : Host.Outcome State Fault Refusal := s.run (fun d => (d.replayDue p 0).tryVote)

/-- A CTRL frame's ACK, granted counts and NAK (10 R267, R268). -/
def Dev.ctrlArrived (d : Dev) (p : Nat) (f : Frame) : Dev :=
  let d1 := (d.countRx p f).gotAck p (BitVec.ofNat 16 (fieldBytes f.payload 0 2))
  let k := d1.link p
  let g := [0, 1, 2].foldl (fun m vc => mapSet vcInit m vc (BitVec.ofNat 16 (fieldBytes f.payload (8 + 2 * vc) 2))) k.granted
  let d2 := (d1.setLink p { k with granted := g }).drain p
  if fieldBytes f.payload 4 1 % 2 = 1 then (d2.gotNak p (BitVec.ofNat 16 (fieldBytes f.payload 2 2))).tryVote else d2

/-- CTRL_FRAME (10 R267, R268). -/
def execCtrlFrame (p : PortId) (f : Frame) (s : State) : Host.Outcome State Fault Refusal :=
  s.run (fun d => if d.hears p f && frameForm 7 f then d.ctrlArrived p f else d)

/-- CHORUS_TIMEOUT (09 R258): no decision within CHR_CFG.TMO of the vote. -/
def execChorusTimeout (s : State) : Host.Outcome State Fault Refusal :=
  s.run (fun d => if d.rbit .chrStatus 1 && decide (d.rbits .chrCfg 15 4 ≠ 0) then d.setRbit .chrStatus 4 true else d)

/-- The vote that a CHORUS frame carries. -/
def frameVote (f : Frame) : Vote :=
  { causes := fieldBytes f.payload 1 2 % 128, step := BitVec.ofNat 32 (fieldBytes f.payload 4 4),
    ls := fieldBytes f.payload 8 1, run := fieldBytes f.payload 10 2 }

/-- A child's vote is filed by the port it came in on, and the node's own vote goes up where it now can. -/
def Dev.chorusVote (d : Dev) (p : Nat) (f : Frame) : Dev :=
  match d.chorusTree with
  | none => d
  | some t =>
    match t.kids.find? (fun e => d.linkOf e.port == d.linkOf p) with
    | none => d
    | some e =>
      { d with chorus := { d.chorus with kids := mapSet (fun _ => none) d.chorus.kids e.port (some (frameVote f)) } }.tryVote

/-- CHORUS_VOTE_FRAME (10 R288). -/
def execChorusVoteFrame (p : PortId) (f : Frame) (s : State) : Host.Outcome State Fault Refusal :=
  s.run (fun d => d.acceptSeq p 5 f (fun g e =>
    if fieldBytes g.payload 0 1 = 1 then (e.consumed p g).chorusVote p g else e.consumed p g))

/-- A decision that came from the parent. -/
def Dev.chorusDecision (d : Dev) (p : Nat) (f : Frame) : Dev :=
  match d.chorusTree with
  | none => d
  | some t =>
    match t.parent with
    | none => d
    | some e =>
      let dec := fieldBytes f.payload 3 1
      if d.linkOf e.port = d.linkOf p ∧ 1 ≤ dec ∧ dec ≤ 3 ∧ d.chorus.decision = none ∧ d.chorus.applying = 0 then
        d.decided dec (frameVote f).causes (frameVote f)
      else d

/-- CHORUS_DECISION_FRAME (10 R288). -/
def execChorusDecisionFrame (p : PortId) (f : Frame) (s : State) : Host.Outcome State Fault Refusal :=
  s.run (fun d => d.acceptSeq p 5 f (fun g e =>
    if fieldBytes g.payload 0 1 = 2 then (e.consumed p g).chorusDecision p g else e.consumed p g))

/-- CROAK_MISS (10 R289): MISS periods without a CROAK make the neighbour absent; a vote that waited for it goes up
(10 R288). -/
def execCroakMiss (p : PortId) (s : State) : Host.Outcome State Fault Refusal :=
  s.run (fun d =>
    if d.portUp p && !d.portAbsent p then
      ((d.setRbit (.portStatus p) 30 true).faultAt 0x0401 (unitPort p) (d.neighbour p)).noteAbsent
    else d)

end Sys2Proof.Machine
end

