-- ==== Sys2Proof/Machine/Lular.lean ====
section
/-! DEFINITION. The Lular exchange (12): shard records, partners, the target step, frames and their loss recovery, the
round decision, the merge fence of a boundary, the merge log, and joining. -/

namespace Sys2Proof.Machine

/-! ### The unit, its ports and its time -/

/-- Whether Lular runs. -/
def Dev.lulOn (d : Dev) : Bool := d.rbit .lulCtl 31

/-- This site's ID. -/
def Dev.mySite (d : Dev) : Nat := d.rbits .lulCtl 13 8

/-- The state of the open round (12 Table 12.6). -/
def Dev.lulState (d : Dev) : Nat := d.rbits .lulStatus 31 28

/-- The device with that state set; HELD shows state 5. -/
def Dev.setLulState (d : Dev) (v : Nat) : Dev :=
  (d.setRbits .lulStatus 31 28 v).setRbit .lulStatus 27 (v == 5)

/-- The device with the Lular unit changed by `f`. -/
def Dev.onLul (d : Dev) (f : Lul → Lul) : Dev := { d with lul := f d.lul }

/-- The device with the open round replaced. -/
def Dev.setRound (d : Dev) (r : Option LulRound) : Dev := d.onLul (fun u => { u with round := r })

/-- What the unit knows of a site. -/
def Dev.site (d : Dev) (s : Nat) : LulSite := mapGet (fun _ => {}) d.lul.sites s

/-- The device with that knowledge replaced. -/
def Dev.setSite (d : Dev) (s : Nat) (v : LulSite) : Dev :=
  d.onLul (fun u => { u with sites := mapSet (fun _ => {}) u.sites s v })

/-- Whether site `s` is a member of the group. -/
def Dev.isMember (d : Dev) (s : Nat) : Bool := d.rbit .lulMemb s

/-- TIM_TERR as it reads (12 R313). -/
def Dev.timErr (d : Dev) : Nat := if d.rbit .timCtl 0 then d.regN .timTerrsw else d.regN .timTerr

/-- Whether long-haul port `l` is up. -/
def Dev.lhpUp (d : Dev) (l : Nat) : Bool := d.rbit (.lhpPstat l) 31

/-- The port that a frame leaves on by its SEQ, where one is up (12 R309). -/
def Dev.lhpFor (d : Dev) (sq : Nat) : Option Nat :=
  let want := if d.rbit .lulCtl 30 then sq % 2 else 0
  if d.lhpUp want then some want else if d.lhpUp (1 - want) then some (1 - want) else none

/-- PSZ, the payload bytes of a full frame (12 R311): that of LHP 0 (DEDUCED, assumption log 16). -/
def Dev.psz (d : Dev) : Nat := if d.rbit (.lhpPctl 0) 0 then 1344 else 8960

/-- The bytes of a frame on the line without its payload: Ethernet, IPv6, UDP and Lular headers, Lular CRC and FCS
(12 Table 12.1). -/
def Dev.lulOverhead (d : Dev) (l : Nat) : Nat := if d.rbit (.lhpPctl l) 1 then 122 else 118

/-! ### Shard records (12 R316) -/

/-- A shard record (12 Table 12.4). -/
structure Shard where
  unit : Nat
  reg : Nat
  core : Nat
  ftok : Nat
  mtok : Nat
  cur : Bool
  fr2 : Bool
  /-- The anchor frames A0 and A1. -/
  a0 : Nat
  a1 : Nat
  sbuf : Nat
  rbuf : Nat
  nelem : Nat
  deriving DecidableEq, Repr

/-- The address of shard record `i`. -/
def Dev.shardAt (d : Dev) (i : Nat) : Nat := d.rbits .lulShbase 47 6 * 64 + i * 64

/-- The number of shard records. -/
def Dev.shardCnt (d : Dev) : Nat := d.rbits .lulShcnt 8 0

/-- Shard record `i`. -/
def Dev.shard (d : Dev) (i : Nat) : Shard :=
  let b := d.bytesAt (d.shardAt i) 64
  let w := fieldBytes b 0 2
  let f := fieldBytes b 6 1
  { unit := w / 32 % 128, reg := w % 32, core := fieldBytes b 2 2 % 512, ftok := fieldBytes b 4 1, mtok := fieldBytes b 5 1,
    cur := decide (128 ≤ f), fr2 := decide (f % 4 = 1), a0 := fieldBytes b 8 6, a1 := fieldBytes b 16 6, sbuf := fieldBytes b 40 6, rbuf := fieldBytes b 48 6,
    nelem := fieldBytes b 56 4 }

/-- The shard records in order. -/
def Dev.shards (d : Dev) : List Shard := (List.range d.shardCnt).map d.shard

/-- The bytes of a record's Δ stream: NELEM / 64 blocks of 36 B (FR4) or 20 B (FR2) (08 R214, R217). -/
def Shard.len (s : Shard) : Nat := s.nelem / 64 * (if s.fr2 then 20 else 36)

/-- The device writes CUR of record `i` (12 R318). -/
def Dev.setCur (d : Dev) (i : Nat) (b : Bool) : Dev :=
  let a := d.shardAt i + 6
  let f := fieldBytes (d.bytesAt a 1) 0 1 % 128
  if d.memOk a 1 then d.writeAt a [BitVec.ofNat 8 (f + 128 * b2n b)] else d

/-- The bytes of the round's payload (12 R316). -/
def Dev.payloadLen (d : Dev) : Nat := d.shards.foldl (fun n s => n + s.len) 0

/-- NFRAMES of the round. -/
def Dev.lulFrames (d : Dev) : Nat := ceilDiv d.payloadLen d.psz

/-- The parts of memory that bytes `off`, …, `off + n - 1` of a concatenation of (base, length) areas lie in. -/
def segSlice : List (Nat × Nat) → Nat → Nat → List (Nat × Nat)
  | [], _, _ => []
  | (a, l) :: r, off, n =>
    if n = 0 then []
    else if l ≤ off then segSlice r (off - l) n
    else (a + off, min n (l - off)) :: segSlice r 0 (n - min n (l - off))

/-- The bytes of a frame of the outgoing payload. -/
def Dev.payloadFrame (d : Dev) (sq : Nat) : List Byte :=
  (segSlice (d.shards.map (fun s => (s.sbuf, s.len))) (sq * d.psz) d.psz).flatMap (fun p => d.bytesAt p.1 p.2)

/-- A received frame's bytes are written to the incoming buffers. -/
def Dev.fileFrame (d : Dev) (sq : Nat) (bs : List Byte) : Dev :=
  ((segSlice (d.shards.map (fun s => (s.rbuf, s.len))) (sq * d.psz) (min d.psz bs.length)).foldl
    (fun (acc : Dev × List Byte) p =>
      ((if acc.1.memOk p.1 p.2 then acc.1.writeAt p.1 (acc.2.take p.2) else acc.1), acc.2.drop p.2)) (d, bs)).1

/-! ### Sending -/

/-- Steps since the last merge, sticking (12 Table 12.2). -/
def Dev.lulSince (d : Dev) : Nat := stick 32 (d.regN .chrStep - d.regN .lulLmstep)

/-- A Lular frame of this device, before the port it leaves on gives it its outer headers (12 Table 12.2). -/
def Dev.mkLul (d : Dev) (typ : BitVec 4) (dst round sq nframes : Nat) (payload : List Byte) : LulFrame :=
  { env := {}, rsv := 0, crc := 0, ver := 1, typ := typ, joined := d.lul.joined,
    reform := typ == 1 && (match d.lul.round with | some r => r.reform | none => false),
    srcSite := BitVec.ofNat 6 d.mySite, dstSite := BitVec.ofNat 6 dst, dev := BitVec.ofNat 9 d.me,
    nshard := BitVec.ofNat 9 d.shardCnt, round := BitVec.ofNat 32 round, seq := BitVec.ofNat 32 sq,
    nframes := BitVec.ofNat 32 nframes,
    step := if typ == 1 then (match d.lul.round with | some r => BitVec.ofNat 64 r.s | none => 0) else d.reg .chrStep,
    dprop := match d.lul.round with | some r => BitVec.ofNat 16 r.d | none => 0,
    txtime := d.reg .timNow, terr := BitVec.ofNat 32 d.timErr,
    since := BitVec.ofNat 32 (if typ == 1 then (match d.lul.round with | some r => r.since | none => 0) else d.lulSince),
    payload := payload }

/-- Whether long-haul port `l` idles: at autotomy stage 4, or at thermal step 1 (15 R403, R409). -/
def Dev.lhpIdle (d : Dev) (l : Nat) : Bool := decide (4 ≤ d.pwr.top) || d.rbit .pwrThport (24 + l)

/-- The IPv6 address of this device's counterpart in a site (LUL_PEER). -/
def Dev.peerIp (d : Dev) (s : Nat) : BitVec 128 :=
  BitVec.ofNat 128 (d.regN (.lulPeer (4 * s)) + d.regN (.lulPeer (4 * s + 1)) * 2 ^ 64)

/-- This device's IPv6 address (LUL_SRCIP). -/
def Dev.myIp (d : Dev) : BitVec 128 := BitVec.ofNat 128 (d.regN (.lulSrcip 0) + d.regN (.lulSrcip 1) * 2 ^ 64)

/-- The outer headers of a frame that leaves on port `l` (12 R308, Table 12.1). -/
def Dev.lulEnvelope (d : Dev) (l : Nat) (f : LulFrame) : LulEnvelope :=
  { dstMac := BitVec.ofNat 48 (d.rbits (.lhpNhmac l) 47 0), srcMac := BitVec.ofNat 48 (d.rbits (.lhpMac l) 47 0),
    tag := if d.rbit (.lhpPctl l) 1 then some (BitVec.ofNat 16 (d.rbits (.lhpPctl l) 27 16)) else none,
    etherType := 0x86DD, ipVersion := 6, tclass := BitVec.ofNat 8 (d.rbits (.lhpPctl l) 13 8 * 4),
    flow := BitVec.ofNat 20 (f.srcSite.toNat * 64 + f.dstSite.toNat), ipLen := 0, nextHeader := 17, hopLimit := 64,
    srcIp := d.myIp, dstIp := d.peerIp f.dstSite.toNat, srcPort := BitVec.ofNat 16 (d.rbits .lulUdp 31 16),
    dstPort := BitVec.ofNat 16 (d.rbits .lulUdp 15 0), udpLen := 0, udpSum := 0 }

/-- A frame as it leaves port `l`, with its outer headers and checks (12 R311). -/
def Dev.lulSeal (d : Dev) (l : Nat) (f : LulFrame) : LulFrame := sealLul { f with env := d.lulEnvelope l f }

/-- A frame leaves on the port that R309 gives; with both ports down it is lost. A port that idles sends no NAK, and DATA
and JDATA frames wait (15 R403). -/
def Dev.sendLul (d : Dev) (f : LulFrame) : Dev :=
  match d.lhpFor f.seq.toNat with
  | none => d
  | some l =>
    if d.lhpIdle l && f.typ == 2 then d
    else if d.lhpIdle l && (f.typ == 1 || f.typ == 9) then { d with lulHeld := d.lulHeld ++ [(l, f)] }
    else
    let d1 := ((d.emit (.lular l (d.lulSeal l f))).count (4120 + l) 0 1).count (4120 + l) 2 (f.payload.length + d.lulOverhead l)
    if f.typ == 2 then d1.count (4120 + l) 5 1 else d1

/-- The frames that waited for a port leave once it no longer idles, stamped anew. -/
def Dev.lulUnhold (d : Dev) : Dev :=
  let fs := d.lulHeld
  fs.foldl (fun (e : Dev) p => e.sendLul { p.2 with txtime := e.reg .timNow }) { d with lulHeld := [] }

/-- The round number that frames outside a round carry. -/
def Dev.roundNo (d : Dev) : Nat := match d.lul.round with | some r => r.round | none => d.rbits .lulRnd 63 32

/-- A DATA frame of the open round is sent. -/
def Dev.sendData (d : Dev) (sq : Nat) : Dev :=
  match d.lul.round with
  | some r => d.sendLul (d.mkLul 1 r.partner r.round sq d.lulFrames (d.payloadFrame sq))
  | none => d

/-- DATA frames are sent again (16 Table 16.2, LHP slot 4). -/
def Dev.resendData (d : Dev) (sqs : List Nat) : Dev :=
  sqs.foldl (fun e sq =>
    if sq < e.lulFrames then
      match e.lhpFor sq with
      | some l => (e.count (4120 + l) 4 1).sendData sq
      | none => e
    else e) d

/-- Runs of missing numbers below `high`, as first and count. -/
def missingRuns (got : Nat → Bool) (high : Nat) : List (Nat × Nat) :=
  ((List.range high).foldl (fun (acc : List (Nat × Nat)) i =>
    if got i then acc
    else
      match acc with
      | (a, n) :: r => if a + n = i then (a, n + 1) :: r else (i, 1) :: (a, n) :: r
      | [] => [(i, 1)]) []).reverse

/-- A NAK's payload: up to 8 missing ranges (12 Table 12.3). -/
def nakPayload (rs : List (Nat × Nat)) : List Byte := (rs.take 8).flatMap (fun r => toBytes 4 r.1 ++ toBytes 4 r.2)

/-- A DEC's payload (12 Table 12.3). -/
def decPayload (c : LulDecision) : List Byte :=
  toBytes 1 c.kind ++ toBytes 1 c.k ++ toBytes 1 c.eft ++ toBytes 5 0 ++ toBytes 8 c.t ++ toBytes 16 0

/-- Whether the round's peer payload is complete: every frame filed. -/
def Dev.complete (d : Dev) (r : LulRound) : Bool := r.peer.isSome && decide (r.got.length = d.lulFrames)

/-- NAK of the frames missing below the highest SEQ seen. -/
def Dev.sendNak (d : Dev) (r : LulRound) : Dev :=
  let ms := missingRuns (mapGet (fun _ => false) r.got) r.high
  if ms.isEmpty then d else d.sendLul (d.mkLul 2 r.partner r.round 0 d.lulFrames (nakPayload ms))

/-- RACK for the open round. -/
def Dev.sendRack (d : Dev) (r : LulRound) : Dev := d.sendLul (d.mkLul 3 r.partner r.round 0 d.lulFrames [])

/-! ### Delay and partners (12 R315, R320, R322) -/

/-- OWDMAX of a site: 0 before any sample. -/
def Dev.owdmax (d : Dev) (s : Nat) : Int :=
  match (d.site s).samples with
  | [] => 0
  | x :: xs => xs.foldl max x

/-- LUL_OWD shows OWDMAX of the current partner. -/
def Dev.showOwd (d : Dev) : Dev := d.setRegN .lulOwd ((d.owdmax (d.rbits .lulRnd 29 24)) % 2 ^ 32).toNat

/-- The intervals between consecutive boundaries, those that end in a held boundary left out. -/
def boundIntervals : List (Nat × Bool) → List Nat
  | a :: b :: r => if a.2 then boundIntervals (b :: r) else (a.1 - b.1) :: boundIntervals (b :: r)
  | _ => []

/-- TSTEP (12 R315): the mean interval, rounded down (DEDUCED, assumption log 17); 0 until two boundaries are timed. -/
def tstepOf (bs : List (Nat × Bool)) : Nat :=
  let is := boundIntervals bs
  if is.isEmpty then 0 else is.sum / is.length

/-- The staleness bound S and the span H. -/
def Dev.lulS (d : Dev) : Nat := d.rbits .lulSpan 28 16
/-- The span H. -/
def Dev.lulH (d : Dev) : Nat := d.rbits .lulSpan 12 0

/-- D of R322, or S while TSTEP reads 0 (R315). -/
def Dev.delayFigure (d : Dev) (s : Nat) : Nat :=
  let t := d.regN .lulTstep
  if t = 0 then d.lulS
  else
    let x := d.lulFrames * (if d.rbit (.lhpPctl 0) 0 then 15 else 91) * (if d.rbit .lulCtl 30 then 1 else 2)
    let num : Int := 2 * d.owdmax s + x + 2 * (d.timErr + (d.site s).terr + d.regN .lulMargin)
    min 65535 (max 1 ((num + (2 * t - 1)) / (2 * t)).toNat)

/-- The sites of the group in ascending order. -/
def Dev.members12 (d : Dev) : List Nat := (List.range 64).filter d.isMember

/-- The partner of member index `i` among `n` members in round `r` (12 R320); index `n` with `n` odd is a bye. -/
def partnerIndex (n i r : Nat) : Nat :=
  let m := (if n % 2 = 0 then n else n + 1) - 1
  let k := r % m
  if i < m then
    let j := (2 * k + m - i) % m
    if j = i then m else j
  else k

/-- The partner site of this site in round `r`: `none` where this site is no member, `some none` for a bye. -/
def Dev.partnerOf (d : Dev) (r : Nat) : Option (Option Nat) :=
  let ms := d.members12
  match ms.findIdx? (· = d.mySite) with
  | none => none
  | some i => some (ms[partnerIndex ms.length i r]?)

/-- Whether this device is the decider of a round with a partner (12 R321). -/
def Dev.decides (d : Dev) (partner : Nat) : Bool := decide (d.mySite < partner)

/-- T of R323, where the partner's side is known. -/
def Dev.target (d : Dev) (r : LulRound) : Option Nat :=
  r.peer.map (fun p => (if r.reform then max r.s p.s else r.s) + min (max r.d p.d) d.lulS)

/-! ### The merge log (12 R333) -/

/-- A merge log entry (12 Table 12.5). -/
def Dev.logEntry (d : Dev) (r : LulRound) (kind : Nat) (late : Bool) (cause k : Nat) (t : Option Nat) : List Byte :=
  let flags := kind + 4 * b2n late + 8 * b2n r.reform + 16 * b2n (d.decides r.partner)
  let s := match r.peer with | some p => if r.reform then max r.s p.s else r.s | none => r.s
  toBytes 8 (d.regN .chrStep) ++ toBytes 4 r.round ++ toBytes 1 (r.partner % 64) ++ toBytes 1 flags ++ toBytes 1 cause ++
  toBytes 1 k ++ toBytes 8 s ++ toBytes 4 ((t.map (fun v => v - s)).getD 0) ++ toBytes 2 r.d ++
  toBytes 2 (match r.peer with | some p => p.d | none => 0)

/-- The base of merge log entry `n`. -/
def Dev.logAt (d : Dev) (n : Nat) : Nat := d.rbits .lulMlbase 47 5 * 32 + n % 2 ^ d.rbits .lulMlcfg 4 0 * 32

/-- An entry is appended to the merge log. -/
def Dev.appendLog (d : Dev) (e : List Byte) : Dev :=
  let a := d.logAt (d.regN .lulMlwp)
  let full := 2 ^ d.rbits .lulMlcfg 4 0 ≤ (d.reg .lulMlwp - d.reg .lulMlrp).toNat
  let d1 := if full then d.setRbit .lulStatus 7 true else d
  let d2 := if d1.memOk a 32 then d1.writeAt a e else d1
  d2.setReg .lulMlwp (d2.reg .lulMlwp + 1)

/-- A SKIP of a round is logged, with T where this side knows it (12 R323, R333). -/
def Dev.logSkip (d : Dev) (r : LulRound) (cause : Nat) (t : Option Nat) : Dev :=
  (d.appendLog (d.logEntry r 2 false cause 0 t)).setRbit .lulStatus 3 true

/-- The round ends as a SKIP with a cause, logged at once (12 R321, R333): IDLE. -/
def Dev.skipRound (d : Dev) (r : LulRound) (cause : Nat) : Dev :=
  ((d.logSkip r cause (d.target r)).setRound none).setLulState 0

/-! ### Decisions (12 R325, R329 to R331) -/

/-- k of R330 for a number of steps: the smallest with δ ≤ DFULL x 2^k. -/
def lulK (delta dfull : Nat) : Nat := ((List.range 64).find? (fun k => decide (delta ≤ dfull * 2 ^ k))).getD 0

/-- The decision that a decider takes once it holds payload and RACK (12 R325, R330, R331). -/
def Dev.lulDecision (d : Dev) (r : LulRound) (p : LulPeerSide) : LulDecision :=
  let delta := max r.since p.since
  let t := (d.target r).getD 0
  if d.regN .lulDmax < delta then
    { kind := 4, k := 0, eft := if r.s < p.s then d.mySite else if p.s < r.s then r.partner else max d.mySite r.partner,
      t := t }
  else { kind := 1, k := lulK delta (d.regN .lulDfull), eft := 0, t := t }

/-- A decision takes effect on this side: MERGE waits for its boundary, SKIP and EFT are logged and end the round,
REFORM discards the payload until the next boundary. `cause` is the skip cause. -/
def Dev.takeDecision (d : Dev) (r : LulRound) (c : LulDecision) (cause : Nat) : Dev :=
  match c.kind with
  | 1 => ((d.setRegN .lulTgt c.t).setRound (some { r with dec := some c })).setLulState 4
  | 2 => d.skipRound r cause
  | 3 => d.setRound (some { r with reformNext := true, peer := none, got := [], high := 0, rack := false, formed := [] })
  | 4 =>
    let d1 := d.skipRound r 7
    if c.eft = d.mySite then (d1.setRbit .lulStatus 6 true).onLul (fun u => { u with joined := false })
    else d1.setRbit .lulJoined (c.eft % 64) false
  | _ => d

/-- A DEC frame. -/
def Dev.sendDec (d : Dev) (x : Nat × Nat × LulDecision) : Dev :=
  d.sendLul (d.mkLul 4 x.2.1 x.1 0 d.lulFrames (decPayload x.2.2))

/-- The decider sends its decision, and repeats it until DACK; the decision takes effect. A REFORM of the round gives way to
the decision that follows it. -/
def Dev.issueDecision (d : Dev) (r : LulRound) (c : LulDecision) (cause : Nat) : Dev :=
  let x := (r.round, r.partner, c)
  let d1 := d.onLul (fun u => { u with decOut := u.decOut.filter (fun y => !(y.1 == r.round && y.2.1 == r.partner)) ++ [x] })
  (d1.sendDec x).takeDecision r c cause

/-- The decider decides MERGE, or EFT, as soon as it holds the follower's complete payload and RACK (12 R325). -/
def Dev.tryDecide (d : Dev) : Dev :=
  match d.lul.round with
  | some r =>
    match r.peer with
    | some p =>
      if d.decides r.partner && decide (d.lulState = 2) && d.complete r && r.rack then
        d.issueDecision r (d.lulDecision r p) 0
      else d
    | none => d
  | none => d

/-- A round meets a different layout (12 R324, R325). -/
def Dev.layoutEnds (d : Dev) (r : LulRound) : Dev :=
  let d1 := d.setRbit .lulStatus 5 true
  if d1.decides r.partner then d1.issueDecision r { kind := 2, k := 0, eft := 0, t := (d1.target r).getD 0 } 2
  else d1.skipRound r 2

/-! ### Forming and opening rounds (12 R317, R319, R321) -/

/-- Every record is done: sending starts (12 R317); with REPLAY = 1 nothing is sent (R334). A follower that holds the
payload waits for the decision. -/
def Dev.startSending (d : Dev) (r : LulRound) : Dev :=
  let d1 := d.setLulState 2
  if d1.rbit .lulCtl 29 then d1
  else
    let d2 := (List.range d1.lulFrames).foldl (fun (e : Dev) sq => e.sendData sq) d1
    if d2.complete r then (if d2.decides r.partner then d2.tryDecide else d2.setLulState 3) else d2

/-- Whether every record of a forming round is reported done. -/
def Dev.allFormed (d : Dev) (r : LulRound) : Bool := decide (r.formed.length = d.shardCnt)

/-- A round is formed: D is computed, FTOK bumped on each record's CORE (12 R317, R322). -/
def Dev.formRound (d : Dev) (r : LulRound) : Dev :=
  let r1 := { r with d := d.delayFigure r.partner, since := d.lulSince }
  let d1 := ((d.setRegN .lulDpair r1.d).setRound (some r1)).setLulState 1
  let d2 := d1.shards.foldl (fun (e : Dev) s => e.bump s.core s.ftok none 7) d1
  if d2.shardCnt = 0 then d2.startSending r1 else d2

/-- LUL_RND of a round. -/
def Dev.showRound (d : Dev) (r : Nat) (bye : Bool) (partner : Nat) : Dev :=
  (d.setRegN .lulRnd (r % 2 ^ 32 * 2 ^ 32 + b2n bye * 2 ^ 31 + partner % 64 * 2 ^ 24)).showOwd

/-- The number of the round whose send boundary this is, if it is one (12 R319). -/
def Dev.sendBoundary (d : Dev) : Option Nat :=
  let h := d.lulH
  let x := d.regN .chrStep - d.regN .lulBase
  if h = 0 ∨ d.regN .chrStep < d.regN .lulBase + h ∨ x % h ≠ 0 then none else some ((x / h - 1) % 2 ^ 32)

/-- Whether outcomes are taken from the merge log (12 R334). -/
def Dev.replays (d : Dev) : Bool := d.rbit .lulCtl 29

/-- The merge log entry of round `r` (12 R333, R334). -/
def Dev.replayEntry (d : Dev) (r : Nat) : Option (List Byte) :=
  ((List.range (2 ^ d.rbits .lulMlcfg 4 0)).map (fun n => d.bytesAt (d.logAt n) 32)).find? (fun b =>
    decide (fieldBytes b 8 4 = r ∧ fieldBytes b 13 1 % 4 ≠ 0))

/-- Whether an entry is a SKIP that applies by this step. -/
def Dev.skipsNow (d : Dev) (e : List Byte) : Bool :=
  decide (fieldBytes e 13 1 % 4 = 2 ∧ fieldBytes e 0 8 ≤ d.regN .chrStep)

/-- A replayed SKIP: the entry is appended again and the round ends (12 R333, R334). -/
def Dev.replaySkip (d : Dev) (e : List Byte) : Dev :=
  (((d.appendLog e).setRbit .lulStatus 3 true).setRound none).setLulState 0

/-- A round that cannot open because an earlier one is open still: its partner is sent BUSY where that one is held, and the
round is logged as a SKIP with cause BUSY (12 R321, R333; DEDUCED, assumption log 18). -/
def Dev.turnAway (d : Dev) (r : Nat) (partner : Option Nat) : Dev :=
  if d.replays then
    match d.replayEntry r with
    | some e => if d.skipsNow e then (d.appendLog e).setRbit .lulStatus 3 true else d
    | none => d
  else
    match partner with
    | none => d.logSkip { round := r, partner := 0, s := d.regN .chrStep } 3 none
    | some p =>
      let d1 := if d.lulState = 5 then d.sendLul (d.mkLul 7 p r 0 d.lulFrames []) else d
      d1.logSkip { round := r, partner := p, s := d.regN .chrStep } 5 none

/-- A round with a partner opens: it is skipped where the partner has not joined or has sent BUSY, held where the partner is
absent, and formed otherwise (12 R321, Table 12.6); a replay looks at the log alone (12 R334). -/
def Dev.openWith (d : Dev) (rd : LulRound) : Dev :=
  if d.replays then
    match d.replayEntry rd.round with
    | some e => if d.skipsNow e then d.replaySkip e else d.formRound rd
    | none => d.formRound rd
  else if !d.rbit .lulJoined rd.partner then d.skipRound rd 4
  else if (d.site rd.partner).busy = some rd.round then d.skipRound rd 5
  else if (d.site rd.partner).absent then (d.setRound (some rd)).setLulState 5
  else d.formRound rd

/-- Round `r` is opened at its send boundary, skipped, held, or turned away (12 R319, R321). -/
def Dev.openRound (d : Dev) (r : Nat) : Dev :=
  match d.partnerOf r with
  | none => d
  | some partner =>
    if d.lulState = 6 then d
    else if d.lulState ≠ 0 then d.turnAway r partner
    else
      let s := d.regN .chrStep
      match partner with
      | none => (d.showRound r true 0).skipRound { round := r, partner := 0, s := s } 3
      | some p => (d.showRound r false p).openWith { round := r, partner := p, s := s }

/-- Whether an open round is formed again at this boundary: both sides have discarded it, or a replay's entry for it says
REFORM and gives this boundary as s (12 R329, R334). -/
def Dev.reformsNow (d : Dev) (r : LulRound) : Bool :=
  r.reformNext ||
  (d.replays && r.s != d.regN .chrStep &&
    match d.replayEntry r.round with
    | some e => fieldBytes e 13 1 / 8 % 2 == 1 && fieldBytes e 16 8 == d.regN .chrStep
    | none => false)

/-- A round is formed again, or held where its partner is absent again (12 R321, R328, R329). -/
def Dev.reform (d : Dev) (r : LulRound) : Dev :=
  let r1 := { r with s := d.regN .chrStep, reform := true, reformNext := false, peer := none, got := [], high := 0, rack := false,
                     formed := [] }
  if !d.replays && (d.site r.partner).absent then (d.setRound (some { r with reformNext := false })).setLulState 5
  else d.formRound r1

/-- What Lular does once order 6 of a boundary is done: the boundary is timed, an announced JOINED takes effect, a
re-formed round is formed, and the round whose send boundary this is opens (12 R315, R317, R319, R329, R332). -/
def Dev.lulAfter (d : Dev) : Dev :=
  if !d.lulOn then d
  else
    let bs := ((d.regN .timNow, d.lul.held) :: d.lul.bounds).take 16
    let d1 := (d.onLul (fun u => { u with bounds := bs, held := false, joined := u.joined || u.joinNext, joinNext := false
        })).setRegN .lulTstep (tstepOf bs)
    if d1.rbit .lulCtl 28 || !d1.lul.joined then d1
    else
      match d1.lul.round with
      | some r =>
        if d1.reformsNow r then d1.reform r
        else match d1.sendBoundary with
          | some n => d1.openRound n
          | none => d1
      | none =>
        match d1.sendBoundary with
        | some n => d1.openRound n
        | none => d1

/-! ### The receive archive (13 R363) -/

/-- The slot that is GOOD, if one is (13 R339). -/
def Dev.goodSlot (d : Dev) : Option Nat := (List.range 2).find? (fun k => d.slotSt k = 3)

/-- The pieces of a ring of `size` bytes at `base` that bytes `pos`, …, `pos + n - 1` of a stream lie in. -/
def ringPieces : Nat → Nat → Nat → Nat → Nat → List (Nat × Nat)
  | 0, _, _, _, _ => []
  | k + 1, base, size, pos, n =>
    if n = 0 then []
    else
      let m := min n (size - pos % size)
      (base + pos % size, m) :: ringPieces k base size (pos + m) (n - m)

/-- The size of the archive ring. -/
def Dev.archSize (d : Dev) : Nat := 2 ^ d.rbits .snpRacfg 4 0 * pageSize

/-- The pieces of the archive ring. -/
def Dev.archPieces (d : Dev) (pos n : Nat) : List (Nat × Nat) :=
  ringPieces (n / d.archSize + 2) (d.rbits .snpRabase 47 16 * pageSize) d.archSize pos n

/-- A byte string is written over pieces of memory in order. -/
def Dev.scatter (d : Dev) (ps : List (Nat × Nat)) (bs : List Byte) : Dev :=
  (ps.foldl (fun (acc : Dev × List Byte) p =>
    ((if acc.1.memOk p.1 p.2 then acc.1.writeAt p.1 (acc.2.take p.2) else acc.1), acc.2.drop p.2)) (d, bs)).1

/-- The RBUF streams of a merged round are appended to the archive behind a 32 B header with ROUND, step and length, whose
places in the header are the model's (DESIGN CHOICE, assumption log 23). -/
def Dev.archAppend (d : Dev) (round : Nat) : Dev :=
  if !d.rbit .snpRacfg 7 then d
  else
    let step := d.regN .chrStep
    let body := d.shards.flatMap (fun s => d.bytesAt s.rbuf s.len)
    let bs := toBytes 4 round ++ toBytes 4 0 ++ toBytes 8 step ++ toBytes 8 body.length ++ toBytes 8 0 ++ body
    let pos := d.regN .snpRawp
    let overlaps := fun (e : ArchEntry) => decide (e.start + d.archSize < pos + bs.length)
    let newer := fun (e : ArchEntry) => match d.goodSlot with
      | some k => decide (d.regN (.slotStep k) < e.step)
      | none => false
    let d1 := if d.snp.arch.any (fun e => overlaps e && newer e) then d.setRbit .snpStatus 15 true else d
    let d2 := (d1.scatter (d1.archPieces pos bs.length) bs).setRegN .snpRawp (pos + bs.length)
    let arch := d.snp.arch.filter (fun e => !overlaps e) ++ [{ start := pos, len := bs.length, round := round, step := step }]
    { d2 with snp := { d2.snp with arch := arch } }

/-- Under REPLAY the archived streams of a round go back into RBUF; one without an entry sets NOARC. -/
def Dev.archReplay (d : Dev) (round : Nat) : Dev :=
  match d.snp.arch.reverse.find? (fun e => e.round = round) with
  | none => d.setRbit .snpStatus 14 true
  | some e =>
    let bs := (d.archPieces (e.start + 32) (e.len - 32)).flatMap (fun p => d.bytesAt p.1 p.2)
    d.scatter (d.shards.map (fun s => (s.rbuf, s.len))) bs

/-! ### The merge fence (12 R318, R326 to R328, R334) -/

/-- The frames of a join stream. -/
def Dev.joinFrames (d : Dev) (bs : List Byte) : Nat := ceilDiv bs.length d.psz

/-- A JDATA frame of a join stream is sent. -/
def Dev.sendJdata (d : Dev) (dstSite round : Nat) (bs : List Byte) (sq : Nat) : Dev :=
  d.sendLul (d.mkLul 9 dstSite round sq (d.joinFrames bs) ((bs.drop (sq * d.psz)).take d.psz))

/-- The end of a join stream is sent. -/
def Dev.sendJend (d : Dev) (dstSite round : Nat) (bs : List Byte) : Dev :=
  d.sendLul (d.mkLul 10 dstSite round (d.joinFrames bs) (d.joinFrames bs) [])

/-- The JDATA frames of a join stream from number `lo` on, and its end, are sent. -/
def Dev.sendJoin (d : Dev) (dstSite round : Nat) (bs : List Byte) (lo : Nat) : Dev :=
  ((List.range (d.joinFrames bs - lo)).foldl (fun (e : Dev) i => e.sendJdata dstSite round bs (lo + i)) d).sendJend dstSite round bs

/-- A round merged after that of the anchor which a join stream holds: its q_self, q_peer and k follow in the stream
(12 R332; their packing is a DESIGN CHOICE, assumption log 20). -/
def Dev.joinMerged (d : Dev) (k : Nat) : Dev :=
  match d.lul.joinOut with
  | none => d
  | some (dstSite, round, bs) =>
    let bs2 := bs ++ d.shards.flatMap (fun s => d.bytesAt s.sbuf s.len) ++ d.shards.flatMap (fun s => d.bytesAt s.rbuf s.len) ++
      toBytes 1 k
    (d.onLul (fun u => { u with joinOut := some (dstSite, round, bs2) })).sendJoin dstSite round bs2 (bs.length / d.psz)

/-- A MERGE has been applied: its streams go to the archive (13 R363) and follow in a join stream that is being sent, it is
logged, with LATE where CHR_STEP has passed T, and the round ends. A replay appends the entry that it applies (12 R333,
R334). -/
def Dev.endMerge (d : Dev) (k : Nat) : Dev :=
  match d.lul.round with
  | none => d.onLul (fun u => { u with merging := none })
  | some r =>
    let t := match r.dec with | some c => c.t | none => d.regN .chrStep
    let late := if d.replays then fieldBytes r.entry 13 1 / 4 % 2 == 1 else decide (t < d.regN .chrStep)
    let d0 := (d.archAppend r.round).joinMerged k
    let d1 := d0.appendLog (if d.replays then r.entry else d0.logEntry r 1 late 0 k (some t))
    let d2 := (d1.setRbit .lulStatus 2 true).setRegN .lulLmstep (d1.regN .chrStep)
    let d3 := if late then d2.setRbit .lulStatus 4 true else d2
    ((d3.onLul (fun u => { u with merging := none })).setRound none).setLulState 0

/-- A MERGE is applied: LUL_MSHIFT holds k + 1 and MTOK is bumped on each record's CORE (12 R318). -/
def Dev.beginMerge (d : Dev) (k : Nat) : Dev :=
  let d1 := (d.setRegN .lulMshift ((k + 1) % 32)).onLul (fun u => { u with merging := some (List.range d.shardCnt, k) })
  let d2 := d1.shards.foldl (fun (e : Dev) s => e.bump s.core s.mtok none 7) d1
  if d2.shardCnt = 0 then d2.endMerge k else d2

/-- A replayed outcome at order 3: the MERGE whose step this is, or a SKIP that applies by it (12 R334). -/
def Dev.replayFence (d : Dev) (r : LulRound) : Dev :=
  match d.replayEntry r.round with
  | none => d
  | some e =>
    let k := fieldBytes e 15 1
    if fieldBytes e 13 1 % 4 = 1 ∧ fieldBytes e 0 8 = d.regN .chrStep then
      let dec : LulDecision := { kind := 1, k := k, eft := 0, t := fieldBytes e 16 8 + fieldBytes e 24 4 }
      ((d.archReplay r.round).setRound (some { r with dec := some dec, entry := e })).beginMerge k
    else if d.skipsNow e then d.replaySkip e
    else d

/-- Whether order 3 must wait for a round that is neither decided nor held (R327), or for a round held longer than P while its
partner is absent (R328). -/
def Dev.mustStall (d : Dev) (r : LulRound) : Bool :=
  let n := d.regN .chrStep
  if r.reformNext then false
  else if d.lulState = 5 then (d.site r.partner).absent && decide (r.s + d.regN .lulPlim ≤ n)
  else (d.lulState == 1 || d.lulState == 2 || d.lulState == 3) && decide (r.s + d.lulS ≤ n)

/-- Order 3 of a boundary, as far as Lular's rounds go: a due MERGE starts, or the order waits. -/
def Dev.mergeFence (d : Dev) : Dev :=
  match d.lul.round with
  | none => d.setRbit .lulStatus 26 false
  | some r =>
    if !d.lulOn then d
    else if d.replays then d.replayFence r
    else
      match d.lulState, r.dec with
      | 4, some c =>
        if c.t ≤ d.regN .chrStep then (d.setRbit .lulStatus 26 false).beginMerge c.k else d.setRbit .lulStatus 26 false
      | _, _ =>
        if d.mustStall r then (d.setRbit .lulStatus 26 true).onLul (fun u => { u with held := true })
        else d.setRbit .lulStatus 26 false

/-- Whether order 3 is still waiting: for merge kernels, or under R327 and R328. -/
def Dev.fenceBusy (d : Dev) : Bool := d.lul.merging.isSome || d.rbit .lulStatus 26

/-- A wait of order 3 is looked at again after an event. -/
def Dev.fenceAgain (d : Dev) : Dev := if d.rbit .lulStatus 26 then d.mergeFence else d

/-! ### Receiving (12 R308, R312) -/

/-- Whether a frame received on port `l` is taken as Lular (12 R308). -/
def Dev.isLular (d : Dev) (l : Nat) (f : LulFrame) : Bool :=
  let e := f.env
  e.dstMac.toNat == d.rbits (.lhpMac l) 47 0 && e.etherType == 0x86DD &&
  (match e.tag with | some t => bits t 11 0 == d.rbits (.lhpPctl l) 27 16 | none => true) &&
  e.nextHeader == 17 && e.dstIp == d.myIp &&
  (List.range 64).any (fun s => d.rbit (.lulPeer (4 * s + 2)) 0 && e.srcIp == d.peerIp s) &&
  e.dstPort.toNat == d.rbits .lulUdp 15 0

/-- Whether a frame passes R312: VER, TYPE, DEV and DSTSITE are right. -/
def Dev.lulAccepts (d : Dev) (f : LulFrame) : Bool :=
  f.ver == 1 && decide (1 ≤ f.typ.toNat ∧ f.typ.toNat ≤ 10) && f.dev.toNat == d.me && f.dstSite.toNat == d.mySite

/-- A dropped frame is counted in LHP_RXDROP. -/
def Dev.lulDropped (d : Dev) (l : Nat) : Dev := (d.addStick (.lhpRxdrop l) 31 0 1).count (4120 + l) 6 1

/-- A frame that fails a check is dropped and counted in LHP_CRCERR (12 R311). -/
def Dev.lulCrcerr (d : Dev) (l : Nat) : Dev := (d.addStick (.lhpCrcerr l) 31 0 1).count (4120 + l) 6 1

/-- A frame comes in on port `l`: one that is not Lular, or fails R312, is dropped and counted, one that fails its checks is
counted as such; a good one is given to `act` (12 R308, R311, R312). -/
def Dev.lulSift (d : Dev) (l : Nat) (f : LulFrame) (act : Dev → Dev) : Dev :=
  if !d.lhpUp l then d
  else if !d.isLular l f then d.lulDropped l
  else if !lulChecks f then d.lulCrcerr l
  else if !d.lulAccepts f then d.lulDropped l
  else act d

/-- A Lular frame of type `t` comes in on port `l`; while Lular runs, a good one acts. -/
def Dev.lulReceive (d : Dev) (l t : Nat) (f : LulFrame) (act : Dev → Dev) : Dev :=
  if !d.lulOn || f.typ.toNat != t then d
  else
    d.lulSift l f (fun e => act ((e.count (4120 + l) 1 1).count (4120 + l) 3 (f.payload.length + e.lulOverhead l)))

/-- The open round where a frame of its partner names it; a replay takes nothing from the network (12 R334). -/
def Dev.roundFor (d : Dev) (f : LulFrame) : Option LulRound :=
  match d.lul.round with
  | some r => if r.partner = f.srcSite.toNat ∧ r.round = f.round.toNat ∧ !d.replays then some r else none
  | none => none

/-- A DATA frame (12 R324): filed by SEQ, duplicates discarded, a NAK at a gap, RACK when the payload is complete. -/
def Dev.lulData (d : Dev) (f : LulFrame) : Dev :=
  match d.roundFor f with
  | none => d
  | some r =>
    if (d.lulState ≠ 1 && d.lulState ≠ 2) || f.reform != r.reform || r.reformNext then d
    else if f.nframes.toNat ≠ d.lulFrames || f.nshard.toNat ≠ d.shardCnt then d.layoutEnds r
    else
      let sq := f.seq.toNat
      if mapGet (fun _ => false) r.got sq || d.lulFrames ≤ sq then d
      else
        let r1 : LulRound := { r with
          peer := some { s := f.step.toNat, d := f.dprop.toNat, since := f.since.toNat },
          got := mapSet (fun _ => false) r.got sq true, high := max r.high (sq + 1) }
        let d1 := (d.fileFrame sq f.payload).setRound (some r1)
        let d2 := (d1.setRegN .lulDpair (f.dprop.toNat * 65536 + r1.d)).setRegN .lulTgt ((d1.target r1).getD 0)
        let d3 := if r.high < sq then d2.sendNak r1 else d2
        if d3.complete r1 then
          let d4 := d3.sendRack r1
          if d4.lulState = 2 then (if d4.decides r1.partner then d4.tryDecide else d4.setLulState 3) else d4
        else d3

/-- The ranges that a NAK names, as SEQ numbers. -/
def nakSeqs (p : List Byte) : List Nat :=
  (List.range (min 8 (p.length / 8))).flatMap (fun i =>
    (List.range (fieldBytes p (8 * i + 4) 4)).map (fun j => fieldBytes p (8 * i) 4 + j))

/-- A NAK makes the sender resend the missing ranges (12 R324). -/
def Dev.lulNak (d : Dev) (f : LulFrame) : Dev :=
  match d.lul.joinOut with
  | some (dstSite, round, bs) =>
    if dstSite = f.srcSite.toNat then
      (nakSeqs f.payload).foldl (fun (e : Dev) sq => if sq < e.joinFrames bs then e.sendJdata dstSite round bs sq else e) d
    else match d.roundFor f with
      | some _ => if d.lulState = 2 ∨ d.lulState = 3 then d.resendData (nakSeqs f.payload) else d
      | none => d
  | none =>
    match d.roundFor f with
    | some _ => if d.lulState = 2 ∨ d.lulState = 3 then d.resendData (nakSeqs f.payload) else d
    | none => d

/-- A RACK: the peer holds this side's payload; the joiner holds the join stream. -/
def Dev.lulRack (d : Dev) (f : LulFrame) : Dev :=
  let d1 := match d.lul.joinOut with
    | some (dstSite, _, _) => if dstSite = f.srcSite.toNat then d.onLul (fun u => { u with joinOut := none }) else d
    | none => d
  match d1.roundFor f with
  | some r => (d1.setRound (some { r with rack := true })).tryDecide
  | none => d1

/-- A DEC (12 R325): answered by DACK; the decision of the open round is taken. A SKIP that names no cause is logged as
RWIN, and a REFORM of a round that has been formed again is a repeat (DEDUCED, assumption log 19). -/
def Dev.lulDec (d : Dev) (f : LulFrame) : Dev :=
  let d1 := d.sendLul (d.mkLul 5 f.srcSite.toNat f.round.toNat 0 d.lulFrames [])
  match d1.roundFor f with
  | none => d1
  | some r =>
    let again := fieldBytes f.payload 0 1 == 3 && (r.reformNext || (r.reform && d1.lulState != 5))
    if d1.decides r.partner || d1.lulState = 0 || d1.lulState = 4 || again then d1
    else
      d1.takeDecision r { kind := fieldBytes f.payload 0 1, k := fieldBytes f.payload 1 1, eft := fieldBytes f.payload 2 1,
                          t := fieldBytes f.payload 8 8 } 1

/-- A DACK stops the repeats of DEC (12 R325). -/
def Dev.lulDack (d : Dev) (f : LulFrame) : Dev :=
  d.onLul (fun u => { u with decOut := u.decOut.filter (fun x => !(x.1 == f.round.toNat && x.2.1 == f.srcSite.toNat)) })

/-- The decider repeats every decision that has not been answered. -/
def Dev.repeatDec (d : Dev) : Dev := d.lul.decOut.foldl (fun e x => e.sendDec x) d

/-- Croaks from a site resume (12 R329): a decider sends its decisions again, or REFORM for a held round. -/
def Dev.partnerReturns (d : Dev) (s : Nat) : Dev :=
  let d1 := (d.lul.decOut.filter (fun x => x.2.1 == s)).foldl (fun e x => e.sendDec x) d
  match d1.lul.round with
  | some r =>
    if r.partner = s && d1.lulState == 5 && !r.reformNext && d1.decides s then
      d1.issueDecision r { kind := 3, k := 0, eft := 0, t := 0 } 0
    else d1
  | none => d1

/-- A CROAK (12 R315, R322, R328, R331): a delay sample, TERR, and JOINED. -/
def Dev.lulCroak (d : Dev) (f : LulFrame) : Dev :=
  let s := f.srcSite.toNat
  let k := d.site s
  let x : Int := (d.regN .timNow : Int) - f.txtime.toNat
  let n := max 1 (d.rbits .lulDwin 7 0)
  let d1 := d.setSite s { k with samples := (x :: k.samples).take n, terr := f.terr.toNat, absent := false }
  let d2 := (if f.joined then d1.setRbit .lulJoined s true else d1).showOwd
  if k.absent then d2.partnerReturns s else d2

/-- A BUSY for the open round: it is skipped at once (12 R321); one for a round that is not open yet is kept for its send
boundary (12 Table 12.6). -/
def Dev.lulBusy (d : Dev) (f : LulFrame) : Dev :=
  match d.roundFor f with
  | some r => if d.lulState = 4 then d else d.skipRound r 5
  | none => d.setSite f.srcSite.toNat { d.site f.srcSite.toNat with busy := some f.round.toNat }

/-- A site is declared absent (12 R328): a round with it that is undecided, or whose decision a follower does not hold,
is held. -/
def Dev.lulAbsent (d : Dev) (s : Nat) : Dev :=
  if !d.lulOn || !d.isMember s || (d.site s).absent || s = d.mySite then d
  else
    let d1 := (d.setSite s { d.site s with absent := true }).setRbit .lulStatus 1 true
    match d1.lul.round with
    | some r => if r.partner = s ∧ 1 ≤ d1.lulState ∧ d1.lulState ≤ 3 ∧ !d1.replays then d1.setLulState 5 else d1
    | none => d1

/-! ### Kernel reports and commands (12 R317, R318, R328, R332) -/

/-- A write of LUL_FDONE. -/
def Dev.lulFdone (d : Dev) (v : W32) : Dev :=
  let i := bits v 7 0
  match d.lul.round with
  | some r =>
    if d.lulOn && d.lulState == 1 && decide (i < d.shardCnt) then
      let r1 := { r with formed := mapSet (fun _ => false) r.formed i true }
      let d1 := d.setRound (some r1)
      if d1.allFormed r1 then d1.startSending r1 else d1
    else d
  | none => d

/-- A merge kernel's report (12 R318): the region is committed where all its pages are written, CUR flips, and with the
last record order 3 ends. -/
def Dev.lulMdone (d : Dev) (v : W32) : Dev :=
  let i := bits v 7 0
  match d.lul.merging with
  | some (is, k) =>
    if is.contains i then
      let s := d.shard i
      let d1 := match d.region s.unit s.reg with
        | some r => if d.wrPages r = r.pages then d.commitRegion r else d.setRbit .lulStatus 8 true
        | none => d.setRbit .lulStatus 8 true
      let rest := is.filter (· ≠ i)
      let d2 := (d1.setCur i (!s.cur)).onLul (fun u => { u with merging := some (rest, k) })
      if rest.isEmpty then d2.endMerge k else d2
    else d
  | none => d

/-- LUL_CMD DROP: a held round is logged as a SKIP with cause DROP and its partner's JOINED bit is cleared (12 R328). -/
def Dev.lulDrop (d : Dev) : Dev :=
  match d.lul.round with
  | some r => if d.lulState = 5 then (d.skipRound r 6).setRbit .lulJoined r.partner false else d
  | none => d

/-- LUL_CMD JOIN: a joining device sends JREQ to the donor (12 R332). -/
def Dev.lulJoin (d : Dev) (donor : Nat) : Dev :=
  if d.lulOn && d.rbit .lulCtl 28 && d.lulState == 0 then
    let d1 := (d.onLul (fun u => { u with donor := donor, joinGot := [], joinHigh := 0, joinDone := false })).setLulState 6
    d1.sendLul (d1.mkLul 8 donor d1.roundNo 0 d1.lulFrames (toBytes 8 d1.roundNo))
  else d

/-- A write of LUL_CMD. -/
def Dev.lulCmd (d : Dev) (v : W32) : Dev :=
  match bits v 3 0 with
  | 1 => d.lulDrop
  | 2 => d.lulJoin (bits v 29 24)
  | _ => d.setRbit .lulStatus 9 true

/-- The start of a join stream: A_CUR of every record, its mantissa plane and its exponent plane each as a TC stream that the
donor's kernels have coded (12 R332). The spec does not say with which tables, so the coded bytes are open (assumption
log 20). -/
def Dev.anchorStreams (d : Dev) : List Byte :=
  (List.range d.shardCnt).flatMap (fun i =>
    let s := d.shard i
    let a := if s.cur then s.a1 else s.a0
    Config.joinStream (d.freeCtr + 2 * i) (d.bytesAt a (2 * s.nelem)) ++
    Config.joinStream (d.freeCtr + 2 * i + 1) (d.bytesAt (a + 2 * s.nelem) (s.nelem / 32)))

/-- A JREQ: the donor sends JDATA, then JEND (12 R332); no round has been merged after that of A_CUR yet. -/
def Dev.lulJreq (d : Dev) (f : LulFrame) : Dev :=
  let dstSite := f.srcSite.toNat
  let round := fieldBytes f.payload 0 8
  let bs := d.anchorStreams
  ((d.useFree (2 * d.shardCnt)).onLul (fun u => { u with joinOut := some (dstSite, round, bs) })).sendJoin dstSite round bs 0

/-- The frames of the join stream that the joiner still misses are named in a NAK. -/
def Dev.joinNak (d : Dev) : Dev :=
  let ms := missingRuns (fun i => (mapGet (fun _ => none) (d.lul.joinGot.map (fun e => (e.1, some e.2))) i).isSome) d.lul.joinHigh
  if ms.isEmpty then d else d.sendLul (d.mkLul 2 d.lul.donor d.roundNo 0 d.lulFrames (nakPayload ms))

/-- A JDATA frame is filed by SEQ (12 R332). -/
def Dev.lulJdata (d : Dev) (f : LulFrame) : Dev :=
  if d.lulState = 6 ∧ f.srcSite.toNat = d.lul.donor then
    let sq := f.seq.toNat
    let gap := decide (d.lul.joinHigh < sq)
    let d1 := d.onLul (fun u => { u with joinGot := mapInsert u.joinGot sq f.payload, joinHigh := max u.joinHigh (sq + 1) })
    if gap then d1.joinNak else d1
  else d

/-- A JEND (12 R332): with the whole stream filed the joiner acknowledges it, and JOIN is left when JOINER is cleared. -/
def Dev.lulJend (d : Dev) (f : LulFrame) : Dev :=
  if d.lulState = 6 ∧ f.srcSite.toNat = d.lul.donor then
    if d.lul.joinGot.length = f.nframes.toNat then
      (d.sendLul (d.mkLul 3 d.lul.donor f.round.toNat 0 d.lulFrames [])).onLul (fun u => { u with joinDone := true })
    else (d.onLul (fun u => { u with joinHigh := f.nframes.toNat })).joinNak
  else d

/-- JOINER changes while Lular runs (12 R332). A device that becomes a joiner has not joined; clearing it with the whole join
stream here is the join's last step: JOINDONE, IDLE, and JOINED from the next boundary. -/
def Dev.joinerWrite (d : Dev) (was now : Bool) : Dev :=
  if !was && now then d.onLul (fun u => { u with joined := false, joinNext := false })
  else if was && !now && d.lulState == 6 && d.lul.joinDone then
    ((d.setRbit .lulStatus 0 true).setLulState 0).onLul (fun u => { u with joinNext := true, joinDone := false })
  else d

/-- A write of LUL_CTL: EN and JOINER may change at any time, the rest while EN = 0. Setting EN starts the measurement
afresh (12 R315); a site that is no joiner has joined (DEDUCED, assumption log 21). -/
def Dev.lulCtlWrite (d : Dev) (v : W64) : Dev :=
  let old := d.reg .lulCtl
  if bit old 31 then
    let w := setBit (setBit old 31 (bit v 31)) 28 (bit v 28)
    let d1 := (d.setReg .lulCtl w).joinerWrite (bit old 28) (bit v 28)
    if bits (old ^^^ v) 30 29 ≠ 0 ∨ bits (old ^^^ v) 13 8 ≠ 0 then d1.setRbit .lulStatus 9 true else d1
  else
    let d1 := d.setReg .lulCtl (v &&& 0xF0003F00#64)
    if bit v 31 then
      (d1.onLul (fun u => { u with sites := [], bounds := [], joined := !bit v 28, joinNext := false, held := false,
                                   round := none, decOut := [], merging := none, joinDone := false })).setRegN .lulTstep 0
        |>.setRegN .lulOwd 0 |>.setLulState 0
    else d1

/-- Whether a configuration value lies within the range of R336. -/
def Dev.lulInRange (d : Dev) (r : Reg) (v : W64) : Bool :=
  match r with
  | .lulTmr => decide (5 ≤ bits v 7 0) && decide (1 ≤ bits v 15 8) && decide (1 ≤ bits v 23 16) && decide (1 ≤ bits v 31 24)
  | .lulSpan =>
    decide (16 ≤ bits v 12 0 ∧ bits v 12 0 ≤ 4096) && decide (1 ≤ bits v 28 16 ∧ bits v 28 16 + 1 ≤ bits v 12 0)
  | .lulPlim => decide (1 ≤ bits v 31 0)
  | .lulDwin => decide (1 ≤ bits v 7 0)
  | .lulDfull => decide (bits v 31 0 ≤ d.regN .lulDmax ∧ d.regN .lulDmax ≤ bits v 31 0 * 2 ^ 15)
  | .lulDmax => decide (d.regN .lulDfull ≤ bits v 31 0 ∧ bits v 31 0 ≤ d.regN .lulDfull * 2 ^ 15)
  | _ => true

/-- A write of a Lular configuration register: made only while EN = 0 and within its range (12 R336). -/
def Dev.lulCfgWrite (d : Dev) (r : Reg) (v : W64) : Dev :=
  if d.lulOn || !d.lulInRange r v then d.setRbit .lulStatus 9 true else d.setReg r (v &&& BitVec.ofNat 64 r.rwMask)

end Sys2Proof.Machine
end

