-- ==== Sys2Proof/Machine/Power.lean ====
section
/-! DEFINITION. Power modes, autotomy and thermal limits (15): island clocks and the VDD_CL level, the mode change, the
shedding stages and their reversal, sensors and thermal steps. -/

namespace Sys2Proof.Machine

/-! ### Modes and clocks (15 R393 to R399) -/

/-- The current mode. -/
def Dev.modeNow (d : Dev) : Nat := d.rbits .pwrMode 1 0

/-- The cluster island clock of a mode in MHz (15 Table 15.1). -/
def modeClock (m : Nat) : Nat := if m = 1 then 1800 else if m = 2 then 1200 else 1600

/-- TJMAX of a mode in C (15 Table 15.1). -/
def modeTjmax (m : Nat) : Nat := if m = 2 then 115 else 105

/-- The cap of stage 2 (15 Table 15.4). -/
def Dev.capClock (d : Dev) : Nat := if d.modeNow = 2 then 900 else 1200

/-- The clock of island `c`: SET or the mode clock, under the supply cap and the thermal cap (15 R397). -/
def Dev.islandClock (d : Dev) (c : Nat) : Nat :=
  let want := if d.rbits (.pwrIclk c) 11 0 = 0 then modeClock d.modeNow else d.rbits (.pwrIclk c) 11 0
  if 2 ≤ d.pwr.top || d.rbit .pwrThl2 c then min want d.capClock else want

/-- The segment of the VDD_CL curve between two points, interpolated and rounded up to a millivolt. -/
def vddBetween (f f0 v0 f1 v1 : Nat) : Nat := v0 + ((f - f0) * (v1 - v0) + (f1 - f0 - 1)) / (f1 - f0)

/-- The level in mV that an island clock in MHz asks for (15 R395). -/
def vddFor (f : Nat) : Nat :=
  if f ≤ 800 then vddBetween f 400 600 800 630
  else if f ≤ 1200 then vddBetween f 800 630 1200 680
  else if f ≤ 1600 then vddBetween f 1200 680 1600 750
  else if f ≤ 1800 then vddBetween f 1600 750 1800 820
  else vddBetween f 1800 820 2000 900

/-- Every island runs at its clock, EFF shows it, and each die asks for the level of its fastest island (15 R395, R397). -/
def Dev.refreshClocks (d : Dev) : Dev :=
  let d1 := (List.range 64).foldl (fun (e : Dev) c => e.setRbits (.pwrIclk c) 27 16 (d.islandClock c)) d
  let level := fun (n : Nat) => vddFor (((List.range 16).map (fun i => d.islandClock (16 * n + i))).foldl max 400)
  { d1 with pwr := { d1.pwr with vdd := mapBuild (fun _ => 0) 4 level } }

/-- A write or command of the PWR block is ignored: CFGERR. -/
def Dev.pwrErr (d : Dev) : Dev := d.setRbit .pwrStatus 0 true

/-- Whether a MODE lock is held (15 R396). -/
def Dev.modeLock (d : Dev) : Bool :=
  (List.range 16).any (fun i => d.lockHeld i && d.rbits (.fltLock i) 59 56 == 12)

/-- A write of PWR_MODE (15 R396). -/
def Dev.modeWrite (d : Dev) (v : W32) : Dev :=
  if bits v 17 16 = 3 || !d.modeLock || !decide (d.regN .chrStep < d.regN .pwrModestep) then d.pwrErr
  else (d.setRbits .pwrMode 17 16 (bits v 17 16)).setRbit .pwrMode 31 true

/-- Whether a value of PWR_ICLK.SET is legal. -/
def iclkOk (v : Nat) : Bool := v == 0 || (decide (400 ≤ v ∧ v ≤ 2000) && v % 25 == 0)

/-- A write of PWR_ICLK[c] (15 R397). -/
def Dev.iclkWrite (d : Dev) (c : Nat) (v : W32) : Dev :=
  if iclkOk (bits v 11 0) then (d.setRbits (.pwrIclk c) 11 0 (bits v 11 0)).refreshClocks else d.pwrErr

/-- Frames that wait for the walker of a port that can carry them no longer are dropped as having no valid route (15 R399). -/
def Dev.dropUnrouted (d : Dev) : Dev :=
  (List.range 24).foldl (fun (e : Dev) q =>
    let k := e.portOwn q
    let lost := k.fwd.filter (fun f => (e.route f.dst.toNat).isNone)
    if lost.isEmpty then e
    else
      lost.foldl (fun (x : Dev) f => (x.consumed q f).noRoute (some q) f.xid)
        (e.setPortOwn q { k with fwd := k.fwd.filter (fun f => (e.route f.dst.toNat).isSome) })) d

/-- In Shade only the ports of FAB_SHADE run: each other one stops and sets OFF, and one that may run again clears OFF and
trains if its EN is 1 (10 R291; 15 R398). -/
def Dev.shadePorts (d : Dev) : Dev :=
  ((List.range 24).foldl (fun (e : Dev) p =>
    let stop := e.modeNow == 2 && !e.rbit .fabShade p
    if stop && !e.portOff p then (e.portDown p).setRbit (.portStatus p) 28 true
    else if !stop && e.portOff p then e.setRbit (.portStatus p) 28 false
    else e) d).dropUnrouted

/-- Whether a Shade mask names twelve ports, both of the twin bond among them (10 R291). -/
def Dev.shadeOk (d : Dev) (v : W64) : Bool :=
  let on := (List.range 24).filter (fun p => bit v p)
  on.length == 12 && (List.range 24).all (fun p => !d.inBond p || bit v p)

/-- A write of FAB_SHADE: one that breaks the rule is ignored; in Shade the ports follow at once (10 R291). -/
def Dev.shadeWrite (d : Dev) (v : W64) : Dev := if d.shadeOk v then (d.setReg .fabShade (v &&& 0xFFFFFF#64)).shadePorts else d

/-- The mode change takes place (15 R396, R398, R413). -/
def Dev.modeApply (d : Dev) : Dev :=
  let m := d.rbits .pwrMode 17 16
  let d1 := ((d.setRbits .pwrMode 1 0 m).setRbit .pwrMode 31 false).shadePorts
  (d1.refreshClocks.setRbit .pwrStatus 8 true).faultAt 0x0A08 (unitId 0 0) (d.regN .chrStep % 2 ^ 56 * 256 + m)

/-- The mode change that waits for this boundary takes place (15 R396). -/
def Dev.modeAtBoundary (d : Dev) : Dev :=
  if d.rbit .pwrMode 31 && d.reg .chrStep == d.reg .pwrModestep then d.modeApply else d

/-! ### Autotomy (15 R401 to R407) -/

/-- The highest stage entered. -/
def Dev.sag (d : Dev) : Nat := d.rbits .pwrStatus 31 29

/-- The level in mV that is requested for a monitored rail (15 R395, Table 15.3). -/
def Dev.railLevel (d : Dev) (n : Nat) : Nat :=
  if n = 28 then 1800
  else if n = 29 then 800
  else
    match n % 7 with
    | 0 => mapGet (fun _ => 0) d.pwr.vdd (n / 7)
    | 1 => 800
    | 2 => 750
    | 3 => 750
    | 4 => 1200
    | 5 => 1050
    | _ => 700

/-- The state of a rail that reads `mv` where `level` is requested: 0 clear, 1 not clear, 2 below its warning threshold, 3 below
its reset threshold (15 R400). -/
def railState (level mv : Nat) : Nat :=
  if mv * 100 < level * 88 then 3 else if mv * 100 < level * 94 then 2 else if mv * 100 < level * 95 then 1 else 0

/-- The state of monitored rail `n` as it was last read. -/
def Dev.rail (d : Dev) (n : Nat) : Nat := mapGet (fun _ => 0) d.pwr.rails n

/-- The first rail other than VDD_MGT whose state is at least `st`. -/
def Dev.lowRail (d : Dev) (st : Nat) : Option Nat := (List.range 29).find? (fun n => st ≤ d.rail n)

/-- Whether the supply is below warning (15 R401). -/
def Dev.belowWarning (d : Dev) : Bool := d.pwr.warnLow || (d.lowRail 2).isSome

/-- Whether the supply is failing (15 R401). -/
def Dev.supplyFailing (d : Dev) : Bool := d.pwr.failLow || (d.lowRail 3).isSome

/-- Whether the supply is recovered (15 R401). -/
def Dev.supplyGood (d : Dev) : Bool := !d.pwr.warnLow && !d.pwr.failLow && (List.range 30).all (fun n => d.rail n == 0)

/-- A monitor's reading: MV, DROP and the rail's state (15 R400). -/
def Dev.readRail (d : Dev) (n mv : Nat) : Dev :=
  let drop := d.railLevel n - mv
  let r := d.setRegN (.pwrRail n) (mv * 2 ^ 16 + max (d.rbits (.pwrRail n) 15 0) drop)
  { r with pwr := { r.pwr with rails := mapSet (fun _ => 0) r.pwr.rails n (railState (d.railLevel n) mv) } }

/-- What the monitors see is taken in. -/
def Dev.takeSupply (d : Dev) (x : Supply) : Dev :=
  let d1 := ((List.range 30).zip x.rails).foldl (fun (e : Dev) p => e.readRail p.1 p.2.toNat) d
  { d1 with pwr := { d1.pwr with warnLow := x.warnLow, failLow := x.failLow } }

/-- What a SAG record blames: 0 for PWR_WARN_N, or monitor n + 1 (15 Table 15.8). A stage that is entered for heat, with the supply
good, has no cause there: the byte is then open (DESIGN CHOICE, assumption log 26). -/
def Dev.powerCause (d : Dev) : Nat :=
  if d.pwr.warnLow then 0 else match d.lowRail 2 with | some n => n + 1 | none => d.free.toNat % 30

/-- What a FAIL record blames: 0 for PWR_FAIL_N, or monitor n + 1 (15 Table 15.8). -/
def Dev.failCause (d : Dev) : Nat := if d.pwr.failLow then 0 else match d.lowRail 3 with | some n => n + 1 | none => 0

/-- A port runs on logical lanes 0 to 7, or on all of them again; the retrain is counted (10 R292). -/
def Dev.setHalf (d : Dev) (p : Nat) (b : Bool) : Dev :=
  if d.portUp p && !d.inBond p && d.rbit (.portStatus p) 29 != b then
    (d.setRbit (.portStatus p) 29 b).addStick (.portRetry p) 15 0 1
  else d

/-- A long-haul port goes down: LINKDN, and a report (12 R309; 14 Table 14.2). -/
def Dev.lhpDown (d : Dev) (l : Nat) : Dev :=
  if d.lhpUp l then
    ((d.setRbit (.lhpPstat l) 31 false).setRbit (.lhpPstat l) 0 true).faultAt 0x0501 (unitId 10 l) 0
  else d

/-- The device stops: island clocks, ports except the twin bond, both LHPs (15 R405). -/
def Dev.stageSix (d : Dev) : Dev :=
  let d1 := (List.range 24).foldl (fun (e : Dev) p => if e.inBond p || !e.portUp p then e else e.portDown p) d
  (d1.lhpDown 0).lhpDown 1

/-- What entering a stage does beside timing (15 Table 15.4). -/
def Dev.stageAction (d : Dev) (n : Nat) : Dev :=
  match n with
  | 2 => d.refreshClocks
  | 3 => (List.range 24).foldl (fun (e : Dev) p => e.setHalf p true) d
  | 5 => { d with pwr := { d.pwr with flush := 1, slot := none } }
  | 6 => d.stageSix
  | _ => d

/-- Stage `n` is entered: SAG, SAGEV and a SAG record (15 R402, R413). -/
def Dev.enterStage (d : Dev) (n : Nat) : Dev :=
  let d1 := ((d.setRbits .pwrStatus 31 29 (max n d.sag)).setRbit .pwrStatus 4 true).faultAt 0x0A01 (unitId 0 0)
    (n + 256 * d.powerCause)
  { d1.useFree 1 with pwr := { d1.pwr with top := n, reversing := false } }.stageAction n

/-- The supply falls below warning: shedding starts, or goes on from the current stage; a dwell or a reversal ends
(15 R402, R406). -/
def Dev.supplyLow (d : Dev) : Dev :=
  if d.rbit .pwrStatus 27 then d
  else
    let d1 := (d.setRbit .pwrStatus 27 true).setRbit .pwrStatus 26 false
    let d2 := { d1 with pwr := { d1.pwr with steady := false, recovered := false, reversing := false } }
    if d2.pwr.top = 0 then d2.enterStage 1 else d2

/-- STEPUS after the last stage with the supply still low, the next one begins; stage 5 runs to its end first (15 R402). -/
def Dev.nextStage (d : Dev) : Dev :=
  if d.rbit .pwrStatus 27 && decide (d.pwr.top < 5) then d.enterStage (d.pwr.top + 1) else d

/-- Stage 5 is over (15 R405): stage 6 while the supply is low, or for heat (R410), else the stages are reversed from
stage 4. -/
def Dev.flushOver (d : Dev) : Dev :=
  let d1 := { d with pwr := { d.pwr with flush := 0, top := 4, reversing := d.pwr.steady } }
  if d1.rbit .pwrStatus 27 || d1.pwr.hot then d1.enterStage 6 else d1

/-- The final clutch has left TAKING, and the twin's PULLSEQ shows it in Split mode (15 R404). -/
def Dev.flushEnds (d : Dev) : Bool :=
  d.pwr.flush == 2 && d.rbit .pwrStatus 28 &&
  (match d.pwr.slot with
   | some k => d.slotSt k != 1 && (d.rbits .snpCtl 5 4 != 2 || d.snp.sawPull == d.reg (.slotClseq k))
   | none => false)

/-- FLUSHTMO has passed since stage 5 began (15 R404, R413); with no final clutch the slot state of the record is open. Where no
boundary has been decided COMMIT or SKIP the device is frozen all the same: order 6 of the next one is withheld (DESIGN CHOICE,
assumption log 47). -/
def Dev.flushTimeout (d : Dev) : Dev :=
  if d.pwr.flush = 0 then d
  else
    let det := match d.pwr.slot with | some k => d.regN (.slotState k) | none => d.free.toNat % 2 ^ 32
    ((((d.setRbit .pwrStatus 28 true).setRbit .pwrStatus 6 true).faultAt 0x0A04 (unitId 0 0) det).useFree 1).flushOver

/-- The supply is recovered: a dwell starts (15 R406). -/
def Dev.supplyUp (d : Dev) : Dev :=
  let d1 := { d.setRbit .pwrStatus 27 false with pwr := { d.pwr with recovered := true } }
  if d.pwr.recovered then d1 else d1.setRbit .pwrStatus 26 true

/-- The supply is neither below warning nor recovered: nothing more is shed, and a dwell is over (15 R400, R406). -/
def Dev.supplyBand (d : Dev) : Dev :=
  { (d.setRbit .pwrStatus 27 false).setRbit .pwrStatus 26 false with
    pwr := { d.pwr with recovered := false, steady := false } }

/-- The dwell ends: the stages entered are reversed, starting from the highest of stages 4 to 1 (15 R406). -/
def Dev.dwellEnd (d : Dev) : Dev :=
  if d.rbit .pwrStatus 26 then
    let d1 := d.setRbit .pwrStatus 26 false
    { d1 with pwr := { d1.pwr with steady := true, reversing := decide (1 ≤ d1.pwr.top ∧ d1.pwr.top ≤ 4) } }
  else d

/-- What the end of a stage's reversal does. -/
def Dev.stageUndo (d : Dev) (n : Nat) : Dev :=
  match n with
  | 4 => d.lulUnhold
  | 3 => (List.range 24).foldl (fun (e : Dev) p => if e.rbit .pwrThport p then e else e.setHalf p false) d
  | 2 => d.refreshClocks
  | _ => d

/-- The reversal of the stage in force is done; with stage 1 reversed, SAG reads 0 and REVERSED is set (15 R406, R413). -/
def Dev.reverseDone (d : Dev) : Dev :=
  let n := d.pwr.top
  if d.pwr.reversing && decide (1 ≤ n ∧ n ≤ 4) then
    let d1 := { d with pwr := { d.pwr with top := n - 1 } }.stageUndo n
    if n = 1 then
      let d2 := { d1 with pwr := { d1.pwr with reversing := false } }
      ((d2.setRbits .pwrStatus 31 29 0).setRbit .pwrStatus 5 true).faultAt 0x0A02 (unitId 0 0) (min 4 d.sag)
    else d1
  else d

/-- PWR_CMD WAKE (15 R405, R410). -/
def Dev.pwrWake (d : Dev) : Dev :=
  if d.sag = 6 && d.pwr.steady && !d.rbit .pwrStatus 27 && (!d.pwr.hot || decide (201 ≤ d.pwr.coolFor)) then
    let d1 := d.setRbits .pwrStatus 31 29 0
    { d1 with pwr := { d1.pwr with top := 0, hot := false, reversing := false } }.refreshClocks
  else d.pwrErr

/-! ### Sensors (15 R408 to R410, R412) -/

/-- A reading in 0.125 C as an integer. -/
def tempInt (r : W16) : Int := r.toInt

/-- TJMAX of the current mode in 0.125 C. -/
def Dev.tjmax (d : Dev) : Int := modeTjmax d.modeNow * 8

/-- T1 and T2 in 0.125 C (15 R409). -/
def Dev.thermalT (d : Dev) (n : Nat) : Int := d.tjmax - (if n = 1 then d.rbits .pwrThcfg 7 0 else d.rbits .pwrThcfg 15 8 : Nat) * 8

/-- HYST in 0.125 C. -/
def Dev.hyst (d : Dev) : Int := (d.rbits .pwrThcfg 31 24 : Nat) * 8

/-- TTRIP in 0.125 C (15 R409). -/
def Dev.ttrip (d : Dev) : Int := min (d.tjmax + (d.rbits .pwrThcfg 23 16 : Nat) * 8) 1000

/-- The unit ID of the unit that a sensor throttles. -/
def sensorUnit (s : Nat) : Nat := if s < 64 then unitId 2 s else if s < 100 then unitPort (s - 76) else unitId 10 (s - 100)

/-- Whether a sensor throttles a unit: an island, a port outside the twin bond, an LHP (15 R409). -/
def Dev.throttles (d : Dev) (s : Nat) : Bool :=
  decide (s < 64) || (decide (76 ≤ s ∧ s < 100) && !d.inBond (s - 76)) || s == 100 || s == 101

/-- The thermal step of a sensor. -/
def Dev.thermalStep (d : Dev) (s : Nat) : Nat := mapGet (fun _ => 0) d.pwr.steps s

/-- The device with a sensor's unit at thermal step `n`: the status registers, and what the step does. -/
def Dev.setThermalStep (d : Dev) (s n : Nat) : Dev :=
  let d1 := { d with pwr := { d.pwr with steps := mapSet (fun _ => 0) d.pwr.steps s n } }
  if s < 64 then ((d1.setRbit .pwrThl1 s (decide (1 ≤ n))).setRbit .pwrThl2 s (decide (2 ≤ n))).refreshClocks
  else if s < 100 then
    let d2 := d1.setRbit .pwrThport (s - 76) (decide (1 ≤ n))
    if 1 ≤ n then d2.setHalf (s - 76) true else if 3 ≤ d2.pwr.top then d2 else d2.setHalf (s - 76) false
  else
    let d2 := d1.setRbit .pwrThport (24 + (s - 100)) (decide (1 ≤ n))
    if 1 ≤ n then d2 else d2.lulUnhold

/-- The step that a reading asks for. -/
def Dev.wantedStep (d : Dev) (s : Nat) (r : Int) : Nat :=
  if s < 64 ∧ d.thermalT 2 ≤ r then 2 else if d.thermalT 1 ≤ r then 1 else 0

/-- A unit whose sensor has reached a threshold takes the step: THROT and a THROT record (15 R409, R413). -/
def Dev.throttle (d : Dev) (s : Nat) (r : W16) : Dev :=
  let n := d.wantedStep s (tempInt r)
  if d.throttles s && decide (d.thermalStep s < n) then
    ((d.setThermalStep s n).setRbit .pwrStatus 9 true).faultAt 0x0A05 (sensorUnit s) (s + r.toNat * 2 ^ 16 + n * 2 ^ 32)
  else d

/-- A sensor reaches TTRIP: the device stops at once (15 R410). -/
def Dev.thermalTrip (d : Dev) (s : Nat) (r : W16) : Dev :=
  let d1 := ((d.setRbits .pwrStatus 31 29 6).setRbit .pwrStatus 11 true).faultAt 0x0A07 (unitId 0 0) (s + r.toNat * 2 ^ 16)
  { d1 with pwr := { d1.pwr with top := 6, tripped := true, hot := true, flush := 0, reversing := false } }.stageSix

/-- A sensor reaches TJMAX: stage 5, then stage 6 (15 R410). -/
def Dev.thermalFreeze (d : Dev) (s : Nat) (r : W16) : Dev :=
  let d1 := (d.setRbit .pwrStatus 10 true).faultAt 0x0A06 (unitId 0 0) (s + r.toNat * 2 ^ 16)
  let d2 := { d1 with pwr := { d1.pwr with hot := true } }
  if d2.pwr.top < 5 then d2.enterStage 5 else d2

/-- One reading (15 R408 to R410). -/
def Dev.sensorRead (d : Dev) (s : Nat) (r : W16) : Dev :=
  let peak := (d.rbits (.pwrTemp s) 15 0)
  let peak1 := if 0 < tempInt r ∧ peak < r.toNat then r.toNat else peak
  let d1 := (d.setRegN (.pwrTemp s) (r.toNat * 2 ^ 16 + peak1)).throttle s r
  if d1.ttrip ≤ tempInt r then (if d1.pwr.tripped && d1.sag == 6 then d1 else d1.thermalTrip s r)
  else if d1.tjmax ≤ tempInt r then (if d1.pwr.hot then d1 else d1.thermalFreeze s r)
  else d1

/-- Readings of the sensors are taken in without any action (15 R408; 17 R437). -/
def Dev.takeTemps (d : Dev) (rs : List W16) : Dev :=
  ((List.range 111).zip rs).foldl (fun (e : Dev) p =>
    e.setRegN (.pwrTemp p.1) (p.2.toNat * 2 ^ 16 + (if 0 < tempInt p.2 then p.2.toNat else 0))) d

/-- The hottest of the readings that every sensor shows. -/
def Dev.hottest (d : Dev) : Int :=
  ((List.range 111).map (fun s => sext 16 (d.rbits (.pwrTemp s) 31 16))).foldl max (-32768)

/-- The Tj counters after a sample: PWR_TJACC in C.s, PWR_TJTIME in s (15 R412); the sum is cut to whole units downward
(DEDUCED, assumption log 27). -/
def Dev.tjCount (d : Dev) : Dev :=
  let x : Int := d.pwr.tjRest + d.hottest
  let acc := (d.reg .pwrTjacc).toInt + x / 80000
  let d1 := d.setReg .pwrTjacc (BitVec.ofInt 64 acc)
  let d2 := if d.pwr.tjCnt + 1 = 10000 then d1.setReg .pwrTjtime (d1.reg .pwrTjtime + 1) else d1
  { d2 with pwr := { d2.pwr with tjRest := (x % 80000).toNat, tjCnt := (d.pwr.tjCnt + 1) % 10000 } }

/-- SENSOR_SAMPLE: the readings of sensors 0 onwards. -/
def Dev.sensorSample (d : Dev) (rs : List W16) : Dev :=
  let d1 := (((List.range 111).zip rs).foldl (fun (e : Dev) p => e.sensorRead p.1 p.2) d).tjCount
  let cool := decide (d1.hottest ≤ d1.tjmax - d1.hyst)
  { d1 with pwr := { d1.pwr with coolFor := if cool then d1.pwr.coolFor + 1 else 0 } }

/-- A local thermal step reverses once its sensor has stayed at or below its threshold minus HYST (15 R410). -/
def Dev.stepReverse (d : Dev) (s : Nat) : Dev :=
  let n := d.thermalStep s
  if n ≠ 0 ∧ sext 16 (d.rbits (.pwrTemp s) 31 16) ≤ d.thermalT n - d.hyst then d.setThermalStep s (n - 1) else d

/-- A write of PWR_SAGCFG or PWR_THCFG: a value out of range is ignored and sets CFGERR. -/
def Dev.pwrCfgWrite (d : Dev) (r : Reg) (v : W64) : Dev :=
  let ok := match r with
    | .pwrSagcfg => decide (10 ≤ bits v 15 0 ∧ bits v 15 0 ≤ 10000)
    | .pwrThcfg =>
      decide (bits v 15 8 < bits v 7 0 ∧ 1 ≤ bits v 15 8 ∧ 1 ≤ bits v 31 24 ∧ bits v 31 24 ≤ 20 ∧
        1 ≤ bits v 23 16 ∧ bits v 23 16 ≤ 20)
    | _ => true
  if ok then d.setReg r (v &&& BitVec.ofNat 64 r.rwMask) else d.pwrErr

/-! ### Rows of the table -/

/-- THERMAL_STEP_REVERSE (15 R410). -/
def execThermalStepReverse (sensor : BitVec 7) (s : State) : Host.Outcome State Fault Refusal :=
  s.run (fun d => d.stepReverse sensor.toNat)

/-- AUTOTOMY_STAGE (15 R402). -/
def execAutotomyStage (s : State) : Host.Outcome State Fault Refusal := s.run (fun d => d.nextStage)

/-- FLUSH_END (15 R404, R405). -/
def execFlushEnd (s : State) : Host.Outcome State Fault Refusal :=
  s.run (fun d => if d.flushEnds then d.flushOver else d)

/-- FLUSH_TIMEOUT (15 R404). -/
def execFlushTimeout (s : State) : Host.Outcome State Fault Refusal := s.run (fun d => d.flushTimeout)

/-- RECOVERY_DWELL_END (15 R406). -/
def execRecoveryDwellEnd (s : State) : Host.Outcome State Fault Refusal := s.run (fun d => d.dwellEnd)

/-- STAGE_REVERSE_DONE (15 R406). -/
def execStageReverseDone (s : State) : Host.Outcome State Fault Refusal := s.run (fun d => d.reverseDone)

end Sys2Proof.Machine
end

