-- ==== Sys2Proof/Machine/Words.lean ====
section
/-! DEFINITION. The fields of engine words (07 R188 to R192, Tables 7.4 to 7.9): where each operand of each command
lies, and what the values of its type may be. -/

namespace Sys2Proof.Machine

/-- The type of an operand field, as far as decoding checks it (07 Table 7.5, R190, R195). -/
inductive FieldKind where
  /-- Any value. -/
  | any
  /-- A format code: 6 and 7 are reserved. -/
  | fmt
  /-- A rounding mode: 2 and 3 are reserved. -/
  | rnd
  /-- MTURN's rounding mode, which A1C mode ignores. -/
  | rndTurn
  /-- A TR field. -/
  | tr
  /-- A PM field. -/
  | pm
  /-- A TB field of a command that A1C mode refuses for it. -/
  | tb
  /-- An enumerated field whose values above the bound are reserved. -/
  | upTo (n : Nat)
  deriving DecidableEq, Repr

/-- A field: width and type. -/
abbrev Field := Nat × FieldKind

/-- The engine number of an engine word: ENG - 1 (07 R188). -/
def engOf (w : W64) : Nat := bits w 63 61 - 1

/-- The OP field. -/
def opOf (w : W64) : Nat := bits w 60 56

/-- The operand fields of a command, from bit 32 downwards, and `none` for an OP that the tables do not list. -/
def engFields (eng op : Nat) : Option (List Field) :=
  match eng, op with
  | 0, 0x00 => some [(1, .any), (2, .any), (3, .fmt), (2, .any), (4, .any)]
  | 0, 0x01 => some [(1, .any)]
  | 0, 0x02 => some [(2, .any), (1, .any), (3, .fmt), (2, .any), (1, .any), (1, .any), (3, .any), (4, .any), (5, .any)]
  | 0, 0x03 => some [(2, .any), (3, .fmt), (3, .fmt), (2, .any), (2, .any), (1, .any), (3, .any), (4, .any), (4, .any), (5, .any)]
  | 0, 0x04 => some [(2, .any)]
  | 0, 0x05 => some [(3, .fmt), (3, .fmt), (2, .any), (2, .rndTurn), (4, .any), (4, .any), (5, .any)]
  | 1, 0x00 => some [(6, .tr), (3, .fmt), (1, .any), (4, .any), (5, .any)]
  | 1, 0x01 => some [(5, .any), (5, .any)]
  | 1, 0x02 => some [(6, .tr), (3, .fmt), (1, .any), (2, .rnd), (4, .any), (5, .any), (5, .any)]
  | 1, 0x03 => some [(3, .upTo 3), (6, .tr), (6, .tr), (5, .any), (6, .pm), (1, .any), (5, .any)]
  | 1, 0x04 => some [(3, .upTo 4), (6, .tr), (6, .tr), (6, .tr), (6, .pm), (1, .any), (5, .any)]
  | 1, 0x05 => some [(2, .any), (3, .any), (6, .tr), (6, .tr), (6, .pm), (5, .any)]
  | 1, 0x06 => some [(2, .any), (3, .any), (3, .any), (3, .any)]
  | 1, 0x07 => some [(3, .any), (5, .any)]
  | 1, 0x08 => some [(5, .any), (5, .any), (5, .any), (3, .any), (5, .any)]
  | 1, 0x09 => some [(3, .upTo 5), (6, .tr), (6, .tr), (6, .pm), (1, .any), (5, .any)]
  | 1, 0x0A => some [(6, .tr), (6, .tr), (3, .any), (5, .any), (6, .pm), (1, .any), (5, .any)]
  | 1, 0x0B => some [(2, .any), (2, .upTo 2), (3, .fmt), (4, .any), (1, .any), (5, .any), (1, .any), (2, .any), (5, .any)]
  | 1, 0x0C => some [(6, .tr)]
  | 2, 0x00 | 2, 0x01 | 2, 0x02 | 2, 0x03 =>
    some [(1, .any), (6, .any), (3, .fmt), (1, .any), (1, .any), (5, .any), (1, .any), (6, .pm), (5, .any)]
  | 2, 0x04 => some [(2, .upTo 2), (2, .tb), (2, .tb), (5, .any), (5, .any)]
  | 2, 0x05 => some [(3, .fmt), (7, .any), (4, .any), (5, .any), (5, .any)]
  | 2, 0x06 => some [(2, .upTo 2), (5, .any), (4, .any), (3, .any), (3, .fmt)]
  | 2, 0x07 => some [(3, .any), (5, .any)]
  | 2, 0x08 => some [(3, .any)]
  | 3, 0x00 => some [(3, .any), (5, .any)]
  | 3, 0x01 | 3, 0x02 => some [(3, .any), (5, .any), (4, .any), (1, .any)]
  | 3, 0x03 => some [(2, .upTo 2), (3, .any), (5, .any), (4, .any), (1, .any), (2, .rnd), (1, .any), (1, .any), (5, .any)]
  | 3, 0x04 => some [(2, .upTo 2), (3, .any), (5, .any), (4, .any), (1, .any), (2, .rnd), (1, .any), (5, .any)]
  | 3, 0x05 | 3, 0x06 => some [(3, .any), (5, .any), (4, .any), (1, .any)]
  | 3, 0x07 => some [(1, .any), (1, .any), (5, .any), (4, .any)]
  | 3, 0x08 => some [(1, .any), (1, .any), (5, .any), (5, .any)]
  | 3, 0x09 => some [(1, .any), (3, .fmt), (4, .any), (4, .any), (5, .any)]
  | 3, 0x0A => some [(1, .any), (5, .any), (5, .any)]
  | 4, 0x00 => some [(5, .any)]
  | _, _ => none

/-- The fields of VEPI's EXT word, from bit 60 downwards (07 R192). -/
def extFields : List Field := [(3, .fmt), (1, .any), (4, .any), (1, .any), (2, .rnd), (5, .any)]

/-- The values of fields packed downwards, the first ending at bit `hi`. -/
def fieldVals (w : W64) : Nat → List Field → List Nat
  | _, [] => []
  | hi, (n, _) :: fs => (w.toNat >>> (hi + 1 - n)) % 2 ^ n :: fieldVals w (hi - n) fs

/-- The lowest bit that the fields take. -/
def fieldsEnd (hi : Nat) (fs : List Field) : Nat := hi + 1 - (fs.map Prod.fst).sum

/-- The operand values of an engine word. -/
def operands (w : W64) : List Nat := fieldVals w 32 ((engFields (engOf w) (opOf w)).getD [])

/-- Operand `i` of an engine word, counted in the table's order. -/
def opnd (w : W64) (i : Nat) : Nat := (operands w).getD i 0

/-- Operand `i` of VEPI's EXT word. -/
def extOpnd (w : W64) (i : Nat) : Nat := (fieldVals w 60 extFields).getD i 0

/-- The scalar register a command read at issue, the number taken modulo 32 (04 R111, 07 R189). -/
def Cmd.sreg (c : Cmd) (n : Nat) : W64 := mapGet (fun _ => 0) c.s (n % 32)

/-- The low 48 bits of a scalar register, as a DPA. -/
def Cmd.dpa (c : Cmd) (n : Nat) : Nat := (c.sreg n).toNat % 2 ^ 48

/-- Whether a command has a start condition, its token and its threshold (07 Table 7.4). -/
def Cmd.start (c : Cmd) : Option (Nat × W32) :=
  if bit c.word 46 then
    some ((if c.a1c then 192 + bits c.word 45 38 % 64 else bits c.word 45 38), (c.sreg (bits c.word 37 33)).setWidth 32)
  else none

/-- The token a command bumps, if any (03 R73; 03 R84). -/
def Cmd.bumpTok (c : Cmd) : Option Nat :=
  if bit c.word 47 then some (if c.a1c then 192 + bits c.word 55 48 % 64 else bits c.word 55 48) else none

/-- Whether the wait on a token value with a threshold holds (03 R74). -/
def waitHolds (tok v : W32) : Bool := decide ((tok - v).toNat < 2 ^ 31)

end Sys2Proof.Machine
end

