-- ==== Sys2Proof/Machine/Contexts.lean ====
section
/-! DEFINITION. Contexts, queues, leases and gates of a core (03 R54 to R83; 07 R182; 14 R369): context commands, the
CTX window, the queue registers, inter-core transfers, lease moves and the evaluation of gates. -/

namespace Sys2Proof.Machine

/-! ### Queues (03 R65 to R72) -/

/-- The class of a local queue (03 Table 3.4): 0 engine command, 1 inter-core inbound, 2 outbound, 3 fabric send,
4 fabric receive, 5 completion and error, 6 general. -/
def queueClass (q : Nat) : Nat :=
  if q < 20 then 0 else if q < 28 then 1 else if q < 36 then 2 else if q < 44 then 3 else if q < 52 then 4
  else if q < 60 then 5 else 6

/-- The class that a peer must have (03 R71); none where there is no peer. -/
def peerClass (q : Nat) : Option Nat :=
  match queueClass q with
  | 1 => some 2
  | 2 => some 1
  | 3 => some 4
  | 4 => some 3
  | _ => none

/-- Whether queue `q` is enabled. -/
def Dev.queueOn (d : Dev) (c q : Nat) : Bool := d.rbit (.qcfg c q) 31

/-- The FIFO of an engine command queue. -/
def Core.queue (k : Core) (q : Nat) : List Cmd := mapGet (fun _ => []) k.fifo q

/-- The core with that FIFO replaced. -/
def Core.setQueue (k : Core) (q : Nat) (l : List Cmd) : Core := { k with fifo := mapSet (fun _ => []) k.fifo q l }

/-- The running command of a queue. -/
def Core.run (k : Core) (q : Nat) : Option Run := mapGet (fun _ => none) k.running q

/-- The core with the running command of a queue replaced. -/
def Core.setRun (k : Core) (q : Nat) (r : Option Run) : Core :=
  { k with running := mapSet (fun _ => none) k.running q r }

/-- The running commands of a queue in the order in which they started (04 R106; 05 R140). -/
def Core.runs (k : Core) (q : Nat) : List Run :=
  match k.run q with
  | none => []
  | some r => r :: mapGet (fun _ => []) k.later q

/-- The core with the running commands of a queue replaced. -/
def Core.setRuns (k : Core) (q : Nat) (rs : List Run) : Core :=
  { k.setRun q rs.head? with later := mapSet (fun _ => []) k.later q (rs.drop 1) }

/-- Whether a running command of a queue meets a test. -/
def Core.anyRun (k : Core) (q : Nat) (p : Run → Bool) : Bool := (k.runs q).any p

/-- Every running command of the core. -/
def Core.allRuns (k : Core) : List Run := (List.range 20).flatMap k.runs

/-- The pushes to queue `q`, or the pops from it, of the core's contexts that are still to complete. -/
def Core.inFlight (k : Core) (q : Nat) (pushes : Bool) : Nat :=
  k.ctxs.foldl (fun n e => n + (e.2.acc.filter (fun a => match a with
    | .push p _ _ _ _ _ => pushes && p == q
    | .pop p _ _ _ _ => !pushes && p == q
    | _ => false)).length) 0

/-- Whether the ring has room for one more push, those in flight counted (DEDUCED, assumption log 12). -/
def Dev.roomToPush (d : Dev) (c q : Nat) : Bool :=
  decide (d.ringFill c q + (d.core c).inFlight q true < d.ringSize c q)

/-- Whether the ring has an entry for one more pop, those in flight counted (DEDUCED, assumption log 12). -/
def Dev.entryToPop (d : Dev) (c q : Nat) : Bool := decide ((d.core c).inFlight q false < d.ringFill c q)

/-- The ring entry that the next push writes. -/
def Dev.pushEntry (d : Dev) (c q : Nat) : Nat :=
  d.ringEntry c q ((d.ringTail c q + (d.core c).inFlight q true) % d.ringSize c q)

/-- The ring entry that the next pop reads. -/
def Dev.popEntry (d : Dev) (c q : Nat) : Nat :=
  d.ringEntry c q ((d.ringHead c q + (d.core c).inFlight q false) % d.ringSize c q)

/-- What a binding is used for: a push, a pop, or a command of engine `e`. -/
inductive QUse where
  | push
  | pop
  | engine (e : Nat)
  deriving DecidableEq, Repr

/-- Whether the use may reach a queue (03 R68; 07 R188). -/
def QUse.reaches (u : QUse) (q : Nat) : Bool :=
  match u with
  | .push => [2, 3, 6].contains (queueClass q)
  | .pop => [1, 4, 5, 6].contains (queueClass q)
  | .engine e => q / 4 == e

/-- The DETAIL of the QCLASS exception that a use of binding `n` raises, if it raises one (03 Table 3.7, R68; 07 R186):
cause 2 a binding number not allowed, 1 invalid, 3 outside the class, 4 disabled. -/
def Dev.queueFail (d : Dev) (c x n : Nat) (u : QUse) : Option Nat :=
  let b := (d.ctx c x).binding n
  let q := bits b 5 0
  let det := fun cause => cause * 2 ^ 16 + q * 2 ^ 8 + n
  let numbered := match u with | .engine _ => false | _ => decide (n < 6)
  if numbered then some (det 2)
  else if !bit b 6 then some (det 1)
  else if !u.reaches q then some (det 3)
  else if !d.queueOn c q then some (det 4)
  else none

/-- The local queue a binding names. -/
def Dev.boundQueue (d : Dev) (c x n : Nat) : Nat := bits ((d.ctx c x).binding n) 5 0

/-- QBASE may be written while EN = 0; DEV exists only for fabric queues; queues 0 to 19 have none (03 R71). -/
def Dev.qbaseWrite (d : Dev) (c q : Nat) (v : W64) : Dev :=
  if q < 20 || d.queueOn c q then d
  else
    let m : W64 := if queueClass q = 3 ∨ queueClass q = 4 then 0x01FFFFFFFFFFFFC0#64 else 0xFFFFFFFFFFC0#64
    d.setReg (.qbase c q) (v &&& m)

/-- Whether a QCFG value may set EN (03 R71). -/
def Dev.qcfgOk (d : Dev) (c q : Nat) (v : W32) : Bool :=
  decide (1 ≤ bits v 3 0 ∧ bits v 3 0 ≤ 12) &&
  (match peerClass q with
   | some k => queueClass (bits v 13 8) == k
   | none => true) &&
  (!(queueClass q == 3 || queueClass q == 4) || d.rbits (.qbase c q) 56 48 != d.me)

/-- Transfers between outbound queue `q` and its peer resume (03 R69). -/
def Core.resume (k : Core) (q : Nat) : Core := { k with stopped := mapSet (fun _ => false) k.stopped q false }

/-- Every outbound queue whose PEER is inbound queue `q` of core `c` resumes. -/
def Dev.resumePeers (d : Dev) (c q : Nat) : Dev :=
  let cores := d.cores.map (fun e =>
    (e.1, (List.range 8).foldl (fun k i =>
      if d.rbits (.qcfg e.1 (28 + i)) 22 8 = c * 64 + q then k.resume (28 + i) else k) e.2))
  { d with cores := cores.filter (fun e => e.2 ≠ {}) }

/-- A write of QCFG[q] (03 R71). Of queues 0 to 19 it stores EN alone: LOG2N and PEER, which have no effect there, keep their
value (DESIGN CHOICE, assumption log 52). -/
def Dev.qcfgWrite (d : Dev) (c q : Nat) (v : W32) : Dev :=
  let w : W64 := (v &&& 0x807FFF0F#32).setWidth 64
  let old := d.reg (.qcfg c q)
  if q < 20 then d.setReg (.qcfg c q) (setBit old 31 (bit v 31))
  else if bit old 31 then
    if bit v 31 then d
    else
      let d1 := d.setReg (.qcfg c q) (setBit old 31 false)
      d1.setRbits (.qptr c q) 29 0 0
  else if bit v 31 then
    if d.qcfgOk c q v then
      let d1 := d.setReg (.qcfg c q) w
      if queueClass q = 2 ∨ queueClass q = 3 then d1.onCore c (fun k => k.resume q)
      else if queueClass q = 1 then d1.resumePeers c q else d1
    else (d.setReg (.qcfg c q) (setBit w 31 false)).setRbit (.seqStatus c) 0 true
  else d.setReg (.qcfg c q) w

/-- The positions of a 64-byte entry whose parity is wrong. -/
def Dev.badIn (d : Dev) (a n : Nat) : List Nat := (List.range n).filter (fun i => d.badAt (a + i) 1)

/-- Bytes are written with the parity of the bytes they come from (08 R200). -/
def Dev.writeMarked (d : Dev) (a : Nat) (bs : List Byte) (bad : List Nat) : Dev :=
  let d1 := d.writeAt a bs
  if d1.waitingWrites.length ≤ d.waitingWrites.length then
    { d1 with badPar := bad.foldl (fun m i => mapSet (fun _ => false) m (d1.physOf (a + i)) true) d1.badPar }
  else d1

/-- The device moves the head entry of outbound queue `q` of core `c` into its peer (03 R69). An entry that its peer does
not take for its PEER is discarded at once, with room in the peer's ring or without (DESIGN CHOICE, assumption log 52). -/
def Dev.intercore (d : Dev) (c q : Nat) : Dev :=
  if queueClass q ≠ 2 || !d.queueOn c q || mapGet (fun _ => false) (d.core c).stopped q || d.ringFill c q = 0 then d
  else
    let peer := d.rbits (.qcfg c q) 22 8
    let c2 := peer / 64
    let q2 := peer % 64
    if !d.queueOn c2 q2 then d
    else if d.rbits (.qcfg c2 q2) 22 8 ≠ c * 64 + q then
      (d.ringPop c q).faultAt 0x0204 (unitCore c2) peer
    else if d.ringFull c2 q2 then d
    else
      let src := d.ringEntry c q (d.ringHead c q)
      let dst := d.ringEntry c2 q2 (d.ringTail c2 q2)
      let stop := fun (u a : Nat) =>
        (d.onCore c (fun k => { k with stopped := mapSet (fun _ => false) k.stopped q true })).faultAt 0x0205 (unitCore u) a
      if !d.memOk src 64 then stop c src
      else if !d.memOk dst 64 then stop c2 dst
      else (((d.readServed src 64).writeMarked dst (d.bytesAt src 64) (d.badIn src 64)).ringPop c q).ringPush c2 q2

/-! ### Leases (03 R78 to R80) -/

/-- The leased unit that an engine command of queue `q` works on (03 R78). -/
def unitOfQueue (q : Nat) : Option Nat :=
  match q / 4 with
  | 0 => some 0
  | 1 => some 1
  | 2 => some 1
  | 3 => some 3
  | _ => none

/-- The base of the context's lease save area. -/
def Ctx.saveArea (k : Ctx) : Nat := bits k.lsave 47 12 * 4096

/-- Whether the area lies in the core's own CLM or in its cluster's CSM (03 R80). -/
def saveAreaOk (c a : Nat) : Bool :=
  decide (a ≠ 0) &&
  (decide (0xF000000000 + c * 0x200000 ≤ a ∧ a + 0x2D000 ≤ 0xF000000000 + c * 0x200000 + 0x180000) ||
   decide (0xF100000000 + c / 8 * 0x400000 ≤ a ∧ a + 0x2D000 ≤ 0xF100000000 + (c / 8 + 1) * 0x400000))

/-- Offset and length of a unit's part of the area (03 R80). -/
def savePart (u : Nat) : Nat × Nat :=
  if u = 0 then (0, 100 * 1024) else if u = 1 then (0x19000, 76 * 1024) else (0x2C000, 4 * 1024)

/-- The state of a unit as a save holds it: AC0 to AC3 for the MXE; TB, V, P and RA for the VXE; T0 to T7 for the GSE
(04 R108; 05 R142; 06 R171), and the parity marks of its elements (08 R200). -/
def Core.unitState (k : Core) (u base : Nat) : Saved :=
  if u = 0 then { base := base, ac := k.mxe.ac, badAc := k.mxe.badAc }
  else if u = 1 then
    { base := base, rows := k.vxe.rows, p := k.vxe.p, ra := k.vxe.ra, badRow := k.vxe.badRow, badP := k.vxe.badP,
      badRa := k.vxe.badRa }
  else { base := base, tabs := k.gse.tabs }

/-- The unit takes a saved state. -/
def Core.loadState (k : Core) (u : Nat) (v : Saved) : Core :=
  if u = 0 then { k with mxe := { k.mxe with ac := v.ac, badAc := v.badAc } }
  else if u = 1 then
    { k with vxe := { rows := v.rows, p := v.p, ra := v.ra, badRow := v.badRow, badP := v.badP, badRa := v.badRa } }
  else { k with gse := { k.gse with tabs := v.tabs } }

/-- The saved state of a context's last tenure of a unit, where its area holds one. -/
def Core.savedOf (k : Core) (x u : Nat) : Option Saved :=
  match mapGet (fun _ => none) k.saved (x * 4 + u) with
  | some v => if v.base = (k.ctx x).saveArea then some v else none
  | none => none

/-- Unit `u` is leased to context `x`, with the state saved from its last tenure (03 R79); without saved slots the GSE's
are not loaded (06 R148). -/
def Core.grant (k : Core) (u x : Nat) : Core :=
  let l := k.lease u
  let k1 := k.setLease u { owner := some x, released := false, waiters := l.waiters.filter (· ≠ x) }
  let c := k1.ctx x
  let k2 := k1.setCtx x { c with cstatus := setBit c.cstatus (leaseBit u) true }
  match k.savedOf x u with
  | some v => { k2.loadState u v with saved := mapSet (fun _ => none) k2.saved (x * 4 + u) none }
  | none => if u = 3 then { k2 with gse := { k2.gse with tabs := [] } } else k2

/-- The waiting requester to serve: by PRIO, then in the order in which they asked (03 R79). -/
def Core.firstWaiter (k : Core) (ws : List Nat) : Option Nat :=
  ws.foldl (fun best x =>
    match best with
    | none => some x
    | some y => if (k.ctx y).prio < (k.ctx x).prio then some x else some y) none

/-- The requesters of a unit that wait now. -/
def Core.waiting (k : Core) (u : Nat) : List Nat := (k.lease u).waiters.filter (fun x => (k.ctx x).state = 3)

/-- Context `x` asks for the lease of `u`: whether it holds it now, and the core after (03 R79). -/
def Core.askLease (k : Core) (u x : Nat) : Bool × Core :=
  let l := k.lease u
  let join := if l.waiters.contains x then l.waiters else l.waiters ++ [x]
  match l.owner with
  | some y =>
    if y = x then
      if l.released then
        let c := k.ctx x
        (true, (k.setLease u { l with released := false }).setCtx x
          { c with cstatus := setBit c.cstatus (leaseBit u) true })
      else (true, k)
    else (false, k.setLease u { l with waiters := join })
  | none =>
    if k.firstWaiter (join.filter (fun y => y = x ∨ (k.ctx y).state = 3)) = some x then (true, k.grant u x)
    else (false, k.setLease u { l with waiters := join })

/-- RELEASE of unit `u` by context `x`, where it holds the lease (03 R79). -/
def Core.release (k : Core) (u x : Nat) : Core :=
  let l := k.lease u
  if l.owner = some x then
    let c := k.ctx x
    (k.setLease u { l with released := true }).setCtx x { c with cstatus := setBit c.cstatus (leaseBit u) false }
  else k

/-- The leases of context `x` become free, and its requests are withdrawn (03 R57; 14 R369). -/
def Core.dropLeases (k : Core) (x : Nat) : Core :=
  let k1 := leaseUnits.foldl (fun e u =>
    let l := e.lease u
    let o := if l.owner = some x then none else l.owner
    e.setLease u { owner := o, released := l.released && o.isSome, waiters := l.waiters.filter (· ≠ x) }) k
  let c := k1.ctx x
  k1.setCtx x { c with cstatus := c.cstatus &&& ~~~(BitVec.ofNat 64 0x1C00) }

/-- Whether context `x` has a command queued or running on unit `u`. -/
def Core.busyOn (k : Core) (u x : Nat) : Bool :=
  (List.range 20).any (fun q => unitOfQueue q == some u &&
    ((k.queue q).any (fun c => c.ctx == x) || k.anyRun q (fun r => r.cmd.ctx == x)))

/-- The bytes of a save area after a save: the layout is not architectural, so they are free values (assumption
log 6). -/
def freeBytes (ctr n : Nat) : List Byte :=
  (List.range n).map (fun i => (Config.freeWord (ctr + i / 8) >>> (8 * (i % 8))).setWidth 8)

/-- A LEASE exception of a lease move, charged to no slot. -/
def Dev.leaseExc (d : Dev) (c x u : Nat) : Dev :=
  d.raiseExc c x (d.ctx c x).pc { code := 6, detail := u }

/-- A holder whose area has failed keeps its lease: it is released no more (03 R80). -/
def Core.keepLease (k : Core) (u x : Nat) : Core :=
  let c := k.ctx x
  (k.setLease u { k.lease u with released := false }).setCtx x { c with cstatus := setBit c.cstatus (leaseBit u) true }

/-- The device moves the lease of unit `u` from a holder that has released it or is halted to the first requester
(03 R79, R80; 04 R108); a FAULTED holder keeps it, unless it runs in A1C mode, where faulting gives it up (03 R84). The
requester's area is needed, and checked, only where it holds a state to restore (DEDUCED, assumption log 52). -/
def Dev.leaseMove (d : Dev) (c u : Nat) : Dev :=
  let k := d.core c
  let l := k.lease u
  match l.owner, k.firstWaiter (k.waiting u) with
  | some y, some x =>
    if x = y || ((k.ctx y).state == 4 && !(k.ctx y).a1c) || !(l.released || (k.ctx y).state == 1) || k.busyOn u y ||
        !leaseUnits.contains u then d
    else
      let hOk := saveAreaOk c (k.ctx y).saveArea
      let rOk := (mapGet (fun _ => none) k.saved (x * 4 + u)).isNone || saveAreaOk c (k.ctx x).saveArea
      if hOk && rOk then
        let a := (k.ctx y).saveArea
        let k1 := { k with saved := mapSet (fun _ => none) k.saved (y * 4 + u) (some (k.unitState u a)) }
        let cy := k1.ctx y
        let k2 := k1.setCtx y { cy with cstatus := setBit cy.cstatus (leaseBit u) false }
        let k3 := if u = 0 then { k2 with mxe := { k2.mxe with wb := [], badWb := [] } } else k2
        let part := savePart u
        let d1 := (d.setCore c (k3.grant u x)).count (c * 8) 4 1
        (d1.writeAt (a + part.1) (freeBytes d1.freeCtr part.2)).useFree (part.2 / 8)
      else
        let d1 := if rOk then d else
          (d.onCore c (fun e => e.setLease u { (e.lease u) with waiters := (e.lease u).waiters.filter (· ≠ x) })).leaseExc c x u
        if hOk then d1 else (d1.leaseExc c y u).onCore c (fun e => e.keepLease u y)
  | _, _ => d

/-! ### Gates (07 R182) -/

/-- Whether core `c` runs: its die is out of reset and clocked, its cluster is not lost, and no substitution of it is in
progress (14 R375). -/
def Dev.coreRuns (d : Dev) (c : Nat) : Bool :=
  d.dieUp (c / 128) && !d.clocksStopped && !d.rbit .fltCllost (c / 8) && !d.flt.subs.any (fun s => s.core == c)

/-- The WAIT word that a shut gate records (03 Table 3.3). -/
def Gate.word (g : Gate) : W64 :=
  match g with
  | .token t v => BitVec.ofNat 64 (v.toNat * 2 ^ 32 + t * 2 ^ 8 + 1)
  | .push _ => 2
  | .pop _ => 3
  | .lease _ => 4
  | .room _ _ _ _ => 5
  | .a1bar => 6

/-- Whether the context has an engine command queued or running (07 R195, A1BAR). -/
def Core.hasWork (k : Core) (x : Nat) : Bool :=
  (List.range 20).any (fun q =>
    (k.queue q).any (fun c => c.ctx == x) || k.anyRun q (fun r => r.cmd.ctx == x))

/-- Whether a gate of context `x` is open, and the device after: a lease that is free is taken. -/
def Dev.tryGate (d : Dev) (c x : Nat) (g : Gate) : Bool × Dev :=
  match g with
  | .token t v => (waitHolds ((d.reg (.token c t)).setWidth 32) v, d)
  | .lease u =>
    let r := (d.core c).askLease u x
    (r.1, d.setCore c r.2)
  | .a1bar => (!(d.core c).hasWork x, d)
  | .push n => (d.roomToPush c (d.boundQueue c x n), d)
  | .pop n => (d.entryToPop c (d.boundQueue c x n), d)
  | .room _ n k _ => (decide (((d.core c).queue (d.boundQueue c x n)).length + k ≤ 32), d)

/-- The first shut gate of a list in order, if any, and the device after. -/
def Dev.tryGates (d : Dev) (c x : Nat) : List Gate → Option Gate × Dev
  | [] => (none, d)
  | g :: gs =>
    let r := d.tryGate c x g
    if r.1 then r.2.tryGates c x gs else (some g, r.2)

/-- The context waits with a list of gates, of which `g` is the first shut one. -/
def Dev.waitOn (d : Dev) (c x : Nat) (gs : List Gate) (g : Gate) : Dev :=
  let k := d.ctx c x
  let d1 := d.setCtx c x { k.setState 3 with wait := g.word, gated := gs }
  match g with
  | .token _ _ => d1.count (c * 8) 6 1
  | _ => d1

/-- The QCLASS exception that a gate's queue raises at this evaluation, if any (03 R68). -/
def Dev.gateFail (d : Dev) (c x : Nat) (g : Gate) : Option Exc :=
  match g with
  | .push n => (d.queueFail c x n .push).map (fun t => { code := 5, slot := 1, detail := t })
  | .pop n => (d.queueFail c x n .pop).map (fun t => { code := 5, slot := 1, detail := t })
  | .room s n _ w => (d.queueFail c x n (.engine n)).map (fun t => { code := 5, slot := s, unit := n, detail := t, cmd := w })
  | _ => none

/-- A WAITING context's gates are evaluated again (03 R56, R68; 07 R182). -/
def Dev.reevaluate (d : Dev) (c x : Nat) : Dev :=
  let k := d.ctx c x
  if k.state ≠ 3 || !d.coreRuns c then d
  else
    match k.gated.findSome? (d.gateFail c x) with
    | some e => d.raiseExc c x k.pc e
    | none =>
      match d.tryGates c x k.gated with
      | (none, d1) => d1.onCtx c x (fun e => { e.setState 2 with wait := 0, gated := [] })
      | (some g, d1) => d1.onCtx c x (fun e => { e with wait := g.word })

/-! ### Context commands (03 R57) -/

/-- The context halts by its own HALT operation (03 R57, R58). -/
def Dev.haltSelf (d : Dev) (c x : Nat) : Dev :=
  let k := d.ctx c x
  let d1 := (d.setCtx c x (k.setState 1)).setRbit (.seqIntstat c) 1 true
  if k.a1c then d1.onCore c (fun e => e.releaseAll x) else d1

/-- A rejected command (03 R57). -/
def Dev.cmdRej (d : Dev) (c : Nat) : Dev := d.setRbit (.seqStatus c) 0 true

/-- Zero groups in a TB or V register that a stopped command would have written (05 R142). -/
def Core.zeroTr (k : Core) (tr : Nat) : Core :=
  let dead := fun i => if tr < 32 then decide (i / 64 = tr % 4 ∧ i < 256) else decide (i = 256 + tr % 32)
  let bad := mapDrop (fun i => dead (i / 64)) k.vxe.badRow
  { k with vxe := { k.vxe with rows := mapDrop dead k.vxe.rows, badRow := bad } }

/-- The tile buffers that a soft maximum spans become zero groups (05 R128, R142). -/
def Core.zeroTrs (k : Core) (tr span : Nat) : Core :=
  if 32 ≤ tr then k.zeroTr tr
  else (List.range (min span (4 - tr % 4))).foldl (fun (e : Core) i => e.zeroTr (tr + i)) k

/-- A predicate becomes 0. -/
def Core.zeroP (k : Core) (p : Nat) : Core :=
  let bad := mapSet (fun _ => false) k.vxe.badP p false
  { k with vxe := { k.vxe with p := mapSet (fun _ => 0) k.vxe.p p 0, badP := bad } }

/-- A partial becomes s = 0 with X = 0. -/
def Core.zeroRa (k : Core) (r : Nat) : Core :=
  let bad := mapSet (fun _ => false) k.vxe.badRa r false
  { k with vxe := { k.vxe with ra := mapSet (fun _ => {}) k.vxe.ra r {}, badRa := bad } }

/-- An accumulator tile becomes all zeros with T = 0. -/
def Core.zeroAc (k : Core) (n : Nat) : Core :=
  { k with mxe := { k.mxe with ac := mapSet (fun _ => {}) k.mxe.ac n {},
                               badAc := mapDrop (fun i => decide (i / 4096 = n)) k.mxe.badAc } }

/-- A weight buffer becomes invalid. -/
def Core.dropWb (k : Core) (n : Nat) : Core :=
  { k with mxe := { k.mxe with wb := mapSet (fun _ => {}) k.mxe.wb n {},
                               badWb := mapDrop (fun i => decide (i / 8192 = n)) k.mxe.badWb } }

/-- Weight buffer `n`. -/
def Core.weightBuf (k : Core) (n : Nat) : WeightBuf := mapGet (fun _ => {}) k.mxe.wb n

/-- The accumulators that an MXE command writes: an int4 product takes two (04 R90). -/
def Core.writesAcs (k : Core) (w : W64) : List Nat :=
  if engOf w = 0 ∧ opOf w = 2 then
    let b := k.weightBuf (opnd w 1)
    if b.valid && b.mode == 0 then [opnd w 0, opnd w 0 + 1] else [opnd w 0]
  else if engOf w = 0 ∧ (opOf w = 3 ∨ opOf w = 4) then [opnd w 0]
  else []

/-- The remote reads of a GSE queue's command of context `x` that have no answer yet are kept as those of a stopped command,
which the context's reset waits for (06 R171). -/
def Core.stopReads (k : Core) (q x : Nat) : Core :=
  let open_ := (mapGet (fun _ => []) k.gse.reads q).filter (fun r => r.answer.isNone)
  { k with gse := { k.gse with stopped := k.gse.stopped ++ open_.map (fun r => (x, r)) } }

/-- The remote reads and filed rows of a GSE queue's command are discarded. -/
def Core.clearReads (k : Core) (q : Nat) : Core :=
  let rows := mapDrop (fun i => decide (i / 2 ^ 32 = q)) k.gse.rows
  let plans := mapSet (fun _ => none) k.gse.plans q none
  { k with gse := { k.gse with reads := mapSet (fun _ => []) k.gse.reads q [], rows := rows, plans := plans } }

/-- The chain of an MVE queue. -/
def Core.chain (k : Core) (q : Nat) : Option Chain := mapGet (fun _ => none) k.chains q

/-- The core with the chain of an MVE queue replaced. -/
def Core.setChain (k : Core) (q : Nat) (ch : Option Chain) : Core :=
  { k with chains := mapSet (fun _ => none) k.chains q ch }

/-- A chain stops; it stays while a codec still holds blocks of it (08 R212). -/
def Core.stopChain (k : Core) (q : Nat) : Core :=
  match k.chain q with
  | some ch => k.setChain q (if ch.admitted.isEmpty then none else some { ch with stopping := true })
  | none => k

/-- Whether a run has ended in an error already, with its completion still to come. -/
def CmdEnd.failed (e : CmdEnd) : Bool :=
  match e with
  | .ok | .going => false
  | _ => true

/-- What a stopped running command leaves (04 R109; 05 R142; 06 R171; 08 R212). -/
def Core.stopCmd (k : Core) (q : Nat) (r : Run) : Core :=
  let w := r.cmd.word
  match engOf w, opOf w with
  | 0, 0 => k.dropWb (opnd w 0)
  | 0, 2 | 0, 3 => r.acs.foldl (fun (e : Core) n => e.zeroAc n) k
  | 1, 0 => k.zeroTr (opnd w 0)
  | 1, 1 => k.zeroTr (32 + opnd w 0)
  | 1, 3 => k.zeroTr (opnd w 1)
  | 1, 4 => k.zeroTr (opnd w 1)
  | 1, 5 => k.zeroP (opnd w 1)
  | 1, 6 => k.zeroP (opnd w 1)
  | 1, 7 => k.zeroP (opnd w 0)
  | 1, 8 => k.zeroTr (32 + opnd w 0)
  | 1, 9 => k.zeroTr (opnd w 1)
  | 1, 10 => k.zeroTrs (opnd w 0) (opnd w 2)
  | 1, 11 => if opnd w 6 = 1 then k.zeroTr (opnd w 7) else k
  | 1, 12 => k.zeroTr (opnd w 0)
  | 2, 4 => k.zeroTr (opnd w 1)
  | 2, 6 => if opnd w 0 = 2 then k.zeroRa (opnd w 3) else k
  | 2, 8 => k.zeroRa (opnd w 0)
  | 2, op =>
    if op < 4 then
      if opnd w 3 = 1 then k.zeroTr (32 + opnd w 5) else if opnd w 4 = 0 then k.zeroRa (opnd w 5 % 8) else k
    else k
  | 3, _ => (k.stopReads q r.cmd.ctx).clearReads q
  | 4, _ => k.stopChain q
  | _, _ => k

/-- The work of context `x` leaves the engines (14 R369, steps 1 and 2). -/
def Core.removeWork (k : Core) (x : Nat) : Core :=
  (List.range 20).foldl (fun e q =>
    let e1 := if (e.queue q).any (fun c => c.ctx = x) then e.setQueue q ((e.queue q).filter (fun c => c.ctx ≠ x)) else e
    if e1.anyRun q (fun r => r.cmd.ctx == x) then
      ((e1.runs q).foldl (fun (e2 : Core) r =>
        if r.cmd.ctx = x then (if r.fin.failed && q / 4 < 3 then e2 else e2.stopCmd q r) else e2) e1).setRuns q
          ((e1.runs q).filter (fun r => r.cmd.ctx ≠ x))
    else e1) k

/-- FABRIC transfers that the context has posted and the walker has not sent are withdrawn. -/
def Dev.dropPosts (d : Dev) (c x : Nat) : Dev :=
  let mine := fun (p : Post) => p.core = c && (match (d.core c).run p.q with | some r => r.cmd.ctx == x | none => false)
  let links := d.links.map (fun e => (e.1, { e.2 with posts := e.2.posts.filter (fun p => !mine p) }))
  { d with links := links.filter (fun e => e.2 ≠ {}) }

/-- The stored commands of a context leave the replay stores of its core. -/
def Dev.dropStored (d : Dev) (c x : Nat) : Dev :=
  let es := d.flt.episodes.map (fun e => (e.1, e.2.map (fun (p : Episode) =>
    if e.1 / 8 = c then { p with stored := p.stored.filter (fun t => t.cmd.ctx ≠ x) } else p)))
  { d with flt := { d.flt with episodes := es } }

/-- A context reset (14 R369): tagged work removed and stopped, pending wait, push or pop cancelled, leases released;
the context is RESETTING. The state that a suspect had before an earlier reset of its episode is kept. -/
def Dev.resetCtx (d : Dev) (c x : Nat) : Dev :=
  let st := (d.ctx c x).state
  let d1 := (((d.dropPosts c x).dropStored c x).onCore c (fun k => (k.removeWork x).dropLeases x)).arbDropCore c
  d1.onCtx c x (fun k =>
    let again := st == 1 && k.prior != 0
    { k.setState 5 with
      prior := if again then k.prior else st
      priorWait := if again then k.priorWait else k.wait
      priorGates := if again then k.priorGates else k.gated
      wait := 0, gated := [], held := false,
      acc := k.acc.filter (fun a => match a with | .push .. => false | .pop .. => false | _ => true) })

/-- Whether a stopped chain of context `x` still has blocks in a codec (08 R212). -/
def Core.draining (k : Core) (x : Nat) : Bool :=
  (List.range 4).any (fun i => match mapGet (fun _ => none) k.chains (16 + i) with
    | some ch => ch.stopping && ch.cmd.ctx == x
    | none => false)

/-- A context command by its OP (03 Table 3.2); `x` is the CTX field. -/
def Dev.ctxcmd (d : Dev) (c x op : Nat) : Dev :=
  let k := d.ctx c x
  let st := k.state
  if 80 ≤ x then d.cmdRej c
  else
    match op with
    | 1 => if st = 0 then d.setCtx c x { cstatus := 1 } else d.cmdRej c
    | 2 => if st = 1 then d.setCtx c x (k.setState 2) else d.cmdRej c
    | 3 =>
      if st = 2 ∨ st = 3 then
        let d1 := d.setCtx c x (k.setState 1)
        if k.a1c then d1.onCore c (fun e => e.releaseAll x) else d1
      else d.cmdRej c
    | 4 => if st = 4 then d.setCtx c x { k.setState 2 with held := false } else d.cmdRej c
    | 5 => if st ≠ 0 ∧ st ≠ 5 then d.resetCtx c x else d.cmdRej c
    | 6 => if st = 1 then (d.onCore c (fun e => e.dropLeases x)).setCtx c x {} else d.cmdRej c
    | _ => d.cmdRej c

/-- Whether remote reads of a stopped command of context `x` are still without an answer (06 R171). -/
def Core.readsOpen (k : Core) (x : Nat) : Bool := k.gse.stopped.any (fun r => r.1 == x)

/-- Whether an engine has not stopped the work of context `x` yet (14 R369). -/
def Core.unfinished (k : Core) (x : Nat) : Bool := k.draining x || k.readsOpen x

/-- A context reset ends: the context is HALTED (03 R57; 14 R369). -/
def Dev.ctxResetDone (d : Dev) (c x : Nat) : Dev :=
  if (d.ctx c x).state = 5 && !(d.core c).unfinished x then
    d.onCtx c x (fun k => { k.setState 1 with prior := 0, priorWait := 0, priorGates := [] })
  else d

/-! ### The CTX window (03 R60, R61) -/

/-- Whether debug mode is active (16 R422). -/
def Dev.debugMode (d : Dev) : Bool := d.rbit .dbgStatus 0

/-- The word of a context's entry at an offset: 64 bits, or 32 for a binding (03 Table 3.3). -/
def Ctx.entry (k : Ctx) (o : Nat) : Nat :=
  if o < 0x100 then (k.sreg (o / 8)).toNat
  else if o < 0x108 then k.pc.toNat
  else if o < 0x110 then k.cstatus.toNat
  else if o < 0x118 then k.seed.toNat
  else if o < 0x120 then k.step.toNat
  else if o < 0x128 then k.wait.toNat
  else if o < 0x130 then k.excrec.toNat
  else if o < 0x138 then k.excpc.toNat
  else if o < 0x140 then k.lsave.toNat
  else if o < 0x180 then (k.binding ((o - 0x140) / 4)).toNat
  else ((k.window ((o - 0x180) / 16)).toNat >>> (64 * (o / 8 % 2))) % 2 ^ 64

/-- Whether a word of the entry can be read while the context runs (03 R61). -/
def entryShown (o : Nat) : Bool := (0x108 ≤ o && o < 0x110) || (0x120 ≤ o && o < 0x138)

/-- A read of the entry of context `x` (03 R61). -/
def Dev.ctxRead (d : Dev) (c x o : Nat) : Nat :=
  let k := d.ctx c x
  if k.state < 2 || d.debugMode || entryShown o then k.entry o else 0

/-- A window with one 64-bit half replaced; reserved bits read 0. -/
def setWindowHalf (w : W128) (h : Nat) (v : Nat) : W128 :=
  BitVec.ofNat 128 (if h = 0 then w.toNat / 2 ^ 64 * 2 ^ 64 + v else v * 2 ^ 64 + w.toNat % 2 ^ 64) &&&
    0x0000FFFFFFFFF0000000FFFFFFFFF00F#128

/-- The entry with a word written, for a context whose entry may be written; CSTATUS by its access types. -/
def Ctx.setEntry (k : Ctx) (o : Nat) (v : W64) : Ctx :=
  if o < 0x100 then k.setS (o / 8) v
  else if o < 0x108 then { k with pc := v &&& 0xFFFFFFFFFFFF#64 }
  else if o < 0x110 then
    let cs := setBits (setBits k.cstatus 6 4 (bits v 6 4)) 9 8 (bits v 9 8)
    { k with cstatus := cs &&& ~~~(v &&& 0x70000#64) }
  else if o < 0x118 then { k with seed := v }
  else if o < 0x120 then { k with step := v }
  else if o < 0x128 then { k with wait := v &&& 0xFFFFFFFF0000FF07#64 }
  else if o < 0x130 then { k with excrec := v &&& 0xFFFFFFFFFFFF007F#64 }
  else if o < 0x138 then { k with excpc := v &&& 0xFFFFFFFFFFFF#64 }
  else if o < 0x140 then { k with lsave := v &&& 0xFFFFFFFFF000#64 }
  else if o < 0x180 then { k with b := mapSet (fun _ => 0) k.b ((o - 0x140) / 4) (v.setWidth 32 &&& 0x7F#32) }
  else
    let n := (o - 0x180) / 16
    { k with w := mapSet (fun _ => 0) k.w n (setWindowHalf (k.window n) (o / 8 % 2) v.toNat) }

/-- Whether a write of CSTATUS to a running context would change something beside PRIO (03 R61). -/
def Ctx.cstatusErr (k : Ctx) (v : W64) : Bool := bits v 9 8 != bits k.cstatus 9 8 || decide (bits v 18 16 ≠ 0)

/-- A write of a word of the entry of context `x` (03 R61). -/
def Dev.ctxWrite (d : Dev) (c x o : Nat) (v : W64) : Dev :=
  let k := d.ctx c x
  if k.state < 2 then
    d.setCtx c x { k.setEntry o v with bad := k.bad.filter (fun b => !decide (o ≤ b ∧ b < o + (if 0x140 ≤ o ∧ o < 0x180 then 4 else 8))) }
  else if 0x108 ≤ o && o < 0x110 then
    let d1 := d.setCtx c x { k with cstatus := setBits k.cstatus 6 4 (bits v 6 4) }
    if k.cstatusErr v then d1.setRbit (.seqStatus c) 1 true else d1
  else d.setRbit (.seqStatus c) 1 true

/-! ### Rows of the table -/

/-- GATE_REEVALUATE (07 R182). -/
def execGateReevaluate (core : CoreId) (ctx : CtxId) (s : State) : Host.Outcome State Fault Refusal :=
  s.run (fun d => d.reevaluate core ctx)

/-- CTXCMD_ALLOC (03 R57). -/
def execCtxcmdAlloc (core : CoreId) (ctx : BitVec 7) (s : State) : Host.Outcome State Fault Refusal :=
  s.run (fun d => d.ctxcmd core ctx.toNat 1)

/-- CTXCMD_START (03 R57). -/
def execCtxcmdStart (core : CoreId) (ctx : BitVec 7) (s : State) : Host.Outcome State Fault Refusal :=
  s.run (fun d => d.ctxcmd core ctx.toNat 2)

/-- CTXCMD_HALT (03 R57). -/
def execCtxcmdHalt (core : CoreId) (ctx : BitVec 7) (s : State) : Host.Outcome State Fault Refusal :=
  s.run (fun d => d.ctxcmd core ctx.toNat 3)

/-- CTXCMD_RESUME (03 R57). -/
def execCtxcmdResume (core : CoreId) (ctx : BitVec 7) (s : State) : Host.Outcome State Fault Refusal :=
  s.run (fun d => d.ctxcmd core ctx.toNat 4)

/-- CTXCMD_RESET (14 R369). -/
def execCtxcmdReset (core : CoreId) (ctx : BitVec 7) (s : State) : Host.Outcome State Fault Refusal :=
  s.run (fun d => d.ctxcmd core ctx.toNat 5)

/-- CTXCMD_FREE (03 R57). -/
def execCtxcmdFree (core : CoreId) (ctx : BitVec 7) (s : State) : Host.Outcome State Fault Refusal :=
  s.run (fun d => d.ctxcmd core ctx.toNat 6)

/-- INTERCORE_TRANSFER (03 R69). -/
def execIntercoreTransfer (core : CoreId) (q : QueueId) (s : State) : Host.Outcome State Fault Refusal :=
  s.run (fun d => d.intercore core q)

/-- LEASE_MOVE (03 R79). -/
def execLeaseMove (core : CoreId) (u : BitVec 3) (s : State) : Host.Outcome State Fault Refusal :=
  s.run (fun d => d.leaseMove core u.toNat)

/-- CONTEXT_RESET_DONE (14 R369). -/
def execContextResetDone (core : CoreId) (ctx : CtxId) (s : State) : Host.Outcome State Fault Refusal :=
  s.run (fun d => d.ctxResetDone core ctx)

end Sys2Proof.Machine
end

