-- ==== Sys2Proof/Machine/Snp.lean ====
section
/-! DEFINITION. Clutches (13): the area list, slots, the record and its digest tree, the interval estimator, page copies,
what the twin reads, comparison with the twin, and restore. -/

namespace Sys2Proof.Machine

/-- The length of a record. -/
def recLen : Nat := 0x1510000

/-! ### Areas (13 R337, R338) -/

/-- An entry of the area list in use, resolved: its index, flags, the physical address of its first page as protected,
its pages, and the destinations. -/
structure Area where
  idx : Nat
  reg : Bool
  twin : Bool
  unit : Nat
  num : Nat
  base : Nat
  pages : Nat
  dst0 : Nat
  dst1 : Nat
  deriving DecidableEq, Repr

/-- The destination for a slot. -/
def Area.dst (a : Area) (k : Nat) : Nat := if k = 0 then a.dst0 else a.dst1

/-- TMODE. -/
def Dev.tmode (d : Dev) : Nat := d.rbits .snpCtl 5 4

/-- The 32 bytes of an area list entry as an area; `none` where V is 0. -/
def areaOf (idx : Nat) (b : List Byte) : Option Area :=
  let w := fieldBytes b 0 8
  if w < 2 ^ 63 then none
  else
    some { idx := idx, reg := decide (w / 2 ^ 62 % 2 = 1), twin := decide (w / 2 ^ 61 % 2 = 1), unit := w / 2 ^ 53 % 128,
           num := w / 2 ^ 48 % 32, base := w / 2 ^ 16 % 2 ^ 32 * pageSize, pages := fieldBytes b 8 4,
           dst0 := fieldBytes b 16 8 / 2 ^ 16 % 2 ^ 32 * pageSize, dst1 := fieldBytes b 24 8 / 2 ^ 16 % 2 ^ 32 * pageSize }

/-- The area with a region's pages filled in, at frame `cur`. -/
def Area.resolve (a : Area) (r : Option Region) (cur : Nat) : Area :=
  if a.reg then
    match r with
    | some g => { a with base := g.frame cur, pages := g.pages }
    | none => { a with pages := 0 }
  else a

/-- The raw area list. -/
def Dev.areaList (d : Dev) : List Area :=
  (List.range (d.rbits .snpAlcnt 10 0)).filterMap (fun i =>
    areaOf i (d.bytesAt (d.rbits .snpAlbase 47 5 * 32 + i * 32) 32))

/-- The areas as they are protected when a clutch starts: a region's live frame (13 R338). -/
def Dev.areas (d : Dev) : List Area :=
  d.areaList.map (fun a =>
    let r := d.region a.unit a.num
    a.resolve r (match r with | some g => g.cur | none => 0))

/-- Whether two ranges of pages overlap. -/
def pagesMeet (a n b m : Nat) : Bool := decide (a < b + m * pageSize ∧ b < a + n * pageSize)

/-- Whether two ranges of bytes overlap. -/
def bytesMeet (a n b m : Nat) : Bool := decide (0 < n ∧ 0 < m ∧ a < b + m ∧ b < a + n)

/-- The ranges, beside areas and destinations, that a local destination must leave alone: the spill area, and the record and
digest areas of both slots (13 R337). -/
def Dev.snpRanges (d : Dev) (all : List Area) : List (Nat × Nat) :=
  (d.rbits .snpSpbase 47 16 * pageSize, d.rbits .snpSpn 15 0 * pageSize) ::
  (List.range 2).flatMap (fun k =>
    [(d.rbits (.slotRbase k) 47 16 * pageSize, recLen), (d.rbits (.slotDbase k) 47 3 * 8, 8 * (all.map Area.pages).sum)])

/-- Whether one of an area's destinations overlaps the other, or one of another area on the same device (13 R337). -/
def Area.dstsMeet (a b : Area) : Bool :=
  if a.idx = b.idx then pagesMeet a.dst0 a.pages a.dst1 a.pages
  else a.twin == b.twin && [a.dst0, a.dst1].any (fun x => [b.dst0, b.dst1].any (fun y => pagesMeet x a.pages y b.pages))

/-- Whether an area breaks a rule of R337 or R352: no page, pages outside one region unit's memory, an absent region, a
TWIN area outside Split mode, an overlap of areas, of destinations, or of a local destination with an area or another range of
the SNP, or a local destination that is no memory. -/
def Dev.areaBad (d : Dev) (all : List Area) (a : Area) : Bool :=
  let dsts := [a.dst0, a.dst1]
  a.pages == 0 ||
  !(List.range 72).any (fun u => unitHolds u a.base (a.pages * pageSize)) ||
  (a.twin && d.tmode != 2) ||
  all.any (fun b => (b.idx != a.idx && pagesMeet a.base a.pages b.base b.pages) || a.dstsMeet b ||
    (!a.twin && dsts.any (fun x => pagesMeet x a.pages b.base b.pages))) ||
  (!a.twin && dsts.any (fun x => !d.memOk x (a.pages * pageSize) ||
    (d.snpRanges all).any (fun r => bytesMeet x (a.pages * pageSize) r.1 r.2)))

/-- Every page of the areas, in ascending area and page order: area, page, leaf index. -/
def pagesFrom : List Area → Nat → List (Area × Nat × Nat)
  | [], _ => []
  | a :: r, leaf => (List.range a.pages).map (fun p => (a, p, leaf + p)) ++ pagesFrom r (leaf + a.pages)

/-- The leaf index of an area's first page. -/
def leafBase : List Area → Nat → Nat
  | [], _ => 0
  | a :: r, idx => if a.idx = idx then 0 else a.pages + leafBase r idx

/-! ### The record (13 R346) -/

/-- A context store entry as its 512 bytes (03 Table 3.3). -/
def ctxBytes (k : Ctx) : List Byte :=
  (List.range 40).flatMap (fun i => toBytes 8 (k.entry (8 * i))) ++
  (List.range 16).flatMap (fun i => toBytes 4 (k.entry (0x140 + 4 * i))) ++
  (List.range 16).flatMap (fun i => toBytes 8 (k.entry (0x180 + 8 * i)))

/-- The context that 512 bytes of the context store spell. -/
def ctxOfBytes (b : List Byte) : Ctx :=
  let w := fun o => BitVec.ofNat 64 (fieldBytes b o 8)
  { s := mapBuild (fun _ => 0) 32 (fun i => w (8 * i)), pc := w 0x100, cstatus := w 0x108, seed := w 0x110,
    step := w 0x118, wait := w 0x120, excrec := w 0x128, excpc := w 0x130, lsave := w 0x138,
    b := mapBuild (fun _ => 0) 16 (fun i => BitVec.ofNat 32 (fieldBytes b (0x140 + 4 * i) 4)),
    w := mapBuild (fun _ => 0) 8 (fun i => BitVec.ofNat 128 (fieldBytes b (0x180 + 16 * i) 16)) }

/-- A participant as the record shows it: WAITING on DTOK (13 R346). One that waits so already stands as it is; for
another the threshold is the value after the bump (DESIGN CHOICE, assumption log 24). -/
def Dev.asWaiting (d : Dev) (c : Nat) (k : Ctx) : Ctx :=
  let t := d.rbits .chrCfg 31 24
  if k.state = 3 ∧ bits k.wait 7 0 = 1 ∧ bits k.wait 15 8 = t then k
  else { k.setState 3 with wait := BitVec.ofNat 64 ((d.regN (.token c t) + 1) % 2 ^ 32 * 2 ^ 32 + t * 2 ^ 8 + 1) }

/-- Chorus section, 64 B; its packing is the model's (DESIGN CHOICE, assumption log 24). -/
def chorusSection (step : Nat) (ls lscfg drec rawp : Nat) : List Byte :=
  toBytes 8 step ++ toBytes 4 ls ++ toBytes 4 lscfg ++ toBytes 8 drec ++ toBytes 8 rawp ++ toBytes 32 0

/-- Fabric section, 32 B for each port. -/
def Dev.fabricSection (d : Dev) : List Byte :=
  (List.range 24).flatMap (fun p =>
    let k := d.link p
    let acked := match k.replay with | f :: _ => f.lseq - 1 | [] => k.txNext - 1
    toBytes 4 (d.regN (.portSoptr p)) ++ toBytes 4 (d.regN (.portSocnt p)) ++ toBytes 2 (k.txNext - 1).toNat ++
    toBytes 2 acked.toNat ++ (List.range 3).flatMap (fun v => toBytes 2 (mapGet vcInit k.granted v).toNat) ++
    (List.range 3).flatMap (fun v => toBytes 2 (mapGet (fun _ => 0) k.used v).toNat) ++ toBytes 8 0)

/-- Lular section, 0x180 B. -/
def Dev.lularSection (d : Dev) : List Byte :=
  let r := d.lul.round
  toBytes 8 (d.regN .lulRnd) ++ toBytes 8 (d.regN .lulTgt) ++ toBytes 8 (d.regN .lulLmstep) ++ toBytes 8 (d.regN .lulMlwp) ++
  toBytes 4 d.lulState ++ toBytes 4 (match r with | some x => x.round | none => 0) ++
  toBytes 4 (match r with | some x => x.high | none => 0) ++ toBytes (0x180 - 44) 0

/-- CUR bits of the shard records, one byte each, 256 B. -/
def Dev.curSection (d : Dev) : List Byte :=
  (List.range 256).map (fun i => if i < d.shardCnt && (d.shard i).cur then 1 else 0)

/-- PREG_STAT of every region unit and region, 18 KiB. -/
def Dev.pregSection (d : Dev) : List Byte :=
  (List.range 72).flatMap (fun u => (List.range 32).flatMap (fun n => toBytes 8 (d.regN (.pregStat u n))))

/-- The tokens of every core, 512 KiB. -/
def Dev.tokenSection (d : Dev) : List Byte :=
  (List.range 512).flatMap (fun c => (List.range 256).flatMap (fun t => toBytes 4 (d.regN (.token c t))))

/-- QPTR of queues 0 to 19: the fill level in HEAD, FULL with 32 commands, and OVF as stored (03 QPTR). -/
def Dev.fifoPtr (d : Dev) (c q : Nat) : Nat :=
  let n := ((d.core c).queue q).length
  n + 2 ^ 29 * b2n (decide (32 ≤ n)) + 2 ^ 31 * b2n (d.rbit (.qptr c q) 31)

/-- QPTR as it reads. -/
def Dev.qptrShown (d : Dev) (c q : Nat) : Nat := if q < 20 then d.fifoPtr c q else d.regN (.qptr c q)

/-- QBASE, QCFG and QPTR of every queue, 512 KiB, with QPTR as `f` shows it. -/
def Dev.queueSection (d : Dev) (f : Nat → Nat → Nat) : List Byte :=
  (List.range 512).flatMap (fun c => (List.range 64).flatMap (fun q =>
    toBytes 8 (d.regN (.qbase c q)) ++ toBytes 4 (d.regN (.qcfg c q)) ++ toBytes 4 (f c q)))

/-- The context store of every core, 20 MiB, with each entry as `f` shows it. -/
def Dev.ctxSection (d : Dev) (f : Nat → Nat → Ctx → Ctx) : List Byte :=
  (List.range 512).flatMap (fun c => (List.range 80).flatMap (fun x => ctxBytes (f c x (d.ctx c x))))

/-- The record's header as it is first written. -/
def Dev.headerBytes (d : Dev) (k : Nat) (clseq : W64) : List Byte :=
  toBytes 2 1 ++ toBytes 1 k ++ toBytes 1 d.tmode ++ toBytes 2 d.me ++ toBytes 1 d.mySite ++ toBytes 1 0 ++
  toBytes 8 (d.regN .chrStep) ++ toBytes 8 clseq.toNat ++ toBytes 24 0 ++ toBytes 8 (d.regN .timNow) ++ toBytes 8 0

/-- The record at the start of a clutch; bytes that Table 13.4 does not name are 0. -/
def Dev.recordBytes (d : Dev) (k : Nat) (clseq : W64) : List Byte :=
  d.headerBytes k clseq ++
  chorusSection (d.regN .chrStep) (d.regN .chrLs) (d.regN .chrLscfg) (d.regN .chrDrec) (d.regN .snpRawp) ++
  d.fabricSection ++ d.lularSection ++ d.curSection ++ toBytes 0xA00 0 ++ toBytes 0x3000 0 ++
  d.pregSection ++ toBytes 0x7800 0 ++ d.tokenSection ++ d.queueSection d.qptrShown ++
  d.ctxSection (fun c x v => if d.takesPart c && d.isParticipant x && decide (v.state ≠ 0) then d.asWaiting c v else v)

/-- Slot registers: the record's DPA. -/
def Dev.recBase (d : Dev) (k : Nat) : Nat := d.rbits (.slotRbase k) 47 16 * pageSize

/-- The DPA of the leaf digests. -/
def Dev.leafAddr (d : Dev) (k i : Nat) : Nat := d.rbits (.slotDbase k) 47 3 * 8 + 8 * i

/-- Bytes are written where memory can take them. -/
def Dev.putAt (d : Dev) (a : Nat) (bs : List Byte) : Dev := if d.memOk a bs.length then d.writeAt a bs else d

/-! ### The digest tree (13 R354) -/

/-- A 64-bit digest as two words, low word first. -/
def digestPair (x : W64) : List W32 := [x.setWidth 32, (x >>> 32).setWidth 32]

/-- One level of an area's tree from the one below: nodes over 16 children each. -/
def digestLevel (area v : Nat) : Nat → Nat → List W64 → List W64
  | 0, _, _ => []
  | fuel + 1, j, xs =>
    if xs.isEmpty then []
    else
      digest (BitVec.ofNat 64 (2 ^ 63 + v * 2 ^ 48 + area * 2 ^ 32 + j)) ((xs.take 16).flatMap digestPair) ::
        digestLevel area v fuel (j + 1) (xs.drop 16)

/-- The area root: levels are formed until one node is left. -/
def areaRoot (area : Nat) : Nat → Nat → List W64 → W64
  | 0, _, xs => xs.headD 0
  | fuel + 1, v, xs =>
    match xs with
    | [x] => x
    | _ => areaRoot area fuel (v + 1) (digestLevel area v xs.length 0 xs)

/-- The root over the leaves of an area. -/
def rootOfLeaves (area : Nat) (ls : List W64) : W64 := areaRoot area 64 1 ls

/-- RDIG over the sections of Table 13.4 marked Yes, in offset order. -/
def rdigOf (chorus preg tok queue ctx : List Byte) : W64 :=
  digest (BitVec.ofNat 64 (2 ^ 62)) (words32 (chorus ++ preg ++ tok ++ queue ++ ctx))

/-- RDIG of a record's bytes. -/
def rdigOfRecord (r : List Byte) : W64 :=
  rdigOf (sliceBytes r 0x40 0x40) (sliceBytes r 0x4000 0x4800) (sliceBytes r 0x10000 0x80000) (sliceBytes r 0x90000 0x80000)
    ((r.drop 0x110000).take 0x1400000)

/-- ROOT over the area roots and RDIG. -/
def rootOf (roots : List W64) (rdig : W64) : W64 :=
  digest (BitVec.ofNat 64 (2 ^ 62 + 1)) ((roots ++ [rdig]).flatMap digestPair)

/-- FDIG over every record byte from offset 0x40 onwards. -/
def fdigOf (r : List Byte) : W64 := digest (BitVec.ofNat 64 (2 ^ 62 + 2)) (words32 (r.drop 0x40))

/-- The stored leaves of an area. -/
def Dev.leavesOf (d : Dev) (k first n : Nat) : List W64 :=
  (List.range n).map (fun i => BitVec.ofNat 64 (ofBytes (d.bytesAt (d.leafAddr k (first + i)) 8)))

/-- The area roots of a slot by its stored leaves, in list order. -/
def Dev.areaRoots (d : Dev) (k : Nat) (as : List Area) : List W64 :=
  as.map (fun a => rootOfLeaves a.idx (d.leavesOf k (leafBase as a.idx) a.pages))

/-! ### The interval (13 R340, R348, R349) -/

/-- GRID, at least 1. -/
def Dev.grid (d : Dev) : Nat := max 1 (d.rbits .snpClcfg 15 0)

/-- The estimator at order 4 (13 R349). -/
def Dev.estimate (d : Dev) : Dev :=
  let r := d.regN .snpRate
  let r1 := r - r / 2 ^ d.rbits .snpEstcfg 4 0
  let cost := max 1 (d.rbits .snpEstcfg 31 16)
  let raw := if r1 = 0 then 2 ^ 32 - 1 else isqrt (cost * 2 ^ 45 / r1)
  let i := min raw (d.regN .snpLbound / 2)
  (d.setRegN .snpRate r1).setRegN .snpIval (d.grid * max 1 (i / d.grid))

/-- Whether the boundary is due (13 R340): by the grid and the interval, or by FSTEP. -/
def Dev.gridDue (d : Dev) : Bool :=
  d.rbit .snpCtl 31 && d.regN .chrStep % d.grid == 0 &&
  (!d.snp.started || decide (d.regN .snpIval ≤ d.regN .chrStep - d.regN .snpLast))

/-- Whether SNP_FSTEP names this boundary. -/
def Dev.fstepDue (d : Dev) : Bool := d.rbit .snpFstep 63 && d.regN .chrStep == d.rbits .snpFstep 62 0

/-- Whether a slot is TAKING or COMPARING. -/
def Dev.clutchRuns (d : Dev) : Bool := (List.range 2).any (fun k => d.slotSt k == 1 || d.slotSt k == 2)

/-- The slot a new clutch takes (13 R339). -/
def Dev.nextSlot (d : Dev) : Nat :=
  match d.goodSlot with
  | some k => 1 - k
  | none => if d.slotSt 0 = 0 then 0 else if d.slotSt 1 = 0 then 1 else 0

/-! ### Taking a clutch (13 R342 to R344) -/

/-- The pages of the running clutch are protected and uncopied. -/
def Dev.protectPages (d : Dev) (k : Nat) (as : List Area) : Dev :=
  { d with prot := (pagesFrom as 0).foldl (fun m e =>
      mapSet (fun _ => none) m (e.1.base / pageSize + e.2.1)
        (some { slot := k, area := e.1.idx, page := e.2.1, leaf := e.2.2, dest := e.1.dst k + e.2.1 * pageSize,
                twin := e.1.twin })) d.prot }

/-- A slot becomes GOOD and the one that was GOOD becomes EMPTY (13 R339). -/
def Dev.makeGood (d : Dev) (k : Nat) : Dev :=
  let d1 := if d.slotSt (1 - k) = 3 then d.setReg (.slotState (1 - k)) 0 else d
  ((d1.setRegN (.slotState k) 3).setRbit .snpStatus 4 true).dropClutchLock

/-- The leaf of the page that DIFF_LOC names is compared with DIFF_OWN when a clutch is taken again at that step (13
R357). -/
def Dev.replayCheck (d : Dev) (k : Nat) (as : List Area) : Dev :=
  let loc := d.reg .diffLoc
  let area := bits loc 58 48
  if bit loc 63 && !bit loc 62 && d.reg .diffStep == d.reg (.slotStep k) && as.any (fun a => a.idx == area) then
    let l := d.leavesOf k (leafBase as area + bits loc 31 0) 1
    if l = [d.reg .diffOwn] then d else (d.setRbit .snpStatus 10 true).addStick .snpSdccnt 31 0 1
  else d

/-- Every page is copied: the digest tree is completed and the header filled; the slot becomes COMPARING in Mirror mode,
else GOOD (13 R344). -/
def Dev.clutchComplete (d : Dev) (k : Nat) : Dev :=
  let as := d.areas
  let roots := d.areaRoots k as
  let base := d.recBase k
  let d1 := d.putAt (base + 0x1000) (roots.flatMap (fun x => toBytes 8 x.toNat))
  let r := d1.bytesAt base recLen
  let rdig := rdigOfRecord r
  let root := rootOf roots rdig
  let d2 := d1.putAt (base + 24) (toBytes 8 root.toNat ++ toBytes 8 rdig.toNat ++ toBytes 8 (fdigOf r).toNat)
  let d3 := (d2.putAt (base + 56) (toBytes 8 (d.regN .timNow))).setReg (.slotRoot k) root
  let d4 := d3.replayCheck k as
  if d4.tmode = 1 then d4.setRegN (.slotState k) 2 else d4.makeGood k

/-- A running clutch whose pages are all copied is completed. -/
def Dev.clutchCheck (d : Dev) (k : Nat) : Dev :=
  if d.slotSt k = 1 && d.regN (.slotLeft k) == 0 then d.clutchComplete k else d

/-- A clutch starts in slot `k` (13 R342): sequence number, SNP_LAST, the record, protection. A malformed area makes it
BAD with cause 3 (13 Table 13.6). -/
def Dev.clutchBegin (d : Dev) (k : Nat) (lock : Option Nat) : Dev :=
  let as := d.areas
  let n := d.snp.clseq + 1
  let total := (as.map Area.pages).sum
  let twins := ((as.filter Area.twin).map Area.pages).sum
  let d1 := { d with snp := { d.snp with clseq := n, started := true, due := false, twinLeft := twins, lock := lock } }
  let d2 := (((d1.setReg .snpLast (d.reg .chrStep)).setReg (.slotStep k) (d.reg .chrStep)).setReg (.slotClseq k) n).setRegN
    (.slotState k) 1
  let d3 := (d2.setRegN (.slotLeft k) (total % 2 ^ 32)).setRbit .snpStatus 3 false
  let d4 := d3.putAt (d3.recBase k) (d.recordBytes k n)
  if as.any (d.areaBad as) then d4.slotBad k 3 else (d4.protectPages k as).clutchCheck k

/-- A due clutch starts once its slot is free and no held lock conflicts (13 R341; 14 R387, R389). -/
def Dev.clutchStart (d : Dev) : Dev :=
  if d.snp.due && !d.clutchRuns then
    match d.takeLock ownerFlt 8 0 with
    | (some i, d1) => d1.clutchBegin d1.nextSlot (some i)
    | (none, _) => d
  else d

/-- The next page that a region unit copies: its lowest area and page. -/
def Dev.nextPage (d : Dev) (u : Nat) : Option Nat :=
  (d.prot.foldl (fun (best : Option (Nat × Nat)) e =>
    match e.2 with
    | some q =>
      if q.twin || unitOf (e.1 * pageSize) != some u then best
      else
        match best with
        | some (l, _) => if q.leaf < l then some (q.leaf, e.1) else best
        | none => some (q.leaf, e.1)
    | none => best) none).map Prod.snd

/-- The region unit of page `pg` copies it, if it is the unit's next one; with no page left the clutch is completed. -/
def Dev.pageCopy (d : Dev) (pg : Nat) : Dev :=
  let d1 :=
    match mapGet (fun _ => none) d.prot pg with
    | some q =>
      match unitOf (pg * pageSize) with
      | some u =>
        if d.nextPage u = some pg then
          let e := d.copyPage pg q
          if u < 64 then e.count (4138 + u) 3 (pageSize / 64) else e
        else d
      | none => d
    | none => d
  (d1.clutchCheck 0).clutchCheck 1

/-! ### Split mode: the source's side (13 R345) -/

/-- The writes that wait on a full spill area are tried again, in order. -/
def Dev.releaseWrites (d : Dev) : Dev :=
  let ws := d.waitingWrites
  ws.foldl (fun (e : Dev) w => e.writePhys w.1 w.2) { d with waitingWrites := [] }

/-- The spill page that holds physical page `pg`. -/
def Dev.spillOf (d : Dev) (pg : Nat) : Option (Nat × SpillPage) :=
  d.spills.findSome? (fun e => match e.2 with
    | some s => if s.phys = pg then some (e.1, s) else none
    | none => none)

/-- The bytes that the twin reads at a DPA: a spilled page's from its spill copy. -/
def Dev.twinBytes (d : Dev) (a n : Nat) : List Byte :=
  (pieces a n).flatMap (fun q =>
    let p := d.physOf q.1
    match d.spillOf (p / pageSize) with
    | some (i, _) => d.physBytes (d.physOf (d.regN .snpSpbase + i * pageSize) + p % pageSize) q.2
    | none => d.physBytes p q.2)

/-- The bytes of a page, from its first on, that have been read once `n` bytes at offset `o` are read as well; the twin reads
in ascending order (13 R345). -/
def readUpTo (got o n : Nat) : Nat := if o ≤ got then max got (o + n) else got

/-- The twin has read `n` bytes at offset `o` of the page `pg` from its spill copy: read whole, the spill page is free. -/
def Dev.spillRead (d : Dev) (i : Nat) (s : SpillPage) (o n : Nat) : Dev :=
  let got := readUpTo s.got o n
  if pageSize ≤ got then
    ({ d with spills := mapSet (fun _ => none) d.spills i none }.setRegN .snpSpused (d.regN .snpSpused - 1)).releaseWrites
  else { d with spills := mapSet (fun _ => none) d.spills i (some { s with got := got }) }

/-- The twin has read `n` bytes at offset `o` of the TWIN page `pg`: read whole, its leaf is stored (13 R345, R354). -/
def Dev.pageRead (d : Dev) (pg : Nat) (t : ProtPage) (o n : Nat) : Dev :=
  let got := readUpTo t.got o n
  let d1 := { d with prot := mapSet (fun _ => none) d.prot pg (some { t with got := got }) }
  if t.got < pageSize ∧ pageSize ≤ got then d1.storeLeaf pg t else d1

/-- The twin has read bytes at a DPA: a TWIN page or its spill copy counts what is read. -/
def Dev.twinHasRead (d : Dev) (a n : Nat) : Dev :=
  (pieces a n).foldl (fun (e : Dev) q =>
    let p := e.physOf q.1
    match e.spillOf (p / pageSize) with
    | some (i, s) => e.spillRead i s (p % pageSize) q.2
    | none =>
      match mapGet (fun _ => none) e.prot (p / pageSize) with
      | some t => if t.twin then e.pageRead (p / pageSize) t (p % pageSize) q.2 else e
      | none => e) d

/-- The leaves of the TWIN pages that no read of this device's has been seen to finish are stored (13 R354). -/
def Dev.storeTwinLeaves (d : Dev) : Dev :=
  d.prot.foldl (fun (e : Dev) p => match p.2 with
    | some q => if q.twin && decide (q.got < pageSize) then e.storeLeaf p.1 q else e
    | none => e) d

/-- PULLSEQ of the twin shows the running clutch: its TWIN pages count as copied, and their spill copies are free (13 R344,
R345). -/
def Dev.pullSeen (d0 : Dev) (v : W64) : Dev :=
  let d := { d0 with snp := { d0.snp with sawPull := v } }
  match (List.range 2).find? (fun k => d.slotSt k = 1 && d.reg (.slotClseq k) == v) with
  | none => d
  | some k =>
    if d.snp.twinLeft = 0 then d
    else
      let d1 := (d.storeTwinLeaves.dropSpills k).setRegN (.slotLeft k) (d.regN (.slotLeft k) - d.snp.twinLeft)
      let d2 := { d1 with
        snp := { d1.snp with twinLeft := 0 }
        prot := d1.prot.filter (fun e => match e.2 with | some q => !q.twin | none => true) }
      (d2.releasePages).clutchCheck k

/-! ### Remote reads by the SNP (10 R273) -/

/-- The DPA of the SNP block. -/
def snpPage : Nat := 0xFF00300000

/-- The twin: the device at the far end of PORTA while the bond is formed (10 R290). -/
def Dev.twinDev (d : Dev) : Option Nat := d.bond.map (fun b => d.neighbour b.1)

/-- Job `i` of the SNP: 0 a pull, 1 locating a mismatch, 2 COMPARE, 3 a restore. -/
def Dev.job (d : Dev) (i : Nat) : Option TwinJob := mapGet (fun _ => none) d.snp.jobs i

/-- The device with a job replaced. -/
def Dev.setJob (d : Dev) (i : Nat) (j : Option TwinJob) : Dev :=
  { d with snp := { d.snp with jobs := mapSet (fun _ => none) d.snp.jobs i j } }

/-- A job reads the twin: an RDREQ leaves, with a tag that names job and serial number (DESIGN CHOICE, assumption
log 15). -/
def Dev.twinAsk (d : Dev) (i : Nat) (j : TwinJob) (a n : Nat) : Dev :=
  match d.twinDev with
  | none => d.setJob i (some j)
  | some t =>
    let tag := 2 ^ 31 + i * 2 ^ 29 + d.snp.serial % 2 ^ 29
    let d1 := { d with snp := { d.snp with serial := d.snp.serial + 1 } }
    let d2 := d1.setJob i (some { j with tag := tag, addr := a, len := n })
    d2.sendRouted none { d2.mkFrame 2 2 t (BitVec.ofNat 32 tag) (BitVec.ofNat 32 n) [] with addr := BitVec.ofNat 48 a }

/-- The slot in a twin's SNP page whose CLSEQ and state meet a test. -/
def twinSlot (page : List Byte) (p : Nat → Nat → Bool) : Option Nat :=
  (List.range 2).find? (fun k => p (fieldBytes page (0x100 + k * 0x80 + 0x20) 8) (fieldBytes page (0x100 + k * 0x80 + 0x30) 4 % 8))

/-- A slot register of a twin's SNP page. -/
def twinReg (page : List Byte) (k o : Nat) : Nat := fieldBytes page (0x100 + k * 0x80 + o) 8

/-! ### Locating a difference (13 R355 to R358) -/

/-- A difference is recorded in the SNP_DIFF registers, unless one is there already; a clutch's mismatch with a difference that
recurs on replay sets PERSIST (13 R356 to R358). -/
def Dev.recordDiff (d : Dev) (j : TwinJob) (area page off : Nat) (x : W64) (oneway : Bool) : Dev :=
  let loc := d.reg .diffLoc
  if bit loc 63 then
    if j.kind == 1 && !bit loc 62 && d.reg .diffStep == d.reg (.slotStep j.slot) && bits loc 58 48 == area &&
        bits loc 31 0 == page && j.own != j.twin then d.setRbit .snpStatus 11 true
    else d
  else
    let d1 := (d.setRegN .diffLoc (2 ^ 63 + b2n oneway * 2 ^ 62 + area * 2 ^ 48 + page)).setReg .diffStep (d.reg (.slotStep j.slot))
    let d2 := ((d1.setRegN .diffOff (off / 8 * 8)).setReg .diffXor x).setRegN .diffNpg (stick 32 j.npg)
    (d2.setReg .diffOwn j.own).setReg .diffTwin j.twin

/-- The first 8-byte word in which two byte strings differ: its offset and XOR. -/
def firstDiff : Nat → Nat → List Byte → List Byte → Option (Nat × W64)
  | 0, _, _, _ => none
  | fuel + 1, o, a, b =>
    if a.isEmpty then none
    else if a.take 8 = b.take 8 then firstDiff fuel (o + 8) (a.drop 8) (b.drop 8)
    else some (o, BitVec.ofNat 64 (ofBytes (a.take 8)) ^^^ BitVec.ofNat 64 (ofBytes (b.take 8)))

/-- Whether COMPARE's difference is one-way: either device is not in Mirror mode (13 R358). -/
def Dev.oneWay (d : Dev) (j : TwinJob) : Bool := j.kind == 2 && !(d.tmode == 1 && fieldBytes j.page 0 4 / 16 % 4 == 1)

/-- A restore ends: RESTORE's lock is freed. -/
def Dev.restoreEnd (d : Dev) (lock : Option Nat) (ok : Bool) : Dev :=
  (d.setRbit .snpStatus (if ok then 12 else 13) true).endLock lock

/-- Locating ends. A mismatch leaves its slot in MISMATCH; COMPARE changes no slot; a restore has failed. -/
def Dev.locateEnd (d : Dev) (i : Nat) (j : TwinJob) : Dev :=
  let d1 := d.setJob i none
  match j.kind with
  | 1 => ((d1.setRegN (.slotState j.slot) 5).setRbit .snpStatus 9 true).dropClutchLock
  | 2 => d1.endLock j.lock
  | _ => d1.restoreEnd j.lock false

/-- A difference has been found. -/
def Dev.locateFound (d : Dev) (i : Nat) (j : TwinJob) (area page off : Nat) (x : W64) : Dev :=
  (d.recordDiff j area page off x (d.oneWay j)).locateEnd i j

/-- The sections of the record marked Yes, as offset and length in 64 B pieces. -/
def recSections : List (Nat × Nat) := [(0x40, 0x40), (0x4000, 0x4800), (0x10000, 0x80000), (0x90000, 0x80000), (0x110000, 0x1400000)]

/-- The record offset of byte `n` of the sections marked Yes. -/
def recOffset : List (Nat × Nat) → Nat → Option Nat
  | [], _ => none
  | (o, l) :: r, n => if n < l then some (o + n) else recOffset r (n - l)

/-- The twin's slot that a job compares with. -/
def TwinJob.twinSlotNo (j : TwinJob) (clseq : W64) : Nat := (twinSlot j.page (fun q _ => q == clseq.toNat)).getD j.slot

/-- Read the next leaves of the twin. -/
def Dev.askLeaves (d : Dev) (i : Nat) (j : TwinJob) : Dev :=
  let t := j.twinSlotNo (d.reg (.slotClseq j.slot))
  let a := twinReg j.page t 8 / 8 * 8 + 8 * j.cur
  d.twinAsk i { j with stage := 3 } (a / 32 * 32) 64

/-- Read the next bytes of the twin's copy of the differing page. -/
def Dev.askPage (d : Dev) (i : Nat) (j : TwinJob) : Dev :=
  let t := j.twinSlotNo (d.reg (.slotClseq j.slot))
  match d.areas.find? (fun a => a.idx = j.area) with
  | some a => d.twinAsk i { j with stage := 4 } (a.dst t + j.cur2 * pageSize + j.cur) 1024
  | none => d.locateEnd i j

/-- Read the next bytes of the twin's record sections. -/
def Dev.askRecord (d : Dev) (i : Nat) (j : TwinJob) : Dev :=
  let t := j.twinSlotNo (d.reg (.slotClseq j.slot))
  match recOffset recSections j.cur with
  | some o => d.twinAsk i { j with stage := 5 } (twinReg j.page t 0 / pageSize * pageSize + o) 64
  | none => d.locateEnd i j

/-- A locating job has its twin's slot: the header is read first. -/
def Dev.locateBegin (d : Dev) (i : Nat) (j : TwinJob) : Dev :=
  let t := j.twinSlotNo (d.reg (.slotClseq j.slot))
  d.twinAsk i { j with stage := 1 } (twinReg j.page t 0 / pageSize * pageSize) 64

/-- An answer comes for a locating job (13 R356). -/
def Dev.locateGot (d : Dev) (i : Nat) (j : TwinJob) (bs : List Byte) : Dev :=
  let k := j.slot
  let own := d.recBase k
  match j.stage with
  | 0 =>
    let j1 := { j with page := bs }
    match twinSlot bs (fun q _ => q == d.regN (.slotClseq k)) with
    | some _ => d.locateBegin i j1
    | none => d.locateEnd i j1
  | 1 =>
    let j1 := { j with own := BitVec.ofNat 64 (ofBytes (d.bytesAt (own + 32) 8)), twin := BitVec.ofNat 64 (fieldBytes bs 32 8), cur := 0 }
    let t := j.twinSlotNo (d.reg (.slotClseq k))
    d.twinAsk i { j1 with stage := 2 } (twinReg j.page t 0 / pageSize * pageSize + 0x1000) 1024
  | 2 =>
    let mine := d.bytesAt (own + 0x1000 + j.cur) 1024
    match firstDiff 128 j.cur mine bs with
    | some (o, _) =>
      match d.areas[o / 8]? with
      | some a => d.askLeaves i { j with area := a.idx, cur := 0, npg := 0, cur2 := 0, buf := [] }
      | none => d.locateEnd i j
    | none =>
      if j.cur + 1024 < 0x2000 then
        let t := j.twinSlotNo (d.reg (.slotClseq k))
        d.twinAsk i { j with cur := j.cur + 1024 } (twinReg j.page t 0 / pageSize * pageSize + 0x1000 + j.cur + 1024) 1024
      else if j.own = j.twin then d.locateEnd i j
      else d.askRecord i { j with cur := 0 }
  | 3 =>
    let as := d.areas
    let total := (as.map Area.pages).sum
    let a := twinReg j.page (j.twinSlotNo (d.reg (.slotClseq k))) 8 / 8 * 8 + 8 * j.cur
    let n := min ((64 - a % 32) / 8) (total - j.cur)
    let first := leafBase as j.area
    let scan := (List.range n).foldl (fun (t : TwinJob) x =>
      let mine := BitVec.ofNat 64 (ofBytes (d.bytesAt (d.leafAddr k (j.cur + x)) 8))
      let theirs := BitVec.ofNat 64 (fieldBytes bs (a % 32 + 8 * x) 8)
      if mine = theirs then t
      else
        let t1 := { t with npg := t.npg + 1 }
        if t.buf.isEmpty && decide (first ≤ j.cur + x) then
          { t1 with buf := [1], own := mine, twin := theirs, cur2 := j.cur + x - first }
        else t1) j
    if j.cur + n < total ∧ n ≠ 0 then d.askLeaves i { scan with cur := j.cur + n } else d.askPage i { scan with cur := 0 }
  | 4 =>
    match d.areas.find? (fun a => a.idx = j.area) with
    | none => d.locateEnd i j
    | some a =>
      let mine := d.bytesAt (a.dst k + j.cur2 * pageSize + j.cur) 1024
      match firstDiff 128 j.cur mine bs with
      | some (o, x) => d.locateFound i j j.area j.cur2 o x
      | none =>
        if j.cur + 1024 < pageSize then d.askPage i { j with cur := j.cur + 1024 } else d.locateFound i j j.area j.cur2 0 0
  | _ =>
    match recOffset recSections j.cur with
    | none => d.locateEnd i j
    | some o =>
      match firstDiff 8 0 (d.bytesAt (own + o) 64) bs with
      | some (p, x) => d.locateFound i { j with npg := 0 } 0x7FF ((o + p) / pageSize) ((o + p) % pageSize) x
      | none => d.askRecord i { j with cur := j.cur + 64 }

/-- A COMPARING device has read the twin's slots (13 R355): with the twin's clutch of the same CLSEQ in COMPARING, GOOD or
MISMATCH, equal roots make the slot GOOD, and others start the search for the difference. -/
def Dev.comparePoll (d : Dev) (slots : List Byte) : Dev :=
  match (List.range 2).find? (fun k => d.slotSt k = 2) with
  | none => d
  | some k =>
    let page := toBytes 0x100 (d.tmode * 16) ++ slots
    if (d.job 1).isSome then d
    else
      match twinSlot page (fun q st => q == d.regN (.slotClseq k) && (st == 2 || st == 3 || st == 5)) with
      | none => d
      | some t =>
        if twinReg page t 0x28 = d.regN (.slotRoot k) then d.makeGood k
        else d.locateBegin 1 { kind := 1, slot := k, page := page }

/-! ### Restore (13 R359 to R361) -/

/-- The areas with the frames that a record's region section names. -/
def Dev.areasAt (d : Dev) (rcd : List Byte) : List Area :=
  d.areaList.map (fun a => a.resolve (d.region a.unit a.num) (fieldBytes rcd (0x4000 + (a.unit * 32 + a.num) * 8) 8 / 2 ^ 31 % 2))

/-- Every page of every area is written back from the copies of slot `k`. -/
def Dev.restorePages (d : Dev) (k : Nat) (as : List Area) : Dev :=
  (pagesFrom as 0).foldl (fun (e : Dev) p =>
    e.copyPhys (e.physOf (p.1.dst k + p.2.1 * pageSize)) (p.1.base + p.2.1 * pageSize) pageSize) d

/-- The registers, tokens, queues and context entries of a record are written (13 R360, steps 2 to 7). The pointer of a command
queue is its fill level, and what the queue held is not recorded, so the FIFOs are left empty (DEDUCED, assumption log 25). -/
def Dev.restoreState (d : Dev) (rcd : List Byte) : Dev :=
  let w := fun o n => fieldBytes rcd o n
  let d1 := (List.range 72).foldl (fun (e : Dev) u => (List.range 32).foldl (fun (f : Dev) n =>
    f.setRegN (.pregStat u n) (w (0x4000 + (u * 32 + n) * 8) 8 / 65536 * 65536)) e) { d with written := [] }
  let d2 := ((d1.setRegN .chrStep (w 0x40 8)).setRegN .chrLs (w 0x48 4)).setRegN .chrLscfg (w 0x4C 4)
  let d3 := (List.range 512).foldl (fun (e : Dev) c =>
    let e1 := (List.range 256).foldl (fun (f : Dev) t => f.setRegN (.token c t) (w (0x10000 + c * 1024 + t * 4) 4)) e
    let e2 := (List.range 64).foldl (fun (f : Dev) q =>
      let o := 0x90000 + (c * 64 + q) * 16
      ((f.setRegN (.qbase c q) (w o 8)).setRegN (.qcfg c q) (w (o + 8) 4)).setRegN (.qptr c q) (w (o + 12) 4)) e1
    let e2 := e2.setCore c { e2.core c with fifo := [] }
    (List.range 80).foldl (fun (f : Dev) x =>
      let v := ctxOfBytes ((rcd.drop (0x110000 + (c * 80 + x) * 512)).take 512)
      f.setCtx c x (if v.state = 0 then v else v.setState 1)) e2) d2
  let d4 := (List.range 24).foldl (fun (e : Dev) p =>
    e.setPortOwn p { e.portOwn p with soRestore := some (BitVec.ofNat 32 (w (0x80 + p * 32) 4)) }) d3
  let d5 := (List.range d4.shardCnt).foldl (fun (e : Dev) i => e.setCur i (w (0x500 + i) 1 % 2 = 1)) d4
  let d6 := (((d5.setRegN .lulLmstep (w 0x390 8)).setRegN .lulMlwp (w 0x398 8)).setLulState 0).onLul (fun u =>
    { u with round := none, decOut := [], merging := none, bounds := [], sites := [], held := false })
  let d7 := (d6.setRegN .lulTstep 0).setRegN .lulOwd 0
  { d7.setRegN .snpLast (w 8 8) with snp := { d7.snp with clseq := BitVec.ofNat 64 (w 16 8) } }

/-- The leaves of the restored pages. -/
def Dev.restoredLeaves (d : Dev) (as : List Area) : List W64 :=
  (pagesFrom as 0).map (fun p => leafOf p.1.idx p.2.1 (d.physBytes (p.1.base + p.2.1 * pageSize) pageSize))

/-- The record as the restored state spells it, with the area roots over the restored pages (13 R361): what R360 does not write
back, and the state a context was recorded in, stand as the record has them (DEDUCED, assumption log 25). -/
def Dev.restoredRecord (d : Dev) (rcd : List Byte) (roots : List W64) : List Byte :=
  let w := fun o n => fieldBytes rcd o n
  let rootBytes := roots.flatMap (fun x => toBytes 8 x.toNat)
  rcd.take 0x40 ++
  chorusSection (d.regN .chrStep) (d.regN .chrLs) (d.regN .chrLscfg) (w 0x50 8) (w 0x58 8) ++
  (rcd.drop 0x80).take 0x310 ++ toBytes 8 (d.regN .lulLmstep) ++ toBytes 8 (d.regN .lulMlwp) ++ (rcd.drop 0x3A0).take 0x160 ++
  d.curSection ++ (rcd.drop 0x600).take 0xA00 ++
  rootBytes ++ (rcd.drop (0x1000 + rootBytes.length)).take (0x3000 - rootBytes.length) ++
  d.pregSection ++ (rcd.drop 0x8800).take 0x7800 ++ d.tokenSection ++
  d.queueSection (fun c q => if q < 20 then w (0x90000 + (c * 64 + q) * 16 + 12) 4 else d.regN (.qptr c q)) ++
  d.ctxSection (fun c x v =>
    let st := w (0x110000 + (c * 80 + x) * 512 + 0x108) 1 % 8
    if v.state = 0 then v else v.setState st)

/-- The first 8-byte word in which two records differ, over the ranges given: its offset and XOR. -/
def recordDiffAt (a b : List Byte) : List (Nat × Nat) → Option (Nat × W64)
  | [] => none
  | (o, n) :: r =>
    match firstDiff (n / 8) o ((a.drop o).take n) ((b.drop o).take n) with
    | some x => some x
    | none => recordDiffAt a b r

/-- The first difference of a restore that failed is recorded, the stored leaves standing in for the twin's: the lowest page
whose leaf differs, or with every leaf equal the first differing word of the record (13 R356, R361). -/
def Dev.restoreDiff (d : Dev) (k : Nat) (as : List Area) (ls : List W64) (now rcd : List Byte) : Dev :=
  let ps := pagesFrom as 0
  let differ := (List.range ls.length).filter (fun i => d.leavesOf k i 1 != (ls[i]?).toList)
  let job : TwinJob := { kind := 3, slot := k, npg := differ.length, own := rdigOfRecord now,
                         twin := BitVec.ofNat 64 (fieldBytes rcd 32 8) }
  match differ with
  | [] =>
    let x := ((recordDiffAt now rcd recSections).orElse (fun _ => recordDiffAt now rcd [(0x40, recLen - 0x40)])).getD (0, 0)
    d.recordDiff job 0x7FF (x.1 / pageSize) (x.1 % pageSize) x.2 false
  | i :: _ =>
    match ps[i]? with
    | none => d
    | some p =>
      let mine := d.physBytes (p.1.base + p.2.1 * pageSize) pageSize
      let copy := d.physBytes (d.physOf (p.1.dst k + p.2.1 * pageSize)) pageSize
      let df := if p.1.twin then (0, 0) else (firstDiff 8192 0 mine copy).getD (0, 0)
      d.recordDiff { job with own := ls.getD i 0, twin := (d.leavesOf k i 1).headD 0 } p.1.idx p.2.1 df.1 df.2 false

/-- The restored state is verified (13 R361): the leaves give the area roots, and RDIG, ROOT and FDIG must be the
header's. -/
def Dev.restoreVerify (d : Dev) (k : Nat) (rcd : List Byte) (lock : Option Nat) : Dev :=
  let as := d.areasAt rcd
  let ls := d.restoredLeaves as
  let roots := as.map (fun a => rootOfLeaves a.idx ((ls.drop (leafBase as a.idx)).take a.pages))
  let now := d.restoredRecord rcd roots
  let rdig := rdigOfRecord now
  let good := fieldBytes rcd 32 8 == rdig.toNat && fieldBytes rcd 24 8 == (rootOf roots rdig).toNat &&
    fieldBytes rcd 40 8 == (fdigOf now).toNat
  if !good then (d.restoreDiff k as ls now rcd).restoreEnd lock false
  else if d.tmode = 1 && d.twinDev.isSome && d.portUp (d.rbits .fabTwin 4 0) then
    d.twinAsk 3 { kind := 4, slot := k, lock := lock, own := rootOf roots rdig, twin := BitVec.ofNat 64 (fieldBytes rcd 16 8) }
      snpPage 512
  else d.restoreEnd lock true

/-- Whether RESTORE may run (13 R359), the twin's slot apart. -/
def Dev.restoreMay (d : Dev) : Bool :=
  !d.rbit .chrCfg 0 && (List.range 512).all (fun c => !d.rbit (.seqCtl c) 0) && !d.clutchRuns

/-- A command of SNP_CMD is rejected. -/
def Dev.snpRej (d : Dev) : Dev := d.setRbit .snpStatus 6 true

/-- SNP_CMD RESTORE (13 R359 to R361). -/
def Dev.snpRestore (d : Dev) (o : Owner) (k : Nat) (src : Bool) : Dev :=
  if !d.restoreMay || (d.job 3).isSome || (d.slotSt k != 3 && !(src && d.twinDev.isSome)) then d.snpRej
  else
    match d.takeLock o 9 0 with
    | (none, _) => (d.busyRec o 9 0).snpRej
    | (some i, d1) =>
      if src && d.twinDev.isNone then d1.restoreEnd (some i) false
      else if src then d1.twinAsk 3 { kind := 3, slot := k, lock := some i } snpPage 512
      else
        let rcd := d1.bytesAt (d1.recBase k) recLen
        ((d1.restorePages k (d1.areasAt rcd)).restoreState rcd).restoreVerify k rcd (some i)

/-- SNP_CMD COMPARE (13 R358). -/
def Dev.snpCompare (d : Dev) (o : Owner) : Dev :=
  match d.goodSlot with
  | none => d.snpRej
  | some k =>
    if (d.job 2).isSome || d.twinDev.isNone then d.snpRej
    else
      match d.takeLock o 10 0 with
      | (none, _) => (d.busyRec o 10 0).snpRej
      | (some i, d1) => d1.twinAsk 2 { kind := 2, slot := k, lock := some i } snpPage 512

/-- SNP_CMD DISCARD (13 R339). -/
def Dev.snpDiscard (d : Dev) (k : Nat) : Dev :=
  if d.slotSt k = 4 ∨ d.slotSt k = 5 then d.setReg (.slotState k) 0 else d.snpRej

/-- A write of SNP_CMD. -/
def Dev.snpCmd (d : Dev) (o : Owner) (v : W32) : Dev :=
  match bits v 3 0 with
  | 1 => d.snpRestore o (bits v 4 4) (bit v 8)
  | 2 => d.snpCompare o
  | 3 => d.snpDiscard (bits v 4 4)
  | _ => d.snpRej

/-- An answer comes for a restore from the twin (13 R359). -/
def Dev.restoreGot (d : Dev) (i : Nat) (j : TwinJob) (bs : List Byte) : Dev :=
  let k := j.slot
  match j.stage with
  | 0 =>
    if d.slotSt k ≠ 3 ∧ fieldBytes bs (0x100 + k * 0x80 + 0x30) 4 % 8 ≠ 3 then ((d.setJob i none).endLock j.lock).snpRej
    else
      let base := if d.tmode = 1 then twinReg bs k 0 / pageSize * pageSize else d.rbits (.slotTrbase k) 47 16 * pageSize
      d.twinAsk i { j with stage := 1, page := bs, cur := 0, cur2 := base } base 1024
  | 1 =>
    let j1 := { j with buf := j.buf ++ bs, cur := j.cur + 1024 }
    if j1.cur < recLen then d.twinAsk i j1 (j.cur2 + j1.cur) 1024
    else
      match pagesFrom (d.areasAt j1.buf) 0 with
      | [] => (((d.setJob i none).restoreState j1.buf)).restoreVerify k j1.buf j.lock
      | p :: _ => d.twinAsk i { j1 with stage := 2, cur := 0 } (p.1.dst k) 1024
  | _ =>
    let ps := pagesFrom (d.areasAt j.buf) 0
    match ps[j.cur / 64]? with
    | none => (((d.setJob i none).restoreState j.buf)).restoreVerify k j.buf j.lock
    | some p =>
      let d1 := d.putPhys (p.1.base + p.2.1 * pageSize + j.cur % 64 * 1024) bs
      match ps[(j.cur + 1) / 64]? with
      | some q => d1.twinAsk i { j with cur := j.cur + 1 } (q.1.dst k + q.2.1 * pageSize + (j.cur + 1) % 64 * 1024) 1024
      | none => (((d1.setJob i none).restoreState j.buf)).restoreVerify k j.buf j.lock

/-- The twin's ROOT of the restored clutch is compared; a difference is located in the twin's slot (13 R356, R361). With no slot
of that CLSEQ on the twin the restore fails (DEDUCED, assumption log 25). -/
def Dev.rootGot (d : Dev) (i : Nat) (j : TwinJob) (bs : List Byte) : Dev :=
  match twinSlot bs (fun q _ => q == j.twin.toNat) with
  | none => (d.setJob i none).restoreEnd j.lock false
  | some t =>
    if twinReg bs t 0x28 = j.own.toNat then (d.setJob i none).restoreEnd j.lock true
    else d.locateBegin i { kind := 5, slot := j.slot, lock := j.lock, page := bs }

/-! ### Split mode: the twin's side (13 R345) -/

/-- The TWIN areas of an area list read from the source. -/
def pullAreas (buf : List Byte) : List Area :=
  (List.range (buf.length / 32)).filterMap (fun i =>
    match areaOf i (sliceBytes buf (32 * i) 32) with
    | some a => if a.twin then some a else none
    | none => none)

/-- The pull is done: SNP_PULLSEQ shows the clutch. -/
def Dev.pullEnd (d : Dev) (i : Nat) (j : TwinJob) : Dev := (d.setJob i none).setRegN .snpPullseq (twinReg j.page j.area 0x20)

/-- Read the next piece of the source's record. -/
def Dev.pullRecord (d : Dev) (i : Nat) (j : TwinJob) : Dev :=
  if j.cur < recLen then d.twinAsk i { j with stage := 7 } (twinReg j.page j.area 0 / pageSize * pageSize + j.cur) 1024
  else d.pullEnd i j

/-- Read a piece of a TWIN area at byte `cur2`: of a region, through the view in which its recorded frame stands now (09 R250;
13 R338). A piece of a region counts only if the source's CUR is the same after the read (DESIGN CHOICE, assumption log 60). -/
def Dev.pullPage (d : Dev) (i : Nat) (j : TwinJob) (a : Area) : Dev :=
  let base := j.own.toNat + (if !a.reg || j.frame = j.view then 0 else j.npg * pageSize)
  d.twinAsk i { j with stage := 6 } (base + j.cur2) 1024

/-- Read the next TWIN area: area number `cur`; a region's frame is found first, from its PREG_CFG, the CUR of the source's
record and the CUR of now. -/
def Dev.pullNext (d : Dev) (i : Nat) (j : TwinJob) : Dev :=
  match (pullAreas j.buf)[j.cur]? with
  | none => d.pullRecord i { j with cur := 0 }
  | some a =>
    if a.reg then
      d.twinAsk i { j with stage := 2, cur2 := 0 } (pregBase + a.unit * 0x200 + a.num / 2 * 32) 32
    else d.pullPage i { j with frame := 0, view := 0, cur2 := 0, own := BitVec.ofNat 64 a.base, npg := a.pages } a

/-- A piece of a TWIN page has come: it is written to its destination, and the next one is read. -/
def Dev.pullPut (d : Dev) (i : Nat) (j : TwinJob) (a : Area) (bs : List Byte) : Dev :=
  let d1 := d.putAt (a.dst j.area + j.cur2) bs
  let n := j.cur2 + 1024
  if n < j.npg * pageSize then d1.pullPage i { j with cur2 := n } a else d1.pullNext i { j with cur := j.cur + 1 }

/-- An answer comes for a pull. -/
def Dev.pullGot (d : Dev) (i : Nat) (j : TwinJob) (bs : List Byte) : Dev :=
  match j.stage with
  | 0 =>
    match twinSlot bs (fun q st => q == d.regN (.slotClseq j.slot) && st == 1) with
    | none => d.setJob i none
    | some t =>
      let j1 := { j with page := bs, area := t, cur := 0, buf := [] }
      if fieldBytes bs 0x40 4 % 2048 = 0 then d.pullRecord i j1
      else d.twinAsk i { j1 with stage := 1 } (fieldBytes bs 0x38 8 / 32 % 2 ^ 43 * 32) 32
  | 1 =>
    let j1 := { j with buf := j.buf ++ bs, cur := j.cur + 1 }
    if j1.cur < fieldBytes j.page 0x40 4 % 2048 then
      d.twinAsk i j1 (fieldBytes j.page 0x38 8 / 32 % 2 ^ 43 * 32 + 32 * j1.cur) 32
    else d.pullNext i { j1 with cur := 0 }
  | 2 =>
    match (pullAreas j.buf)[j.cur]? with
    | none => d.setJob i none
    | some a =>
      let cfg := fieldBytes bs (a.num % 2 * 16) 8
      let now := fieldBytes bs (a.num % 2 * 16 + 8) 8 / 2 ^ 31 % 2
      let o := 0x4000 + (a.unit * 32 + a.num) * 8
      d.twinAsk i { j with stage := 3, own := BitVec.ofNat 64 (cfg / 65536 % 2 ^ 32 * pageSize), npg := cfg % 65536, view := now }
        (twinReg j.page j.area 0 / pageSize * pageSize + o / 32 * 32) 32
  | 3 =>
    match (pullAreas j.buf)[j.cur]? with
    | none => d.setJob i none
    | some a =>
      let f := fieldBytes bs ((a.unit * 32 + a.num) * 8 % 32) 8 / 2 ^ 31 % 2
      d.pullPage i { j with frame := f, cur2 := 0 } a
  | 6 =>
    match (pullAreas j.buf)[j.cur]? with
    | none => d.setJob i none
    | some a =>
      if a.reg then d.twinAsk i { j with stage := 8, data := bs } (pregBase + a.unit * 0x200 + a.num / 2 * 32) 32
      else d.pullPut i j a bs
  | 8 =>
    match (pullAreas j.buf)[j.cur]? with
    | none => d.setJob i none
    | some a =>
      let now := fieldBytes bs (a.num % 2 * 16 + 8) 8 / 2 ^ 31 % 2
      if now = j.view then d.pullPut i j a j.data else d.pullPage i { j with view := now } a
  | _ => (d.putAt (twinReg j.page j.area 0x10 / pageSize * pageSize + j.cur) bs).pullRecord i { j with cur := j.cur + 1024 }

/-- The twin's SNP looks whether the source's slot shows TAKING with the CLSEQ of its own running clutch, and pulls
(13 R345). -/
def Dev.twinPull (d : Dev) (k : Nat) : Dev :=
  if d.tmode = 2 && (d.slotSt k == 1 || d.slotSt k == 3) && (d.job 0).isNone && d.reg .snpPullseq != d.reg (.slotClseq k) &&
      d.twinDev.isSome then
    d.twinAsk 0 { kind := 0, slot := k } snpPage 512
  else d

/-- An answer to a remote read of the SNP: a refused or failed one ends the work, and makes a running clutch BAD with
cause 2 (13 R345). -/
def Dev.twinAnswer (d : Dev) (tag status : Nat) (bs : List Byte) : Dev :=
  let i := tag / 2 ^ 29 % 4
  match d.job i with
  | none => d
  | some j =>
    if j.tag ≠ tag then d
    else if status ≠ 0 then
      let d1 := d.setJob i none
      match j.kind with
      | 0 | 1 => if d1.slotSt j.slot = 1 ∨ d1.slotSt j.slot = 2 then d1.slotBad j.slot 2 else d1
      | 2 => d1.endLock j.lock
      | _ => d1.restoreEnd j.lock false
    else
      match j.kind with
      | 0 => d.pullGot i j bs
      | 3 => d.restoreGot i j bs
      | 4 => d.rootGot i j bs
      | _ => d.locateGot i j bs

/-! ### Registers and rows -/

/-- SNP_STATUS as it reads: GOODV, GOODSLOT and BUSY follow the slots. -/
def Dev.snpStatusRead (d : Dev) : Nat :=
  let g := match d.goodSlot with | some k => 4 + 2 * k | none => 0
  d.regN .snpStatus / 8 * 8 + g + b2n d.clutchRuns

/-- A write of a SNP configuration register (13): a value out of range sets CFGERR; TMODE, the area list and the slot
bases are written only while EN = 0 and no slot is TAKING or COMPARING. -/
def Dev.snpCfgWrite (d : Dev) (r : Reg) (v : W64) : Dev :=
  let w := v &&& BitVec.ofNat 64 r.rwMask
  let err := d.setRbit .snpStatus 7 true
  let locked := d.rbit .snpCtl 31 || d.clutchRuns
  match r with
  | .snpCtl =>
    let old := d.reg .snpCtl
    let w1 := if locked then setBits old 31 31 (bits v 31 31) else w
    let d1 := (if locked && bits v 5 4 != bits old 5 4 then err else d).setReg .snpCtl w1
    if bit w1 31 && !bit old 31 then { d1 with snp := { d1.snp with started := false } } else d1
  | .snpClcfg => if bits w 15 0 = 0 then err else d.setReg r w
  | .snpLbound => if bits w 31 0 < 2 * d.grid then err else d.setReg r w
  | .snpEstcfg => if 4 ≤ bits w 4 0 ∧ bits w 4 0 ≤ 20 then d.setReg r w else err
  | .snpAlcnt => if 1024 < bits v 10 0 || locked then err else d.setReg r w
  | .snpAlbase | .slotRbase _ | .slotDbase _ | .slotTrbase _ => if locked then err else d.setReg r w
  | _ => d.setReg r w

/-- CLUTCH_PAGE_COPY (13 R342, R344). -/
def execClutchPageCopy (page : W64) (s : State) : Host.Outcome State Fault Refusal := s.run (fun d => (d.pageCopy page.toNat).releaseBumps)

/-- TWIN_PULL (13 R345). -/
def execTwinPull (k : Fin 2) (s : State) : Host.Outcome State Fault Refusal := s.run (fun d => d.twinPull k)

/-- PULLSEQ_POLL (13 R345): the source has read the twin's PULLSEQ. -/
def execPullseqPoll (v : W64) (s : State) : Host.Outcome State Fault Refusal := s.run (fun d => (d.pullSeen v).releaseBumps)

/-- TWIN_COMPARE_POLL (13 R355): the device has read the twin's slot registers, 0x100 B from SNP offset 0x100. -/
def execTwinComparePoll (slot : List Byte) (s : State) : Host.Outcome State Fault Refusal :=
  s.run (fun d => d.comparePoll slot)

end Sys2Proof.Machine
end

