-- ==== Sys2Proof/Machine/Boundary.lean ====
section
/-! DEFINITION. The step boundary (09 R258, Table 9.4): the orders 1 to 6 with what makes them wait, the freeze of autotomy
and the stops of the FLT block that withhold order 6, and what ends them. -/

namespace Sys2Proof.Machine

/-- The device with the boundary at an order: 2 waits in order 3, 3 waits in order 4, 5 has closed the merge fence. -/
def Dev.atOrder (d : Dev) (n : Nat) : Dev := { d with chorus := { d.chorus with order := n } }

/-- Order 5, and the mode change that comes after it; a boundary that stage 5 has marked is frozen here (09 Table 9.4;
15 R396, R404). -/
def Dev.order5 (d : Dev) : Dev :=
  let d1 := (d.atOrder 5).modeAtBoundary
  if d1.pwr.flush = 2 then d1.setRbit .pwrStatus 28 true else d1

/-- Whether a clutch is due at this boundary (13 R340; 15 R404). -/
def Dev.clutchDue (d : Dev) : Bool := d.gridDue || d.fstepDue || (d.pwr.flush == 2 && d.rbit .snpCtl 31)

/-- Order 4: the estimator, and a due clutch, which CLUTCH_START starts; CLWAIT while its slot is taken (13 R340,
R341). -/
def Dev.order4 (d : Dev) : Dev :=
  let d1 := (d.estimate).atOrder 3
  if d1.clutchDue then
    let d2 := if d1.fstepDue then d1.setRbit .snpFstep 63 false else d1
    let d3 := { d2 with snp := { d2.snp with due := true } }
    if d3.clutchRuns then d3.setRbit .snpStatus 3 true else d3
  else d1.order5

/-- The boundary goes on as far as it can. -/
def Dev.boundaryGo (d : Dev) : Dev :=
  if d.chorus.applying = 0 then d
  else
    let d1 := if d.chorus.order = 2 && !d.fenceBusy then d.order4 else d
    if d1.chorus.order = 3 && !d1.snp.due then d1.order5 else d1

/-- After an event that may end a wait of order 3, the fence is looked at again. -/
def Dev.boundaryAgain (d : Dev) : Dev := if d.chorus.applying ≠ 0 ∧ d.chorus.order = 2 then d.fenceAgain.boundaryGo else d

/-- The decision that waits is applied (09 R258): HOLD, or orders 1 to 3 with OPEN set; a boundary marked by stage 5 is
taken (15 R404). -/
def Dev.decisionApply (d : Dev) : Dev :=
  match d.chorus.decision with
  | none => d
  | some (dec, causes) =>
    let d0 := { d with chorus := { d.chorus with decision := none } }
    if d.chorus.applying ≠ 0 then d
    else if dec = 3 then { d0 with chorus := { d0.chorus with sent := true } }.applyHold causes
    else
      let d1 := { d0 with
        chorus := { d0.chorus with applying := dec }
        pwr := { d0.pwr with flush := if d0.pwr.flush = 1 then 2 else d0.pwr.flush } }
      let d2 := (d1.setRbit .chrStatus 0 true).order1 dec causes
      let d3 := if dec = 2 then (d2.setRbit .chrStatus 2 true).skipAll else d2.commitAll
      ((d3.atOrder 2).mergeFence).boundaryGo

/-- Order 6: DTOK, OPEN cleared, and what Lular does after it (09 Table 9.4; 12 R317, R319). -/
def Dev.order6 (d : Dev) : Dev :=
  let d1 := d.bumpDtok.setRbit .chrStatus 0 false
  ({ d1 with chorus := { d1.chorus with applying := 0, order := 0 } }).lulAfter

/-- Whether order 6 is withheld: by the freeze of autotomy or by a stop of the FLT block (14 R377; 15 R404). -/
def Dev.withheld6 (d : Dev) : Bool := d.rbit .pwrStatus 28 || d.flt.withheld

/-- BOUNDARY_FINISH: order 6, unless a stop that was asked for takes place here, or it is withheld. -/
def Dev.boundaryFinish (d : Dev) : Dev :=
  if d.chorus.applying = 0 || d.chorus.order ≠ 5 then d
  else if d.chorus.stopAsked ≠ 0 then
    let d1 := d.stopNow d.chorus.stopAsked
    { d1 with chorus := { d1.chorus with stopAsked := 0 }, flt := { d1.flt with withheld := true } }
  else if d.withheld6 then d
  else d.order6

/-- DTOK is bumped at the end of a stop or freeze: with the boundary at its order 6 that order runs, unless the other still
withholds it (14 R377; 15 R404). -/
def Dev.releaseDtok (d : Dev) : Dev :=
  if d.withheld6 then d
  else if d.chorus.applying ≠ 0 && d.chorus.order == 5 then d.order6
  else d.bumpDtok

/-- PWR_CMD RESUME (15 R405). -/
def Dev.pwrResume (d : Dev) : Dev :=
  if d.rbit .pwrStatus 28 && decide (d.sag = 0) then (d.setRbit .pwrStatus 28 false).releaseDtok else d.pwrErr

/-- A due clutch starts, and the boundary goes on; the final clutch of stage 5 is noted (13 R341, R342; 15 R404). -/
def Dev.clutchNow (d : Dev) : Dev :=
  let k := d.nextSlot
  let d1 := d.clutchStart
  if d.snp.due && !d1.snp.due then
    ((if d1.pwr.flush = 2 then { d1 with pwr := { d1.pwr with slot := some k } } else d1)).boundaryGo
  else d1

/-! ### Rows of the table -/

/-- DECISION_APPLY (09 R258). -/
def execDecisionApply (s : State) : Host.Outcome State Fault Refusal := s.run (fun d => d.decisionApply)

/-- BOUNDARY_FINISH (09 R258). -/
def execBoundaryFinish (s : State) : Host.Outcome State Fault Refusal := s.run (fun d => d.boundaryFinish)

/-- CLUTCH_START (13 R342). -/
def execClutchStart (s : State) : Host.Outcome State Fault Refusal := s.run (fun d => d.clutchNow)

end Sys2Proof.Machine
end

