-- ==== Sys2Proof/Machine/Die.lean ====
section
/-! DEFINITION. Reset domains (18 R456), holding a die in reset and releasing it (14 R376; 08 R203, R233; 09 R254), the
host port's reset (17 R445), and the repair record in SPI NOR (17 R440). -/

namespace Sys2Proof.Machine

/-! ### Access paths (18 R453) -/

/-- A number for each access path: each has its own latches and held words. -/
def pathNo (p : Path) : Nat :=
  match p with
  | .host => 0
  | .bdp n => 1 + n
  | .smbus => 9
  | .jtag => 10
  | .mgc => 11
  | .ctx c x => 12 + c * 80 + x

/-- Whether a path number belongs to the host port. -/
def hostPath (n : Nat) : Bool := decide (n < 9)

/-! ### Reset domains (18 Table 18.2) -/

/-- The die of an arbiter instance (11 Table 11.3). -/
def arbDie (i : Nat) : Nat := if i < 2048 then i / 32 / 16 else if i < 2072 then (i - 2048) / 6 else (i - 2072) / 34 / 2

/-- The die of a region unit. -/
def unitDie (u : Nat) : Nat := if u < 64 then u / 16 else (u - 64) / 2

/-- The die whose die-local group holds the register at a DPA (18 Table 18.2). -/
def dieLocal (a : Nat) : Option Nat :=
  if 0xFF80000000 ≤ a ∧ a < 0xFF82000000 then some ((a - 0xFF80000000) / 0x10000 / 128)
  else if 0xFF00510000 ≤ a ∧ a < 0xFF00511800 then some ((a - 0xFF00510000) / 0x100 / 6)
  else if 0xFF00700000 ≤ a ∧ a < 0xFF00780000 then some ((a - 0xFF00700000) / 0x10000 / 2)
  else if 0xFF00A00000 ≤ a ∧ a < 0xFF00A20000 then (arbInstance (a - 0xFF00A00000)).map arbDie
  else if 0xFF00410000 ≤ a ∧ a < 0xFF00414000 then some ((a - 0xFF00410000) / 0x100 / 16)
  else if pregBase ≤ a ∧ a < pregBase + 72 * 0x200 ∧ 8 ≤ a % 16 then some (unitDie ((a - pregBase) / 0x200))
  else if 0xFF00600000 ≤ a ∧ a < 0xFF00602000 then some ((a - 0xFF00600000) / 0x1000 + 1)
  else if 0xFF00800000 ≤ a ∧ a < 0xFF00900000 then some 0
  else none

/-! ### The host port's reset (17 R445) -/

/-- The PCIe controller, the BDP channels, the timestamp rings and MSI-X return to their reset values; requests in flight
are dropped. The read latches and held writes of the BAR0 and BDP paths go with them, which neither 17 R445 nor 18 R453 says
(DESIGN CHOICE, assumption log 53). -/
def Dev.hostReset (d : Dev) : Dev :=
  { d with
    regs := mapDrop (fun a => decide (0xFF00800000 ≤ a ∧ a < 0xFF00900000)) d.regs
    bdp := []
    msixOpen := []
    msixPend := []
    latches := mapDrop hostPath d.latches
    heldWrites := mapDrop hostPath d.heldWrites }

/-! ### Die reset (14 R376) -/

/-- Whether a slot has an area, a destination, its record or its digests on die `n` (13 Table 13.3). -/
def Dev.slotOnDie (d : Dev) (k n : Nat) : Bool :=
  let on := fun (a len : Nat) => decide (0 < len) && (memDie a == some n || memDie (a + len - 1) == some n)
  on (d.recBase k) recLen || on (d.leafAddr k 0) (8 * (d.areas.map Area.pages).sum) ||
  d.areas.any (fun a => on a.base (a.pages * pageSize) || (!a.twin && on (a.dst k) (a.pages * pageSize)))

/-- The slots that a die reset hits become BAD with cause 4. -/
def Dev.slotsHit (d : Dev) (n : Nat) : Dev :=
  (List.range 2).foldl (fun (e : Dev) k =>
    if e.slotSt k ≠ 0 ∧ e.slotSt k ≠ 4 ∧ d.slotOnDie k n then e.slotBad k 4 else e) d

/-- Die `n` is held in reset: its memories are zero, its cores and contexts, region units, codec slots, ports, stacks and
LHP are as after reset (08 R203, R233; 09 R254; 14 R376; 18 R456). -/
def Dev.dieHold (d : Dev) (n : Nat) : Dev :=
  let d0 := d.slotsHit n
  let d1 := if n = 1 ∨ n = 2 then d0.lhpDown (n - 1) else d0
  let gone := fun (a : Nat) => memDie a == some n
  let unitGone := fun (k : Nat) => unitDie (k / 65536 / 32) == n
  let d2 := { d1 with
    diesUp := mapSet (fun _ => false) d1.diesUp n false
    mem := mapDrop gone d1.mem
    badPar := mapDrop gone d1.badPar
    regs := mapDrop (fun a => dieLocal a == some n) d1.regs
    cores := mapDrop (fun c => c / 128 == n) d1.cores
    prot := mapDrop (fun p => gone (p * pageSize)) d1.prot
    waitingWrites := d1.waitingWrites.filter (fun w => !gone w.1)
    written := mapDrop unitGone d1.written
    links := mapDrop (fun p => p / 6 == n) d1.links
    arbs := mapDrop (fun i => arbDie i == n) d1.arbs
    tabs := mapDrop (fun i => i / 4 / 2 == n) d1.tabs
    trace := mapDrop (fun i => i / 256 / 128 == n) d1.trace
    lulHeld := d1.lulHeld.filter (fun e => e.1 + 1 ≠ n) }
  let d3 := (List.range 6).foldl (fun (e : Dev) i => e.setRbit .fabStatus (6 * n + i) false) d2
  (if n = 0 then d3.hostReset else d3).noteAbsent

/-- A lane or channel repair of the record that lies on die `n` is in force again: LSPARE, or a spare's LC and V (14 R382;
DEDUCED, assumption log 43). -/
def Dev.mapRepair (n : Nat) (d : Dev) (r : Nat × Nat) : Dev :=
  let i := unitIndex r.1
  if unitKind r.1 = 6 ∧ i % 256 / 6 = n then d.setRbits (.portCtl (i % 256)) 12 8 (i / 256 - 1)
  else if unitKind r.1 = 8 ∧ i / 64 / 2 = n then
    let s := i / 64
    let d1 := if d.rbits (.stkChmap s) 4 0 = i % 64 then d.setRbit (.stkChmap s) 7 false else d
    if r.2 = 32 then (d1.setRbits (.stkChmap s) 4 0 (i % 64)).setRbit (.stkChmap s) 7 true
    else (d1.setRbits (.stkChmap s) 12 8 (i % 64)).setRbit (.stkChmap s) 15 true
  else d

/-- Die `n` is released: its memories have been zeroed, its links train, its stacks show DONE; its repairs are in force again (08
R203; 14 R376, R382). -/
def Dev.dieRelease (d0 : Dev) (n : Nat) : Dev :=
  let d := d0.mgc.repairs.foldl (Dev.mapRepair n) d0
  let d1 := { d with diesUp := mapSet (fun _ => false) d.diesUp n true }
  (d1.setRbit (.stkInit (2 * n)) 0 true).setRbit (.stkInit (2 * n + 1)) 0 true

/-! ### A failing supply (15 R407) -/

/-- The supply fails: every die is held in reset, a stage 5 in progress is abandoned, every clutch slot becomes BAD with
cause 4, and the event is recorded. Stages 1 to 4 stay in force until they are reversed. -/
def Dev.supplyFail (d : Dev) : Dev :=
  let d1 := (List.range 4).foldl (fun (e : Dev) n => e.dieHold n) d
  let d2 := (List.range 2).foldl (fun (e : Dev) k => e.slotBad k 4) d1
  let p := d2.pwr
  let p1 := if p.flush = 0 then p else { p with flush := 0, top := min p.top 4, hot := false }
  let d3 := { d2 with pwr := { p1 with failing := true, recovered := false, steady := false, reversing := false } }
  (((d3.setRbit .pwrStatus 26 false).setRbit .pwrStatus 7 true).faultAt 0x0A03 (unitId 0 0) d3.failCause)

/-- What follows from what the supply monitors see (15 R401, R402, R406, R407). -/
def Dev.supplyReact (d : Dev) : Dev :=
  let d1 := if d.supplyFailing then (if d.pwr.failing then d else d.supplyFail)
    else { d with pwr := { d.pwr with failing := false } }
  if d1.belowWarning then d1.supplyLow else if d1.supplyGood then d1.supplyUp else d1.supplyBand

/-! ### The repair record (17 R440; 14 R382; 15 R412) -/

/-- The base of a repair record sector. -/
def rrBase (k : Nat) : Nat := 0x100000 + k * 0x10000

/-- Bytes of SPI NOR; erased bytes read 0xFF. -/
def Dev.spiBytes (d : Dev) (a n : Nat) : List Byte := mapRead (fun _ => 0xFF) d.mgc.spi a n

/-- SPI NOR with a run of bytes written. -/
def Dev.spiWrite (d : Dev) (a : Nat) (bs : List Byte) : Dev :=
  { d with mgc := { d.mgc with spi := mapWrite (fun _ => 0xFF) d.mgc.spi a bs } }

/-- Whether a sector holds a valid record: its CRC-32, in the last four bytes, is right (layout: DESIGN CHOICE, assumption
log 30). -/
def Dev.rrValid (d : Dev) (k : Nat) : Bool :=
  let b := d.spiBytes (rrBase k) 0x10000
  d.mgc.spiFitted && fieldBytes b 0xFFFC 4 == (crc32 (b.take 0xFFFC)).toNat

/-- The sequence number of a sector. -/
def Dev.rrSeq (d : Dev) (k : Nat) : Nat := ofBytes (d.spiBytes (rrBase k) 4)

/-- The valid sector with the higher sequence number. -/
def Dev.rrSector (d : Dev) : Option Nat :=
  match d.rrValid 0, d.rrValid 1 with
  | true, true => some (if d.rrSeq 0 < d.rrSeq 1 then 1 else 0)
  | true, false => some 0
  | false, true => some 1
  | false, false => none

/-- The repairs of a sector, as unit and spare, 8 bytes each. -/
def Dev.rrRepairs (d : Dev) (k : Nat) : List (Nat × Nat) :=
  (List.range (min 8190 (ofBytes (d.spiBytes (rrBase k + 4) 4)))).map (fun i =>
    let b := d.spiBytes (rrBase k + 0x218 + 8 * i) 8
    (fieldBytes b 0 4, fieldBytes b 4 4))

/-- The bytes of a sector: sequence number, repair count, PWR_TJACC, PWR_TJTIME, the slot maps, the repairs, CRC-32. -/
def Dev.rrBytes (d : Dev) (sq : Nat) : List Byte :=
  let head := toBytes 4 sq ++ toBytes 4 d.mgc.repairs.length ++ toBytes 8 (d.regN .pwrTjacc) ++ toBytes 8 (d.regN .pwrTjtime) ++
    (List.range 64).flatMap (fun c => toBytes 8 (d.regN (.slotmap c))) ++
    d.mgc.repairs.flatMap (fun r => toBytes 4 r.1 ++ toBytes 4 r.2)
  let body := sliceBytes head 0 0xFFFC
  body ++ toBytes 4 (crc32 body).toNat

/-- The MGC writes the record to the other sector with the next sequence number. -/
def Dev.rrSave (d : Dev) : Dev :=
  match d.rrSector with
  | some k => d.spiWrite (rrBase (1 - k)) (d.rrBytes (d.rrSeq k + 1))
  | none => d

/-- A repair is added to the record: unit and spare. -/
def Dev.addRepair (d : Dev) (unit spare : Nat) : Dev :=
  { d with mgc := { d.mgc with repairs := d.mgc.repairs ++ [(unit, spare)] } }.rrSave

/-- The bank of an SRAM unit ID with row. -/
def bankOf (u : Nat) : Nat := u - u / 2 ^ 16 % 2 ^ 11 * 2 ^ 16

/-- What a repair of the record has used: a port's spare lane, a spare row of a bank, or a spare channel that an earlier repair of
the same logical channel gave it and a later one took away (14 R379 to R382). -/
def Flt.noteRepair (f : Flt) (r : Nat × Nat) (later : List (Nat × Nat)) : Flt :=
  let i := unitIndex r.1
  match unitKind r.1 with
  | 6 => { f with spareLanes := mapSet (fun _ => false) f.spareLanes (i % 256) true }
  | 9 => { f with spareRows := mapSet (fun _ => 0) f.spareRows (bankOf r.1) (r.2 + 1) }
  | 8 =>
    if later.any (fun x => x.1 == r.1) then
      { f with retired := mapSet (fun _ => false) f.retired (i / 64 * 2 + (r.2 - 32)) true }
    else f
  | _ => f

/-- What the repairs of the record have used, oldest first. -/
def noteRepairs : List (Nat × Nat) → Flt → Flt
  | [], f => f
  | r :: rs, f => noteRepairs rs (f.noteRepair r rs)

/-- The repairs of a record are known again (14 R382). -/
def Dev.takeRepairs (d : Dev) (rs : List (Nat × Nat)) : Dev :=
  { d with mgc := { d.mgc with repairs := rs }, flt := noteRepairs rs d.flt }

/-- REPAIR_RECORD_SAVE (15 R412): the Tj counters. -/
def execRepairRecordSave (s : State) : Host.Outcome State Fault Refusal := s.run (fun d => d.rrSave)

end Sys2Proof.Machine
end

