-- ==== Sys2Proof/Machine/Scalar.lean ====
section
/-! DEFINITION. Scalar operations of slots A and B (07 R176 to R187; 03 R62, R67, R74, R79): their checks, gates and
effects, as bundles carry them and as the scalar commands of the table take effect on a READY context. -/

namespace Sys2Proof.Machine

/-! ### Arithmetic (07 Table 7.2, R178, R179) -/

/-- The signed quotient truncated towards zero; 0 for a zero divisor (07 R179). -/
def divS (x y : W64) : W64 := if y = 0 then 0 else BitVec.ofInt 64 (x.toInt.tdiv y.toInt)

/-- The signed remainder with the sign of the dividend; the dividend for a zero divisor. -/
def remS (x y : W64) : W64 := if y = 0 then x else BitVec.ofInt 64 (x.toInt.tmod y.toInt)

/-- The unsigned quotient; 0 for a zero divisor. -/
def divU (x y : W64) : W64 := if y = 0 then 0 else BitVec.ofNat 64 (x.toNat / y.toNat)

/-- The unsigned remainder; the dividend for a zero divisor. -/
def remU (x y : W64) : W64 := if y = 0 then x else BitVec.ofNat 64 (x.toNat % y.toNat)

/-- A truth value as a 64-bit word. -/
def flag64 (b : Bool) : W64 := if b then 1 else 0

/-- The result of an arithmetic opcode on two 64-bit values (07 Table 7.2); an immediate opcode takes the immediate as
its second value. -/
def alu (op : Nat) (x y : W64) : W64 :=
  match op with
  | 0x10 => x + y
  | 0x11 => x - y
  | 0x12 => x * y
  | 0x13 => BitVec.ofInt 64 ((x.toInt * y.toInt) / 2 ^ 64)
  | 0x14 => divS x y
  | 0x15 => remS x y
  | 0x16 => divU x y
  | 0x17 => remU x y
  | 0x18 => x &&& y
  | 0x19 => x ||| y
  | 0x1A => x ^^^ y
  | 0x1B => x <<< (y.toNat % 64)
  | 0x1C => x >>> (y.toNat % 64)
  | 0x1D => x.sshiftRight (y.toNat % 64)
  | 0x1E => flag64 (x.slt y)
  | 0x1F => flag64 (x.ult y)
  | 0x20 => flag64 (x == y)
  | 0x30 => x + y
  | 0x38 => x &&& y
  | 0x39 => x ||| y
  | 0x3A => x ^^^ y
  | 0x3B => x <<< (y.toNat % 64)
  | 0x3C => x >>> (y.toNat % 64)
  | 0x3D => x.sshiftRight (y.toNat % 64)
  | 0x3E => flag64 (x.slt y)
  | _ => 0

/-! ### Operations -/

/-- A decoded scalar word (07 Table 7.2). Tokens are core tokens. -/
inductive SOp where
  | nop
  /-- Form R: opcode, d, a, b. -/
  | alu (op d a b : Nat)
  /-- Form I: opcode, d, a, the immediate sign-extended. -/
  | alui (op d a : Nat) (imm : W64)
  | movi (d : Nat) (v : W64)
  | movhi (d h : Nat)
  /-- Branch kinds: 0 BR, 1 BRZ, 2 BRNZ; a; the offset in bundles. -/
  | branch (kind a : Nat) (off : W32)
  | jr (a : Nat)
  | call (d : Nat) (off : W32)
  | wait (t a : Nat)
  | lease (u : Nat)
  | release (u : Nat)
  | halt
  | trap (imm : Nat)
  | fclr (mask : Nat)
  | rdst (d : Nat)
  | rdtok (d t : Nat)
  | setprio (p : Nat)
  | a1bar
  /-- Loads: size, sign extension, d, a, the offset in bytes. -/
  | load (size : Nat) (signed : Bool) (d a : Nat) (off : W32)
  | store (size d a : Nat) (off : W32)
  /-- Queue operations: push or pop, the form that does not wait, binding, first register. -/
  | queue (push tryForm : Bool) (n a : Nat)
  | tbump (t : Nat)
  deriving DecidableEq, Repr

/-- The slot that the operation is charged to when it stands alone: B for memory, queue and TBUMP operations. -/
def SOp.slot (o : SOp) : Nat :=
  match o with
  | .load .. => 1
  | .store .. => 1
  | .queue .. => 1
  | .tbump .. => 1
  | _ => 0

/-- A register number as a scalar register ID. -/
def sregId (n : Nat) : SRegId := Fin.ofNat 32 n

/-- The registers a scalar word writes, as Table 7.11 counts them (07 R194). -/
def SOp.writes (o : SOp) : List Nat :=
  match o with
  | .alu _ d _ _ => [d]
  | .alui _ d _ _ => [d]
  | .movi d _ => [d]
  | .movhi d _ => [d]
  | .call d _ => [d]
  | .rdst d => [d]
  | .rdtok d _ => [d]
  | .load _ _ d _ _ => [d]
  | .queue push tryForm _ a =>
    (if push then [] else (List.range 8).map (fun i => (a + i) % 32)) ++ (if tryForm then [(a + 8) % 32] else [])
  | _ => []

/-- The address of a load or store: S[a] + off modulo 2^48 (07 R184). -/
def memAddr (k : Ctx) (a : Nat) (off : W32) : Nat := (k.sreg a + off.signExtend 64).toNat % 2 ^ 48

/-! ### Checks (07 R180, R184, R186, R193, R195) -/

/-- An exception that decoded values raise as ILLEGAL or A1C (07 R180, R186, R195). -/
def SOp.valueFail (o : SOp) (a1c : Bool) : Option Exc :=
  match o with
  | .lease u | .release u =>
    if ¬ (u = 0 ∨ u = 1 ∨ u = 3) then some { code := 1, slot := 0, detail := 6 }
    else if a1c then some { code := 0xA, slot := 0, detail := 1 } else none
  | .a1bar => if a1c then none else some { code := 0xA, slot := 0, detail := 2 }
  | .queue _ _ _ a => if a % 8 = 0 then none else some { code := 1, slot := 1, detail := 7 }
  | _ => none

/-- The QCLASS exception of a queue operation, if it raises one. -/
def Dev.opQueueFail (d : Dev) (c x : Nat) (o : SOp) : Option Exc :=
  match o with
  | .queue push _ n _ =>
    (d.queueFail c x n (if push then .push else .pop)).map (fun t => { code := 5, slot := 1, detail := t })
  | _ => none

/-- The exceptions at issue that R193 does not list: TRAP; of slot B the misaligned ADDRESS, then WINDOW. They come after
the slot's other checks, before any gate (07 R182; DEDUCED, assumption log 11). -/
def Dev.opLateFail (d : Dev) (c : Nat) (k : Ctx) (o : SOp) : Option Exc :=
  let mem := fun (perm size a : Nat) =>
    if a % size ≠ 0 then some { code := 4, slot := 1, detail := 1, dpa := a : Exc }
    else (k.accessFail perm a size).map (fun t => { code := 3, slot := 1, detail := t, dpa := a })
  match o with
  | .trap imm => some { code := 0xB, slot := 0, detail := imm }
  | .load size _ _ a off => mem 0 size (memAddr k a off)
  | .store size _ a off => mem 1 size (memAddr k a off)
  | .queue push tryForm n _ =>
    let q := bits (k.binding n) 5 0
    let e := if push then d.pushEntry c q else d.popEntry c q
    if tryForm && !(if push then d.roomToPush c q else d.entryToPop c q) then none
    else if k.allows (b2n push) e 64 then none
    else some { code := 3, slot := 1, dpa := e }
  | _ => none

/-- Every check of one scalar word that stands alone, in order. -/
def Dev.opFail (d : Dev) (c x : Nat) (o : SOp) : Option Exc :=
  let k := d.ctx c x
  (o.valueFail k.a1c).or ((d.opQueueFail c x o).or (d.opLateFail c k o))

/-- The gates of a scalar word (07 R182). -/
def SOp.gates (o : SOp) (k : Ctx) : List Gate :=
  match o with
  | .wait t a => [.token t ((k.sreg a).setWidth 32)]
  | .lease u => [.lease u]
  | .a1bar => [.a1bar]
  | .queue true false n _ => [.push n]
  | .queue false false n _ => [.pop n]
  | _ => []

/-! ### Effects (07 R176, R181) -/

/-- The value of S[a] to S[a + 7] as a queue entry (03 R67). -/
def entryBytes (k : Ctx) (a : Nat) : List Byte :=
  (List.range 8).flatMap (fun i => toBytes 8 (k.sreg ((a + i) % 32)).toNat)

/-- A slot B access is queued behind the context's earlier ones (07 R184). -/
def Dev.addAcc (d : Dev) (c x : Nat) (a : SlotB) : Dev := d.onCtx c x (fun k => { k with acc := k.acc ++ [a] })

/-- Whether the context has a store or push still to complete. -/
def hasStore (acc : List SlotB) : Bool :=
  acc.any (fun a => match a with | .store .. => true | .push .. => true | _ => false)

/-- Context `x` of core `c` bumps token `t` once its earlier stores are visible (07 R187). -/
def Dev.slotBump (d : Dev) (c x t : Nat) : Dev :=
  if hasStore (d.ctx c x).acc then d.addAcc c x (.bump (Fin.ofNat 256 t)) else d.bump c t (some x) 7

/-- The register write of a scalar word, where it writes at the end of the issue cycle, from the context as it stood
before the bundle (07 R176). -/
def Dev.opValue (d : Dev) (c : Nat) (k : Ctx) (o : SOp) : Option (Nat × W64) :=
  match o with
  | .alu op r a b => some (r, alu op (k.sreg a) (k.sreg b))
  | .alui op r a imm => some (r, alu op (k.sreg a) imm)
  | .movi r v => some (r, v)
  | .movhi r h => some (r, setBits (k.sreg r) 63 48 h)
  | .call r _ => some (r, k.pc + 32)
  | .rdst r => some (r, k.cstatus)
  | .rdtok r t => some (r, d.reg (.token c t))
  | _ => none

/-- The address a branch that is taken goes to (07 R181). -/
def SOp.target (o : SOp) (k : Ctx) : Option W64 :=
  let go := fun (off : W32) => (k.pc + off.signExtend 64 * 32) &&& 0xFFFFFFFFFFFF#64
  match o with
  | .branch 0 _ off => some (go off)
  | .branch 1 a off => if k.sreg a = 0 then some (go off) else none
  | .branch _ a off => if k.sreg a ≠ 0 then some (go off) else none
  | .jr a => some (k.sreg a &&& 0xFFFFFFFFFFFF#64)
  | .call _ off => some (go off)
  | _ => none

/-- The next issue number of the core: it orders commands and queue accesses (04 R107; 03 R66). -/
def Dev.nextOrd (d : Dev) (c : Nat) : Nat × Dev := ((d.core c).ord, d.onCore c (fun k => { k with ord := k.ord + 1 }))

/-- What a queue operation does at issue (03 R67): an access in flight, or 0 as the success value of a form that does not
wait and does not succeed. -/
def Dev.opQueue (d : Dev) (c x : Nat) (k : Ctx) (push tryForm : Bool) (n a : Nat) : Dev :=
  let q := bits (k.binding n) 5 0
  let ok := if push then d.roomToPush c q else d.entryToPop c q
  if !ok then
    if tryForm then d.onCtx c x (fun e => e.setS ((a + 8) % 32) 0) else d
  else
    let r := d.nextOrd c
    r.2.addAcc c x
      (if push then .push q (sregId a) tryForm (entryBytes k a) r.1 k.pc else .pop q (sregId a) tryForm r.1 k.pc)

/-- The effect of a scalar word other than a branch and HALT, from the context as it stood before the bundle. -/
def Dev.opEffect (d : Dev) (c x : Nat) (k : Ctx) (o : SOp) : Dev :=
  match d.opValue c k o with
  | some (r, v) => d.onCtx c x (fun e => e.setS r v)
  | none =>
    match o with
    | .release u => d.onCore c (fun e => e.release u x)
    | .fclr m => d.onCtx c x (fun e => { e with cstatus := e.cstatus &&& ~~~(BitVec.ofNat 64 (m % 8 * 2 ^ 16)) })
    | .setprio p => d.onCtx c x (fun e => { e with cstatus := setBits e.cstatus 6 4 p })
    | .load size signed r a off =>
      (d.addAcc c x (.load (sregId r) (memAddr k a off) size signed k.pc)).count (c * 8) 7 1
    | .store size r a off => d.addAcc c x (.store (memAddr k a off) size (k.sreg r) k.pc)
    | .queue push tryForm n a => d.opQueue c x k push tryForm n a
    | .tbump t => d.slotBump c x t
    | _ => d

/-- The PC and STATE that slot A leaves, `next` being the PC where no branch is taken (07 R181, R183). -/
def Dev.opControl (d : Dev) (c x : Nat) (k : Ctx) (o : SOp) (next : W64) : Dev :=
  let d1 := d.onCtx c x (fun e => { e with pc := (o.target k).getD next })
  if o = .halt then d1.haltSelf c x else d1

/-! ### Scalar commands of the table -/

/-- Whether a slot B access in flight keeps its context from being selected: a load (07 R185), and a queue operation that
writes registers when it completes (DEDUCED, assumption log 12). -/
def SlotB.holds (a : SlotB) : Bool :=
  match a with
  | .load .. => true
  | .pop .. => true
  | .push _ _ tryForm _ _ _ => tryForm
  | _ => false

/-- Whether context `x` of core `c` may issue: it is READY, its core runs, and no load is in flight. -/
def Dev.mayIssue (d : Dev) (c x : Nat) : Bool :=
  d.coreRuns c && decide ((d.ctx c x).state = 2) && !(d.ctx c x).acc.any SlotB.holds

/-- A scalar word takes effect on a READY context by itself: its checks, its gate, its effect. The PC moves only by a
branch that is taken; fetching and the PC's advance are BUNDLE_ISSUE's (assumption log 13). -/
def Dev.scalarRow (d : Dev) (c x : Nat) (o : SOp) : Dev :=
  if !d.mayIssue c x then d
  else
    let k := d.ctx c x
    match d.opFail c x o with
    | some e => d.raiseExc c x k.pc e
    | none =>
      match d.tryGates c x (o.gates k) with
      | (some g, d1) => d1.waitOn c x (o.gates k) g
      | (none, d1) =>
        ((d1.onCtx c x (fun e => { e with wait := 0, gated := [] })).opEffect c x k o).opControl c x k o k.pc

/-- NOP (07 R174). -/
def execNop (core : CoreId) (ctx : CtxId) (s : State) : Host.Outcome State Fault Refusal :=
  s.run (fun e => e.scalarRow core ctx .nop)

/-- ADD (07 Table 7.2). -/
def execAdd (core : CoreId) (ctx : CtxId) (d a b : SRegId) (s : State) : Host.Outcome State Fault Refusal :=
  s.run (fun e => e.scalarRow core ctx (.alu 0x10 d a b))

/-- SUB. -/
def execSub (core : CoreId) (ctx : CtxId) (d a b : SRegId) (s : State) : Host.Outcome State Fault Refusal :=
  s.run (fun e => e.scalarRow core ctx (.alu 0x11 d a b))

/-- MUL. -/
def execMul (core : CoreId) (ctx : CtxId) (d a b : SRegId) (s : State) : Host.Outcome State Fault Refusal :=
  s.run (fun e => e.scalarRow core ctx (.alu 0x12 d a b))

/-- MULH. -/
def execMulh (core : CoreId) (ctx : CtxId) (d a b : SRegId) (s : State) : Host.Outcome State Fault Refusal :=
  s.run (fun e => e.scalarRow core ctx (.alu 0x13 d a b))

/-- DIV (07 R179). -/
def execDiv (core : CoreId) (ctx : CtxId) (d a b : SRegId) (s : State) : Host.Outcome State Fault Refusal :=
  s.run (fun e => e.scalarRow core ctx (.alu 0x14 d a b))

/-- REM (07 R179). -/
def execRem (core : CoreId) (ctx : CtxId) (d a b : SRegId) (s : State) : Host.Outcome State Fault Refusal :=
  s.run (fun e => e.scalarRow core ctx (.alu 0x15 d a b))

/-- DIVU (07 R179). -/
def execDivu (core : CoreId) (ctx : CtxId) (d a b : SRegId) (s : State) : Host.Outcome State Fault Refusal :=
  s.run (fun e => e.scalarRow core ctx (.alu 0x16 d a b))

/-- REMU (07 R179). -/
def execRemu (core : CoreId) (ctx : CtxId) (d a b : SRegId) (s : State) : Host.Outcome State Fault Refusal :=
  s.run (fun e => e.scalarRow core ctx (.alu 0x17 d a b))

/-- AND. -/
def execAndOp (core : CoreId) (ctx : CtxId) (d a b : SRegId) (s : State) : Host.Outcome State Fault Refusal :=
  s.run (fun e => e.scalarRow core ctx (.alu 0x18 d a b))

/-- OR. -/
def execOrOp (core : CoreId) (ctx : CtxId) (d a b : SRegId) (s : State) : Host.Outcome State Fault Refusal :=
  s.run (fun e => e.scalarRow core ctx (.alu 0x19 d a b))

/-- XOR. -/
def execXorOp (core : CoreId) (ctx : CtxId) (d a b : SRegId) (s : State) : Host.Outcome State Fault Refusal :=
  s.run (fun e => e.scalarRow core ctx (.alu 0x1A d a b))

/-- SHL. -/
def execShl (core : CoreId) (ctx : CtxId) (d a b : SRegId) (s : State) : Host.Outcome State Fault Refusal :=
  s.run (fun e => e.scalarRow core ctx (.alu 0x1B d a b))

/-- SHR. -/
def execShr (core : CoreId) (ctx : CtxId) (d a b : SRegId) (s : State) : Host.Outcome State Fault Refusal :=
  s.run (fun e => e.scalarRow core ctx (.alu 0x1C d a b))

/-- SAR. -/
def execSar (core : CoreId) (ctx : CtxId) (d a b : SRegId) (s : State) : Host.Outcome State Fault Refusal :=
  s.run (fun e => e.scalarRow core ctx (.alu 0x1D d a b))

/-- SLT. -/
def execSlt (core : CoreId) (ctx : CtxId) (d a b : SRegId) (s : State) : Host.Outcome State Fault Refusal :=
  s.run (fun e => e.scalarRow core ctx (.alu 0x1E d a b))

/-- SLTU. -/
def execSltu (core : CoreId) (ctx : CtxId) (d a b : SRegId) (s : State) : Host.Outcome State Fault Refusal :=
  s.run (fun e => e.scalarRow core ctx (.alu 0x1F d a b))

/-- SEQ. -/
def execSeq (core : CoreId) (ctx : CtxId) (d a b : SRegId) (s : State) : Host.Outcome State Fault Refusal :=
  s.run (fun e => e.scalarRow core ctx (.alu 0x20 d a b))

/-- ADDI. -/
def execAddi (core : CoreId) (ctx : CtxId) (d a : SRegId) (imm : W32) (s : State) : Host.Outcome State Fault Refusal :=
  s.run (fun e => e.scalarRow core ctx (.alui 0x30 d a (imm.signExtend 64)))

/-- ANDI. -/
def execAndi (core : CoreId) (ctx : CtxId) (d a : SRegId) (imm : W32) (s : State) : Host.Outcome State Fault Refusal :=
  s.run (fun e => e.scalarRow core ctx (.alui 0x38 d a (imm.signExtend 64)))

/-- ORI. -/
def execOri (core : CoreId) (ctx : CtxId) (d a : SRegId) (imm : W32) (s : State) : Host.Outcome State Fault Refusal :=
  s.run (fun e => e.scalarRow core ctx (.alui 0x39 d a (imm.signExtend 64)))

/-- XORI. -/
def execXori (core : CoreId) (ctx : CtxId) (d a : SRegId) (imm : W32) (s : State) : Host.Outcome State Fault Refusal :=
  s.run (fun e => e.scalarRow core ctx (.alui 0x3A d a (imm.signExtend 64)))

/-- A shift by an immediate: imm[31:6] must be 0 (07 Table 7.2, R177). -/
def Dev.shiftRow (d : Dev) (c x : Nat) (op r a : Nat) (imm : W32) : Dev :=
  if bits imm 31 6 = 0 then d.scalarRow c x (.alui op r a (imm.signExtend 64))
  else if d.mayIssue c x then d.raiseExc c x (d.ctx c x).pc { code := 1, slot := 0, detail := 3 } else d

/-- SHLI. -/
def execShli (core : CoreId) (ctx : CtxId) (d a : SRegId) (imm : W32) (s : State) : Host.Outcome State Fault Refusal :=
  s.run (fun e => e.shiftRow core ctx 0x3B d a imm)

/-- SHRI. -/
def execShri (core : CoreId) (ctx : CtxId) (d a : SRegId) (imm : W32) (s : State) : Host.Outcome State Fault Refusal :=
  s.run (fun e => e.shiftRow core ctx 0x3C d a imm)

/-- SARI. -/
def execSari (core : CoreId) (ctx : CtxId) (d a : SRegId) (imm : W32) (s : State) : Host.Outcome State Fault Refusal :=
  s.run (fun e => e.shiftRow core ctx 0x3D d a imm)

/-- SLTI. -/
def execSlti (core : CoreId) (ctx : CtxId) (d a : SRegId) (imm : W32) (s : State) : Host.Outcome State Fault Refusal :=
  s.run (fun e => e.scalarRow core ctx (.alui 0x3E d a (imm.signExtend 64)))

/-- MOVI. -/
def execMovi (core : CoreId) (ctx : CtxId) (d : SRegId) (imm : W48) (s : State) : Host.Outcome State Fault Refusal :=
  s.run (fun e => e.scalarRow core ctx (.movi d (imm.signExtend 64)))

/-- MOVHI: imm48[47:16] must be 0 (07 Table 7.2, R177). -/
def execMovhi (core : CoreId) (ctx : CtxId) (d : SRegId) (imm : W48) (s : State) : Host.Outcome State Fault Refusal :=
  s.run (fun e =>
    if bits imm 47 16 = 0 then e.scalarRow core ctx (.movhi d imm.toNat)
    else if e.mayIssue core ctx then e.raiseExc core ctx (e.ctx core ctx).pc { code := 1, slot := 0, detail := 3 } else e)

/-- BR (07 R181). -/
def execBr (core : CoreId) (ctx : CtxId) (off : W32) (s : State) : Host.Outcome State Fault Refusal :=
  s.run (fun e => e.scalarRow core ctx (.branch 0 0 off))

/-- BRZ (07 R181). -/
def execBrz (core : CoreId) (ctx : CtxId) (a : SRegId) (off : W32) (s : State) : Host.Outcome State Fault Refusal :=
  s.run (fun e => e.scalarRow core ctx (.branch 1 a off))

/-- BRNZ (07 R181). -/
def execBrnz (core : CoreId) (ctx : CtxId) (a : SRegId) (off : W32) (s : State) : Host.Outcome State Fault Refusal :=
  s.run (fun e => e.scalarRow core ctx (.branch 2 a off))

/-- JR (07 R181). -/
def execJr (core : CoreId) (ctx : CtxId) (a : SRegId) (s : State) : Host.Outcome State Fault Refusal :=
  s.run (fun e => e.scalarRow core ctx (.jr a))

/-- CALL (07 R181). -/
def execCall (core : CoreId) (ctx : CtxId) (d : SRegId) (off : W32) (s : State) : Host.Outcome State Fault Refusal :=
  s.run (fun e => e.scalarRow core ctx (.call d off))

/-- WAIT (03 R74). -/
def execWait (core : CoreId) (ctx : CtxId) (t : TokenId) (a : SRegId) (s : State) : Host.Outcome State Fault Refusal :=
  s.run (fun e => e.scalarRow core ctx (.wait t a))

/-- LEASE (03 R79). -/
def execLease (core : CoreId) (ctx : CtxId) (u : BitVec 3) (s : State) : Host.Outcome State Fault Refusal :=
  s.run (fun e => e.scalarRow core ctx (.lease u.toNat))

/-- RELEASE (03 R79). -/
def execRelease (core : CoreId) (ctx : CtxId) (u : BitVec 3) (s : State) : Host.Outcome State Fault Refusal :=
  s.run (fun e => e.scalarRow core ctx (.release u.toNat))

/-- HALT (07 R183). -/
def execHalt (core : CoreId) (ctx : CtxId) (s : State) : Host.Outcome State Fault Refusal :=
  s.run (fun e => e.scalarRow core ctx .halt)

/-- TRAP (03 R81). -/
def execTrap (core : CoreId) (ctx : CtxId) (imm : Byte) (s : State) : Host.Outcome State Fault Refusal :=
  s.run (fun e => e.scalarRow core ctx (.trap imm.toNat))

/-- FCLR (03 R62). -/
def execFclr (core : CoreId) (ctx : CtxId) (mask : BitVec 3) (s : State) : Host.Outcome State Fault Refusal :=
  s.run (fun e => e.scalarRow core ctx (.fclr mask.toNat))

/-- RDST (03 R62). -/
def execRdst (core : CoreId) (ctx : CtxId) (d : SRegId) (s : State) : Host.Outcome State Fault Refusal :=
  s.run (fun e => e.scalarRow core ctx (.rdst d))

/-- RDTOK (07 Table 7.2). -/
def execRdtok (core : CoreId) (ctx : CtxId) (d : SRegId) (t : TokenId) (s : State) : Host.Outcome State Fault Refusal :=
  s.run (fun e => e.scalarRow core ctx (.rdtok d t))

/-- SETPRIO (07 R183). -/
def execSetprio (core : CoreId) (ctx : CtxId) (p : BitVec 3) (s : State) : Host.Outcome State Fault Refusal :=
  s.run (fun e => e.scalarRow core ctx (.setprio p.toNat))

/-- A1BAR (07 R195). -/
def execA1bar (core : CoreId) (ctx : CtxId) (s : State) : Host.Outcome State Fault Refusal :=
  s.run (fun e => e.scalarRow core ctx .a1bar)

/-- LD8 (07 R184). -/
def execLd8 (core : CoreId) (ctx : CtxId) (d a : SRegId) (off : W32) (s : State) : Host.Outcome State Fault Refusal :=
  s.run (fun e => e.scalarRow core ctx (.load 1 true d a off))

/-- LD8U. -/
def execLd8u (core : CoreId) (ctx : CtxId) (d a : SRegId) (off : W32) (s : State) : Host.Outcome State Fault Refusal :=
  s.run (fun e => e.scalarRow core ctx (.load 1 false d a off))

/-- LD16. -/
def execLd16 (core : CoreId) (ctx : CtxId) (d a : SRegId) (off : W32) (s : State) : Host.Outcome State Fault Refusal :=
  s.run (fun e => e.scalarRow core ctx (.load 2 true d a off))

/-- LD16U. -/
def execLd16u (core : CoreId) (ctx : CtxId) (d a : SRegId) (off : W32) (s : State) : Host.Outcome State Fault Refusal :=
  s.run (fun e => e.scalarRow core ctx (.load 2 false d a off))

/-- LD32. -/
def execLd32 (core : CoreId) (ctx : CtxId) (d a : SRegId) (off : W32) (s : State) : Host.Outcome State Fault Refusal :=
  s.run (fun e => e.scalarRow core ctx (.load 4 true d a off))

/-- LD32U. -/
def execLd32u (core : CoreId) (ctx : CtxId) (d a : SRegId) (off : W32) (s : State) : Host.Outcome State Fault Refusal :=
  s.run (fun e => e.scalarRow core ctx (.load 4 false d a off))

/-- LD64. -/
def execLd64 (core : CoreId) (ctx : CtxId) (d a : SRegId) (off : W32) (s : State) : Host.Outcome State Fault Refusal :=
  s.run (fun e => e.scalarRow core ctx (.load 8 true d a off))

/-- ST8. -/
def execSt8 (core : CoreId) (ctx : CtxId) (d a : SRegId) (off : W32) (s : State) : Host.Outcome State Fault Refusal :=
  s.run (fun e => e.scalarRow core ctx (.store 1 d a off))

/-- ST16. -/
def execSt16 (core : CoreId) (ctx : CtxId) (d a : SRegId) (off : W32) (s : State) : Host.Outcome State Fault Refusal :=
  s.run (fun e => e.scalarRow core ctx (.store 2 d a off))

/-- ST32. -/
def execSt32 (core : CoreId) (ctx : CtxId) (d a : SRegId) (off : W32) (s : State) : Host.Outcome State Fault Refusal :=
  s.run (fun e => e.scalarRow core ctx (.store 4 d a off))

/-- ST64. -/
def execSt64 (core : CoreId) (ctx : CtxId) (d a : SRegId) (off : W32) (s : State) : Host.Outcome State Fault Refusal :=
  s.run (fun e => e.scalarRow core ctx (.store 8 d a off))

/-- QPUSH (03 R67). -/
def execQpush (core : CoreId) (ctx : CtxId) (n : Fin 16) (a : SRegId) (s : State) : Host.Outcome State Fault Refusal :=
  s.run (fun e => e.scalarRow core ctx (.queue true false n a))

/-- QPOP (03 R67). -/
def execQpop (core : CoreId) (ctx : CtxId) (n : Fin 16) (a : SRegId) (s : State) : Host.Outcome State Fault Refusal :=
  s.run (fun e => e.scalarRow core ctx (.queue false false n a))

/-- QTPUSH (03 R67). -/
def execQtpush (core : CoreId) (ctx : CtxId) (n : Fin 16) (a : SRegId) (s : State) : Host.Outcome State Fault Refusal :=
  s.run (fun e => e.scalarRow core ctx (.queue true true n a))

/-- QTPOP (03 R67). -/
def execQtpop (core : CoreId) (ctx : CtxId) (n : Fin 16) (a : SRegId) (s : State) : Host.Outcome State Fault Refusal :=
  s.run (fun e => e.scalarRow core ctx (.queue false true n a))

/-- TBUMP (07 R187). -/
def execTbump (core : CoreId) (ctx : CtxId) (t : TokenId) (s : State) : Host.Outcome State Fault Refusal :=
  s.run (fun e => e.scalarRow core ctx (.tbump t))

end Sys2Proof.Machine
end

