-- ==== Sys2Proof/Machine/Issue.lean ====
section
/-! DEFINITION. Bundles (07 R174 to R195; 03 R51 to R55): decoding the four slots, the checks at issue in their order,
the gates, issuing a bundle as a whole, and the selection of a context. -/

namespace Sys2Proof.Machine

/-! ### Scalar words (07 Tables 7.2, 7.3) -/

/-- The slots that accept a scalar opcode: 1 A, 2 B, 3 both, 0 not listed. -/
def scalarSlots (op : Nat) : Nat :=
  if op = 0 ∨ (0x10 ≤ op ∧ op ≤ 0x20) ∨ op = 0x30 ∨ (0x38 ≤ op ∧ op ≤ 0x3E) ∨ op = 0x40 ∨ op = 0x41 then 3
  else if (0x80 ≤ op ∧ op ≤ 0x84) ∨ (0x88 ≤ op ∧ op ≤ 0x90) ∨ op = 0x9F then 1
  else if (0xA0 ≤ op ∧ op ≤ 0xA6) ∨ (0xA8 ≤ op ∧ op ≤ 0xAB) ∨ (0xB0 ≤ op ∧ op ≤ 0xB4) then 2
  else 0

/-- The bits below the opcode that an opcode's form names (07 Table 7.3). -/
def scalarMask (op : Nat) : Nat :=
  let d := maskBits 55 51
  let a := maskBits 50 46
  let b := maskBits 45 41
  let t := maskBits 39 32
  let off := maskBits 31 0
  if 0x10 ≤ op ∧ op ≤ 0x20 then d + a + b
  else if op = 0x30 ∨ (0x38 ≤ op ∧ op ≤ 0x3A) ∨ op = 0x3E then d + a + off
  else if 0x3B ≤ op ∧ op ≤ 0x3D then d + a + maskBits 5 0
  else if op = 0x40 then d + maskBits 47 0
  else if op = 0x41 then d + maskBits 15 0
  else if op = 0x80 then off
  else if op = 0x81 ∨ op = 0x82 then a + off
  else if op = 0x83 then a
  else if op = 0x84 then d + off
  else if op = 0x88 then a + t
  else if op = 0x89 ∨ op = 0x8A then maskBits 34 32
  else if op = 0x8C then maskBits 7 0
  else if op = 0x8D ∨ op = 0x90 then maskBits 2 0
  else if op = 0x8E then d
  else if op = 0x8F then d + t
  else if (0xA0 ≤ op ∧ op ≤ 0xA6) ∨ (0xA8 ≤ op ∧ op ≤ 0xAB) then d + a + off
  else if 0xB0 ≤ op ∧ op ≤ 0xB3 then maskBits 55 52 + a
  else if op = 0xB4 then t
  else 0

/-- The token that a token field names: in A1C mode core token 192 + [5:0] (03 R84; 07 Table 7.12). -/
def tokenOf (a1c : Bool) (t : Nat) : Nat := if a1c then 192 + t % 64 else t

/-- A scalar word decoded (07 Table 7.2). -/
def scalarOp (w : W64) (a1c : Bool) : SOp :=
  let op := bits w 63 56
  let d := bits w 55 51
  let a := bits w 50 46
  let b := bits w 45 41
  let t := tokenOf a1c (bits w 39 32)
  let off : W32 := w.setWidth 32
  let imm := off.signExtend 64
  if 0x10 ≤ op ∧ op ≤ 0x20 then .alu op d a b
  else if op = 0x30 ∨ (0x38 ≤ op ∧ op ≤ 0x3E) then .alui op d a imm
  else
    match op with
    | 0x40 => .movi d ((w.setWidth 48).signExtend 64)
    | 0x41 => .movhi d (bits w 15 0)
    | 0x80 => .branch 0 0 off
    | 0x81 => .branch 1 a off
    | 0x82 => .branch 2 a off
    | 0x83 => .jr a
    | 0x84 => .call d off
    | 0x88 => .wait t a
    | 0x89 => .lease (bits w 34 32)
    | 0x8A => .release (bits w 34 32)
    | 0x8B => .halt
    | 0x8C => .trap (bits w 7 0)
    | 0x8D => .fclr (bits w 2 0)
    | 0x8E => .rdst d
    | 0x8F => .rdtok d t
    | 0x90 => .setprio (bits w 2 0)
    | 0x9F => .a1bar
    | 0xA0 => .load 1 true d a off
    | 0xA1 => .load 1 false d a off
    | 0xA2 => .load 2 true d a off
    | 0xA3 => .load 2 false d a off
    | 0xA4 => .load 4 true d a off
    | 0xA5 => .load 4 false d a off
    | 0xA6 => .load 8 true d a off
    | 0xA8 => .store 1 d a off
    | 0xA9 => .store 2 d a off
    | 0xAA => .store 4 d a off
    | 0xAB => .store 8 d a off
    | 0xB0 => .queue true false (bits w 55 52) a
    | 0xB1 => .queue false false (bits w 55 52) a
    | 0xB2 => .queue true true (bits w 55 52) a
    | 0xB3 => .queue false true (bits w 55 52) a
    | 0xB4 => .tbump t
    | _ => .nop

/-- Whether a scalar opcode has a token field. -/
def hasToken (op : Nat) : Bool := op == 0x88 || op == 0x8F || op == 0xB4

/-- The lowest ILLEGAL detail of the scalar word in slot 0 or 1, if any (07 R175, R177, R180, R186, Table 7.12). -/
def scalarIllegal (slot : Nat) (w : W64) (a1c : Bool) : Option Nat :=
  let op := bits w 63 56
  let allowed := scalarSlots op
  if allowed = 0 then some 1
  else if allowed / 2 ^ slot % 2 = 0 then some 2
  else if w.toNat % 2 ^ 56 &&& (2 ^ 56 - 1 - scalarMask op) ≠ 0 then some 3
  else if a1c && hasToken op && decide (bits w 39 38 ≠ 0) then some 3
  else
    match (scalarOp w a1c).valueFail a1c with
    | some e => if e.code = 1 then some e.detail else none
    | none => none

/-! ### Engine words (07 R188 to R192) -/

/-- VEPI, the wide command. -/
def isWide (w : W64) : Bool := bits w 63 61 == 2 && opOf w == 0x0B

/-- Whether the word is an EXT word. -/
def isExt (w : W64) : Bool := bits w 63 61 == 6

/-- Whether the word is a command of an engine. -/
def isEngine (w : W64) : Bool := decide (1 ≤ bits w 63 61 ∧ bits w 63 61 ≤ 5)

/-- Whether the command is RSUM, RMAX, RMIN or RSSQ. -/
def isReduce (w : W64) : Bool := bits w 63 61 == 3 && decide (opOf w < 4)

/-- Whether a TR value has its reserved bits at 0 (07 Table 7.5). -/
def trOk (v : Nat) : Bool := 32 ≤ v || v / 4 = 0

/-- Whether a PM value has its reserved bits at 0. -/
def pmOk (v : Nat) : Bool := 32 ≤ v || v / 8 = 0

/-- Whether a field value leaves reserved bits of its type nonzero. -/
def fieldReserved (f : Field) (v : Nat) : Bool :=
  match f.2 with
  | .tr => !trOk v
  | .pm => !pmOk v
  | _ => false

/-- The operand fields that a command does not use, given its others, and that are nonzero (07 R177, R191; 05 R131). -/
def unusedNonzero (w : W64) : Bool :=
  let o := opnd w
  match engOf w, opOf w with
  | 1, 0x03 => decide (o 0 ≠ 3 ∧ o 3 ≠ 0)
  | 1, 0x0B =>
    decide (o 1 = 0 ∧ (o 2 ≠ 0 ∨ o 3 ≠ 0)) || decide (o 4 = 0 ∧ o 5 ≠ 0) || decide (o 6 = 0 ∧ o 7 ≠ 0)
  | 2, 0x06 => if o 0 = 2 then decide (o 2 ≠ 0 ∨ o 4 ≠ 0) else decide (o 0 ≤ 1 ∧ o 3 ≠ 0)
  | 2, op => decide (op < 4 ∧ o 0 = 0 ∧ o 2 ≠ 0)
  | _, _ => false

/-- A field combination of RSUM, RMAX, RMIN or RSSQ that R191 refuses. -/
def reduceRefused (w : W64) : Bool :=
  let o := opnd w
  decide (o 0 = 1 ∧ (16 ≤ o 1 ∨ o 7 ≠ 0 ∨ o 8 ≠ 0)) || decide (o 3 = 1 ∧ (opOf w ≠ 0 ∨ o 4 = 1))

/-- The ILLEGAL details of an engine word's header and fields (07 R177, R188, R190, R191; Table 7.12). -/
def engineDetails (w : W64) (fs : List Field) (a1c : Bool) : List Nat :=
  let vs := fieldVals w 32 fs
  let pairs := fs.zip vs
  let header := (!bit w 47 && decide (bits w 55 48 ≠ 0)) || (!bit w 46 && decide (bits w 45 33 ≠ 0)) ||
    (a1c && decide (bits w 55 54 ≠ 0 ∨ bits w 45 44 ≠ 0))
  let low := decide (w.toNat % 2 ^ fieldsEnd 32 fs ≠ 0)
  let res := pairs.any (fun p => fieldReserved p.1 p.2) || (isReduce w && opnd w 0 = 0 && !trOk (opnd w 1))
  let fmt := pairs.any (fun p => p.1.2 == .fmt && decide (6 ≤ p.2))
  let rnd := pairs.any (fun p => (p.1.2 == .rnd || (p.1.2 == .rndTurn && !a1c)) && decide (2 ≤ p.2))
  let enum := pairs.any (fun p => match p.1.2 with | .upTo n => decide (n < p.2) | _ => false)
  (if header || low || res || unusedNonzero w then [3] else []) ++ (if fmt then [4] else []) ++
  (if rnd then [5] else []) ++ (if enum || (isReduce w && reduceRefused w) then [6] else [])

/-- The ILLEGAL details of an EXT word; `first` is the word in slot C (05 R131). -/
def extDetails (w first : W64) : List Nat :=
  let vs := fieldVals w 60 extFields
  let low := decide (w.toNat % 2 ^ fieldsEnd 60 extFields ≠ 0)
  let unused := isWide first && decide (opnd first 6 = 1) && vs.any (fun v => decide (v ≠ 0))
  (if low || unused then [3] else []) ++ (if 6 ≤ vs.getD 0 0 then [4] else []) ++ (if 2 ≤ vs.getD 4 0 then [5] else [])

/-- The lowest ILLEGAL detail of the word in slot C or D, if any. -/
def engineIllegal (w first : W64) (a1c : Bool) : Option Nat :=
  let e := bits w 63 61
  if e = 0 then (if w = 0 then none else some 3)
  else if e = 7 then some 1
  else if e = 6 then (extDetails w first).head?
  else
    match engFields (engOf w) (opOf w) with
    | none => some 1
    | some fs => (engineDetails w fs a1c).head?

/-- Whether the word in slot C or D raises A1C in A1C mode (07 Table 7.12). -/
def engineA1c (w : W64) : Bool :=
  if isExt w then
    let f := extOpnd w 0
    f = 3 || f = 4 || extOpnd w 4 = 1
  else if !isEngine w then false
  else
    let fs := (engFields (engOf w) (opOf w)).getD []
    let pairs := fs.zip (operands w)
    let named := match engOf w, opOf w with
      | 0, 3 => true
      | 2, 4 => true
      | 2, 5 => true
      | 2, 6 => true
      | 3, _ => true
      | 1, 0x0B => decide (opnd w 6 = 1)
      | _, _ => false
    named || (isReduce w && opnd w 0 = 0 && decide (opnd w 1 < 32)) ||
    pairs.any (fun p => match p.1.2 with
      | .tr => decide (p.2 < 32)
      | .tb => true
      | .fmt => p.2 == 3 || p.2 == 4
      | .rnd => p.2 == 1
      | _ => false)

/-! ### Illegal combinations (07 R194) -/

/-- The leased unit that an engine word needs (03 R78). -/
def unitOfWord (w : W64) : Option Nat := if isEngine w then unitOfQueue (4 * engOf w) else none

/-- A bundle: its four words. -/
structure Bundle where
  a : W64
  b : W64
  c : W64
  d : W64
  deriving DecidableEq, Repr

/-- The word of a slot. -/
def Bundle.word (x : Bundle) (slot : Nat) : W64 := if slot = 0 then x.a else if slot = 1 then x.b else if slot = 2 then x.c else x.d

/-- The unit that slot A leases or releases. -/
def leaseOf (o : SOp) : Option Nat :=
  match o with
  | .lease u => some u
  | .release u => some u
  | _ => none

/-- The ILLCOMBO detail charged to a slot, if any: case, and the other slot in [15:8] (07 Table 7.11). -/
def Bundle.combo (x : Bundle) (a1c : Bool) (slot : Nat) : Option Nat :=
  let oa := scalarOp x.a a1c
  let ob := scalarOp x.b a1c
  let needs := fun w => (leaseOf oa).isSome && leaseOf oa == unitOfWord w
  match slot with
  | 1 => if oa.writes.any ob.writes.contains then some 1 else none
  | 2 => if isExt x.c then some (2 + 3 * 256) else if needs x.c then some 3 else none
  | 3 =>
    if isWide x.d || (isWide x.c && !isExt x.d) || (isExt x.d && !isWide x.c) then some (2 + 2 * 256)
    else if needs x.d && !needs x.c then some 3 else none
  | _ => none

/-! ### Checks of a whole bundle (07 R193) -/

/-- UNIT of an exception of slot C or D (03 Table 3.7). -/
def excUnit (slot : Nat) (w : W64) : Nat := if 2 ≤ slot ∧ isEngine w then engOf w else 0xFF

/-- The first exception of a slot, in the order ILLEGAL, A1C, ILLCOMBO, QCLASS, LEASE, then what R193 does not list. -/
def Dev.slotFail (d : Dev) (c x : Nat) (k : Ctx) (bu : Bundle) (slot : Nat) : Option Exc :=
  let w := bu.word slot
  let a1c := k.a1c
  let exc := fun (code det : Nat) =>
    some { code := code, slot := slot, unit := excUnit slot w, detail := det, cmd := if 2 ≤ slot then w else 0 : Exc }
  let scalar := decide (slot < 2)
  let o := scalarOp w a1c
  match if scalar then scalarIllegal slot w a1c else engineIllegal w bu.c a1c with
  | some det => exc 1 det
  | none =>
    let a1cBad := if scalar then (match o.valueFail a1c with | some e => some e.detail | none => none)
      else if a1c && engineA1c w then some 1 else none
    match a1cBad with
    | some det => exc 0xA det
    | none =>
      match bu.combo a1c slot with
      | some det => exc 2 det
      | none =>
        if scalar then (d.opQueueFail c x o).or (d.opLateFail c k o)
        else if !isEngine w then none
        else
          match d.queueFail c x (engOf w) (.engine (engOf w)) with
          | some det => exc 5 det
          | none =>
            match unitOfWord w with
            | some u => if !a1c && !bit k.cstatus (leaseBit u) then exc 6 u else none
            | none => none

/-- The exception of the earliest slot that raises one (03 R53). -/
def Dev.bundleFail (d : Dev) (c x : Nat) (k : Ctx) (bu : Bundle) : Option Exc :=
  [0, 1, 2, 3].findSome? (d.slotFail c x k bu)

/-! ### Gates and issue (03 R52; 07 R182) -/

/-- Entries that slots C and D put into command queues: binding and count. A wide command counts two (07 R192). -/
def Bundle.room (x : Bundle) (k : Ctx) : List Gate :=
  let q := fun w => bits (k.binding (engOf w)) 5 0
  let n := fun w => if isWide w then 2 else 1
  let two := isEngine x.c && isEngine x.d && q x.c == q x.d
  (if isEngine x.c then [Gate.room 2 (engOf x.c) (n x.c + if two then 1 else 0) x.c] else []) ++
  (if isEngine x.d && !two then [Gate.room 3 (engOf x.d) 1 x.d] else [])

/-- The lease gates of engine commands in A1C mode: the first command to a leased engine takes the lease (03 R84). -/
def Bundle.implicit (x : Bundle) (a1c : Bool) : List Gate :=
  if a1c then ([x.c, x.d].filterMap unitOfWord).map Gate.lease else []

/-- The gates of a bundle in their order. -/
def Bundle.gates (x : Bundle) (k : Ctx) : List Gate :=
  (scalarOp x.a k.a1c).gates k ++ x.implicit k.a1c ++ (scalarOp x.b k.a1c).gates k ++ x.room k

/-- The command that an engine word makes (04 R111). -/
def mkCmd (x : Nat) (k : Ctx) (w ext : W64) (isE : Bool) (ord : Nat) : Cmd :=
  { ctx := x, pc := k.pc, word := w, ext := ext, isExt := isE, s := k.s, seed := k.seed, step := k.step.setWidth 32,
    a1c := k.a1c, ord := ord }

/-- The command of slot C or D enters its queue; a wide command enters as two entries (07 R188, R192). -/
def Dev.enqueue (d : Dev) (c x : Nat) (k : Ctx) (w ext : W64) : Dev :=
  if !isEngine w then d
  else
    let q := bits (k.binding (engOf w)) 5 0
    let r := d.nextOrd c
    let cmds := if isWide w then [mkCmd x k w ext false r.1, mkCmd x k ext 0 true r.1] else [mkCmd x k w 0 false r.1]
    r.2.onCore c (fun e => e.setQueue q (e.queue q ++ cmds))

/-- The whole bundle takes effect: slots A and B, the commands of C ahead of D, then the branch or HALT (07 R176, R181). It
waits no more; `k` is the context as it stood before the bundle and before the leases that its commands take (07 R176). -/
def Dev.issueBundle (d : Dev) (c x : Nat) (k : Ctx) (bu : Bundle) : Dev :=
  let oa := scalarOp bu.a k.a1c
  let ob := scalarOp bu.b k.a1c
  let d0 := d.onCtx c x (fun e => { e with wait := 0, gated := [] })
  let d1 := (d0.enqueue c x k bu.c bu.d).enqueue c x k bu.d 0
  let d2 := (d1.opEffect c x k oa).opEffect c x k ob
  d2.opControl c x k oa ((k.pc + 32) &&& 0xFFFFFFFFFFFF#64)

/-- The bundle at a DPA. -/
def Dev.bundleAt (d : Dev) (a : Nat) : Bundle :=
  let bs := d.bytesAt a 32
  { a := BitVec.ofNat 64 (fieldBytes bs 0 8), b := BitVec.ofNat 64 (fieldBytes bs 8 8),
    c := BitVec.ofNat 64 (fieldBytes bs 16 8), d := BitVec.ofNat 64 (fieldBytes bs 24 8) }

/-- The exception of fetching the bundle of a context, if any (03 R51; 07 R193 step 1; 08 R201). -/
def Dev.fetchFail (d : Dev) (k : Ctx) : Option Exc :=
  let pc := k.pc.toNat
  if !k.bad.isEmpty then some { code := 8 }
  else if pc % 32 ≠ 0 || !k.allows 2 pc 32 then some { code := 7, dpa := pc }
  else if !d.memOk pc 32 then some { code := 4, detail := 2, dpa := pc }
  else if d.badAt pc 32 then some { code := 8, dpa := pc }
  else none

/-- The bookkeeping of the sequencer when context `x` issues (03 R54, R55). -/
def Dev.noteIssue (d : Dev) (c x : Nat) (k : Ctx) : Dev :=
  let core := d.core c
  let same := core.issuer == some x
  let core1 := { core with issuer := some x, runLen := if same then core.runLen + 1 else 1,
                           lastIssuer := mapSet (fun _ => 79) core.lastIssuer k.prio x }
  let d1 := ((d.setCore c core1).readServed k.pc.toNat 32).count (c * 8) 0 1
  let d2 := d1.traceEv c 1 (some x) 7 0 k.pc
  if same || core.issuer.isNone then d2 else (d2.count (c * 8) 2 1).traceEv c 6 (some x) 7 0 k.pc

/-- Context `x` of core `c` is selected: its bundle is fetched and checked, and issues, waits or raises an exception
(03 R51 to R53; 07 R182, R193). -/
def Dev.issueCtx (d : Dev) (c x : Nat) : Dev :=
  let k := d.ctx c x
  match d.fetchFail k with
  | some e =>
    let d1 := if e.code = 8 then
        if k.bad.isEmpty then d.reportParity k.pc.toNat 32
        else k.bad.foldl (fun (e : Dev) o => e.coreParity c 0x0203 (unitId 5 (c * 128 + x)) o) d
      else d
    d1.raiseExc c x k.pc e
  | none =>
    let bu := d.bundleAt k.pc.toNat
    match d.bundleFail c x k bu with
    | some e => d.raiseExc c x k.pc e
    | none =>
      let gs := bu.gates k
      match d.tryGates c x gs with
      | (some g, d1) => d1.waitOn c x gs g
      | (none, d1) => (d1.noteIssue c x k).issueBundle c x k bu

/-- The context that issues next (03 R54): the last issuer while it may go on, else the highest PRIO, and within it the
next context after the one that last issued at that level. -/
def Dev.select (d : Dev) (c : Nat) : Option Nat :=
  let core := d.core c
  let ready := (List.range 80).filter (d.mayIssue c)
  let top := ready.foldl (fun p x => max p (core.ctx x).prio) 0
  let goOn := match core.issuer with
    | some x => ready.contains x && (core.ctx x).prio == top && decide (core.runLen < d.rbits (.seqCtl c) 15 8 + 1)
    | none => false
  if goOn then core.issuer
  else
    let last := mapGet (fun _ => 79) core.lastIssuer top
    ((List.range 80).map (fun i => (last + 1 + i) % 80)).find? (fun x => ready.contains x && (core.ctx x).prio == top)

/-- BUNDLE_ISSUE (03 R52): the sequencer selects a context and issues its bundle. -/
def execBundleIssue (core : CoreId) (s : State) : Host.Outcome State Fault Refusal :=
  s.run (fun d =>
    if d.rbit (.seqCtl core) 0 then
      match d.select core with
      | some x => d.issueCtx core x
      | none => d
    else d)

end Sys2Proof.Machine
end

