-- ==== Sys2Proof/Machine/Episode.lean ====
section
/-! DEFINITION. Which engine commands may start (03 R73, R75, R76; 04 R103, R106, R107; 06 R170; 08 R212), the heads of the
command queues with the replay stores of the FLT block, and the end of a replay (14 R370, R371). -/

namespace Sys2Proof.Machine

/-! ### Episodes (14 R371, R374) -/

/-- The episode of engine `e` of core `c`. -/
def Dev.episode (d : Dev) (c e : Nat) : Option Episode := mapGet (fun _ => none) d.flt.episodes (c * 8 + e)

/-- The device with that episode replaced. -/
def Dev.setEpisode (d : Dev) (c e : Nat) (p : Option Episode) : Dev :=
  { d with flt := { d.flt with episodes := mapSet (fun _ => none) d.flt.episodes (c * 8 + e) p } }

/-- The engine whose level-1 episode replays on core `c`, with the episode. -/
def Dev.replaying (d : Dev) (c : Nat) : Option (Nat × Episode) :=
  (List.range 5).findSome? (fun e =>
    match d.episode c e with
    | some p => if p.level = 1 then some (e, p) else none
    | none => none)

/-- Whether engine `e` of core `c` is in reset. -/
def Dev.inEngineReset (d : Dev) (c e : Nat) : Bool :=
  match d.episode c e with
  | some p => p.resetting
  | none => false

/-! ### Heads -/

/-- The command that stands at the head of a queue: the command, the second word of a wide one, and whether it comes from
the replay store. -/
structure Head where
  cmd : Cmd
  wide : Option Cmd := none
  stored : Bool := false
  deriving DecidableEq, Repr

/-- Whether a byte of its entries fails parity (08 R200). -/
def Head.bad (h : Head) : Bool := h.cmd.bad || (match h.wide with | some w => w.bad | none => false)

/-- The head of a FIFO. -/
def fifoHead (l : List Cmd) : Option Head :=
  match l with
  | [] => none
  | c :: r => some { cmd := c, wide := if isWide c.word then r.head? else none }

/-- The head of queue `q` of core `c`: while a suspect is current, its first stored command of that queue and no other
(14 R371). -/
def Dev.headOf (d : Dev) (c q : Nat) : Option Head :=
  match d.replaying c with
  | none => fifoHead ((d.core c).queue q)
  | some (_, p) =>
    match p.current with
    | none => none
    | some x => (p.stored.find? (fun t => t.q = q && t.cmd.ctx == x)).map (fun t => { cmd := t.cmd, wide := t.wide, stored := true })

/-- The first stored command of a context for a queue is taken out of a replay store. -/
def takeStored (q x : Nat) : List Stored → List Stored
  | [] => []
  | t :: ts => if t.q = q ∧ t.cmd.ctx = x then ts else t :: takeStored q x ts

/-- The head of queue `q` of core `c` leaves its FIFO, or its replay store. -/
def Dev.takeHead (d : Dev) (c q : Nat) (h : Head) : Dev :=
  if h.stored then
    match d.replaying c with
    | some (e, p) => d.setEpisode c e (some { p with stored := takeStored q h.cmd.ctx p.stored })
    | none => d
  else d.onCore c (fun k => k.setQueue q ((k.queue q).drop (if h.wide.isSome then 2 else 1)))

/-! ### Start conditions -/

/-- HOLD of an engine. -/
def Dev.engHold (d : Dev) (c e : Nat) : Bool :=
  match e with
  | 0 => d.rbit (.mxeCtl c) 0
  | 1 => d.rbit (.vxeCtl c) 0
  | 2 => d.rbit (.rduCtl c) 0
  | 3 => d.rbit (.gseCtl c) 0
  | _ => d.rbit (.mveCtl c) 0

/-- Whether an MXE command takes the load port (04 R106). -/
def usesLoad (w : W64) : Bool := opOf w == 0 || opOf w == 3 || opOf w == 5

/-- Whether an MXE command takes the array (04 R106). -/
def usesArray (w : W64) : Bool := opOf w == 2 || opOf w == 3 || opOf w == 4

/-- The accumulator that an epilogue reads. -/
def readsAc (w : W64) : Option Nat := if engOf w = 1 ∧ opOf w = 11 then some (opnd w 0) else none

/-- The partial that an RDU command reads or writes. -/
def usesRa (w : W64) : Option Nat :=
  if engOf w = 2 then
    match opOf w with
    | 0 | 1 | 2 | 3 => if opnd w 3 = 0 ∧ opnd w 4 = 0 then some (opnd w 5 % 8) else none
    | 6 => if opnd w 0 = 2 then some (opnd w 3) else none
    | 7 | 8 => some (opnd w 0)
    | _ => none
  else none

/-- Whether a running RTX in phase R64 is still to write the partial that `w` uses (05 R140). -/
def rtxHolds (w v : W64) : Bool := engOf v == 2 && opOf v == 6 && (usesRa v).isSome && usesRa w == usesRa v

/-- Whether a load of a weight buffer and a product that streams from it meet (04 R107). -/
def sameWb (w v : W64) : Bool :=
  engOf w == 0 && engOf v == 0 &&
    ((opOf w == 0 && opOf v == 2 && opnd w 0 == opnd v 1) || (opOf w == 2 && opOf v == 0 && opnd w 1 == opnd v 0))

/-- Whether command `w` must wait for a running command of its core: an epilogue for a product into its tile, the MXE's
resources and weight buffers, the GSE's one command at a time, and a partial that a reduction tree is to write (04 R103,
R106, R107; 05 R140; 06 R170). An epilogue reads its tile whole when it starts, so a product into the tile need not wait
for the epilogue's completion (05 R133). -/
def mustWait (w : W64) (r : Run) : Bool :=
  let v := r.cmd.word
  let tile := match readsAc w with | some n => r.acs.contains n | none => false
  let mxe := engOf w == 0 && engOf v == 0 && ((usesLoad w && usesLoad v) || (usesArray w && usesArray v))
  tile || mxe || sameWb w v || rtxHolds w v || (engOf w == 3 && engOf v == 3)

/-- Whether an engine starts a queue's next command while its earlier ones run: the MXE while a resource is free, and the VXE
and the RDU, which pipeline (04 R106; 05 R140). The GSE runs one command, the MVE one chain of each queue (06 R170;
08 R212). -/
def pipelines (e : Nat) : Bool := decide (e < 3)

/-- Whether the head of queue `q` of core `c` may start now, but for the turn of its queue. -/
def Dev.mayStart (d : Dev) (c q : Nat) (h : Head) : Bool :=
  let k := d.core c
  d.coreRuns c && !d.engHold c (q / 4) && !d.inEngineReset c (q / 4) && ((k.run q).isNone || pipelines (q / 4)) &&
  !(k.ctx h.cmd.ctx).held && !k.unfinished h.cmd.ctx &&
  (match h.cmd.start with
   | some (t, v) => waitHolds ((d.reg (.token c t)).setWidth 32) v
   | none => true) &&
  !(k.allRuns.any (mustWait h.cmd.word))

/-- What a command needs of those that an engine gives to its queues in turn: the MXE's load port 0 and array 1, the start
of the VXE 2, of the RDU 3 and of the GSE 4 (04 R106; 05 R140; 06 R170). The MVE serves each queue on its own (08 R212). -/
def startNeeds (w : W64) : List Nat :=
  match engOf w with
  | 0 => (if usesLoad w then [0] else []) ++ (if usesArray w then [1] else [])
  | 1 => [2]
  | 2 => [3]
  | 3 => [4]
  | _ => []

/-- The place of queue `q` of an engine in the turn of resource `r`, which begins after the queue last served; before the
first it begins at queue 0 (DESIGN CHOICE, assumption log 31). -/
def Core.turnOf (k : Core) (r q : Nat) : Nat := (q % 4 + 7 - mapGet (fun _ => 3) k.lastServed r % 4) % 4

/-- Whether it is the turn of queue `q` on resource `r`: no head of another queue that needs it and may start comes
first. -/
def Dev.firstFor (d : Dev) (c q r : Nat) : Bool :=
  (List.range 4).all (fun p =>
    let o := q / 4 * 4 + p
    o == q || !decide ((d.core c).turnOf r o < (d.core c).turnOf r q) ||
    (match d.headOf c o with
     | some g => !((startNeeds g.cmd.word).contains r && d.mayStart c o g)
     | none => true))

/-- Whether it is the turn of queue `q` to start head `h`. A command that needs two resources goes with the turn of
either (DEDUCED, assumption log 31). -/
def Dev.hasTurn (d : Dev) (c q : Nat) (h : Head) : Bool :=
  (startNeeds h.cmd.word).isEmpty || (startNeeds h.cmd.word).any (d.firstFor c q)

/-- Whether the order of issue decides between two commands that could start at once: an epilogue of a tile and a product into
it, a load of a weight buffer and a product from it (04 R103, R107). -/
def Core.clash (k : Core) (w v : W64) : Bool :=
  let reads := fun (a b : W64) => match readsAc a with | some n => (k.writesAcs b).contains n | none => false
  reads w v || reads v w || sameWb w v

/-- Whether no other head that clashes with `h`, was issued earlier and could start now stands in the way of `h`; slot C was
issued ahead of slot D (04 R103, R107). -/
def Dev.goesFirst (d : Dev) (c q : Nat) (h : Head) : Bool :=
  (List.range 8).all (fun p =>
    p == q ||
    (match d.headOf c p with
     | some g => !((d.core c).clash h.cmd.word g.cmd.word && decide (g.cmd.ord < h.cmd.ord) && d.mayStart c p g &&
        d.hasTurn c p g)
     | none => true))

/-- A command of queue `q` has started: what it needs has served that queue last. -/
def Core.serve (k : Core) (q : Nat) (w : W64) : Core :=
  { k with lastServed := (startNeeds w).foldl (fun m r => mapSet (fun _ => 3) m r (q % 4)) k.lastServed }

/-! ### The end of a replay (14 R371) -/

/-- A context that was stored and reset returns to the state it had before. -/
def Core.backTo (k : Core) (x : Nat) : Core :=
  let c := k.ctx x
  if c.state = 1 ∧ c.prior ≠ 0 then
    k.setCtx x { c.setState c.prior with wait := c.priorWait, gated := c.priorGates, priorWait := 0, priorGates := [], prior := 0 }
  else k

/-- The lock of an episode is freed and the episode noted among the past ones. -/
def Dev.endEpisode (d : Dev) (c e : Nat) (p : Episode) : Dev :=
  let d1 := (d.setEpisode c e none).endLock p.lock
  let past := ({ core := c, eng := e, level := p.level, step := p.step, clean := p.guilty.isNone } : PastEpisode)
  let win := d.rbits .fltEsccfg 31 16
  { d1 with flt := { d1.flt with
      past := past :: d1.flt.past.filter (fun o => decide (d.regN .chrStep ≤ o.step + win)) } }

/-- The suspect that becomes current after `x`: the next one in circular order with stored commands. -/
def nextSuspect (p : Episode) (x : Nat) : Option Nat :=
  let after := p.suspects.filter (fun y => x < y) ++ p.suspects.filter (fun y => y ≤ x)
  after.find? (fun y => p.stored.any (fun t => t.cmd.ctx = y))

/-- A suspect whose stored commands have all completed returns to its earlier state; the next one becomes current, or the
episode ends. -/
def Dev.afterCmd (d : Dev) (c : Nat) : Dev :=
  match d.replaying c with
  | none => d
  | some (e, p) =>
    match p.current with
    | none => d
    | some x =>
      let busy := p.stored.any (fun t => t.cmd.ctx = x) || (d.core c).allRuns.any (fun r => r.cmd.ctx == x)
      if busy then d
      else
        let d1 := if p.guilty = some x then d else d.onCore c (fun k => k.backTo x)
        match nextSuspect p x with
        | some y => d1.setEpisode c e (some { p with current := some y })
        | none => d1.endEpisode c e p

end Sys2Proof.Machine
end

