-- ==== Sys2Proof/Machine/Flt.lean ====
section
/-! DEFINITION. The FLT block (14): watchdogs and the escalation ladder, replay, engine reset, core substitution, die reset,
forced arrival, repairs of lanes, channels and rows, the lost cluster, and the commands of FLT_CMD but DUMP. -/

namespace Sys2Proof.Machine

/-! ### Lock waits (14 R387, R389) -/

/-- A start by the FLT waits in arrival order. -/
def Dev.fltWait (d : Dev) (act scope arg : Nat) : Dev :=
  { d with flt := { d.flt with waits := d.flt.waits ++ [{ act := act, scope := scope, arg := arg }] } }

/-- FLT_STATUS.ESC and the vote to skip the step (14 R371, Table 14.4). -/
def Dev.escalated (d : Dev) : Dev := (d.setRbit .fltStatus 6 true).setRbit .chrVote 0 true

/-- A level above MAXAUTO: ADVISE, and the device is to stop at the next boundary with SCAUSE 6 (14 R373). -/
def Dev.advise (d : Dev) (n : Nat) : Dev := (d.setRbits .fltStatus 22 20 n).askStop 6

/-- MAXAUTO. -/
def Dev.maxAuto (d : Dev) : Nat := d.rbits .fltEsccfg 2 0

/-! ### Storing and resetting (14 R369, R370) -/

/-- The entries of a FIFO that belong to a context, wide commands paired with their second words. -/
def storedOf (q x : Nat) : List Cmd → List Stored
  | [] => []
  | c :: r =>
    if c.ctx = x && !c.isExt then
      { q := q, cmd := c, wide := if isWide c.word then r.head? else none } :: storedOf q x r
    else storedOf q x r

/-- A running command as the replay store keeps it. -/
def Run.stored (r : Run) (q : Nat) : Stored :=
  { q := q, cmd := r.cmd,
    wide := if isWide r.cmd.word then some { r.cmd with word := r.cmd.ext, ext := 0, isExt := true } else none, wasRunning := true }

/-- What the replay store keeps of context `x`: in each queue the running commands, marked, then the queued ones. -/
def Core.storeCtx (k : Core) (x : Nat) : List Stored :=
  (List.range 20).flatMap (fun q =>
    ((k.runs q).filter (fun r => r.cmd.ctx == x)).map (fun r => r.stored q) ++ storedOf q x (k.queue q))

/-- The contexts with a command queued, held or running on engine `e`, ascending. -/
def Core.usersOf (k : Core) (e : Nat) : List Nat :=
  (List.range 80).filter (fun x => (List.range 4).any (fun i =>
    (k.queue (4 * e + i)).any (fun c => c.ctx = x) || k.anyRun (4 * e + i) (fun r => r.cmd.ctx == x)))

/-- A context is stored and reset; it is HALTED. -/
def Dev.storeReset (d : Dev) (c x : Nat) : Dev := (d.resetCtx c x).onCtx c x (fun k => k.setState 1)

/-- The leases that context `x` holds stay with it (14 R374). -/
def Core.keepLeases (k old : Core) (x : Nat) : Core :=
  let k1 := leaseUnits.foldl (fun (e : Core) u =>
    if (old.lease u).owner = some x then e.setLease u { e.lease u with owner := some x, released := (old.lease u).released } else e) k
  let c := k1.ctx x
  k1.setCtx x { c with cstatus := setBits c.cstatus 12 10 (bits (old.ctx x).cstatus 12 10) }

/-- A context is stored and reset for an engine reset: it is HALTED and keeps its leases (14 R374). -/
def Dev.storeKeep (d : Dev) (c x : Nat) : Dev := (d.storeReset c x).onCore c (fun k => k.keepLeases (d.core c) x)

/-- The stored commands of a core's listed contexts. -/
def Dev.storeAll (d : Dev) (c : Nat) (xs : List Nat) : List Stored := xs.flatMap (fun x => (d.core c).storeCtx x)

/-- A stored command as it stands in its FIFO. -/
def Stored.entries (t : Stored) : List Cmd := t.cmd :: t.wide.toList

/-- A command takes its place in a list by its issue number. -/
def insertCmd (c : Cmd) : List Cmd → List Cmd
  | [] => [c]
  | x :: r => if c.ord < x.ord then c :: x :: r else x :: insertCmd c r

/-- Commands in the order in which they were issued. -/
def byIssue (cs : List Cmd) : List Cmd := cs.foldl (fun acc c => insertCmd c acc) []

/-- Stored commands go back into their queues, each in the place that its issue gave it (14 R374, R375). -/
def Core.putBack (k : Core) (ts : List Stored) : Core :=
  (List.range 20).foldl (fun (e : Core) q =>
    let mine := (ts.filter (fun t => t.q = q)).flatMap Stored.entries
    if mine.isEmpty then e else e.setQueue q (byIssue (mine ++ e.queue q))) k

/-! ### FLT_WDLOG -/

/-- FLT_WDLOG of an episode. -/
def Dev.wdlog (d : Dev) (c e : Nat) (guilty : Option Nat) (level n step : Nat) : Dev :=
  d.setRegN .fltWdlog (c * 2 ^ 55 + e * 2 ^ 52 + 2 ^ 51 + (guilty.getD 0x7F) * 2 ^ 44 + level * 2 ^ 40 + n % 256 * 2 ^ 32 +
    step % 2 ^ 32)

/-! ### Lost clusters (14 R384) -/

/-- The first entry of the variant directory that covers every lost cluster. -/
def Dev.variant (d : Dev) : Option Nat :=
  (List.range (d.rbits .fltDvcnt 7 0)).find? (fun i =>
    let a := d.rbits .fltDvbase 47 6 * 64 + i * 64
    d.memOk a 64 && (BitVec.ofNat 64 (ofBytes (d.bytesAt a 8)) &&& d.reg .fltCllost) == d.reg .fltCllost)

/-- FLT_CMDST after a command that is done. -/
def Dev.cmdDone (d : Dev) (entry : Nat) : Dev := d.setRegN .fltCmdst (2 ^ 31 + entry * 2 ^ 16)

/-- FLT_CMDST after a command that failed. -/
def Dev.cmdErr (d : Dev) (code : Nat) : Dev := d.setRegN .fltCmdst (2 ^ 29 + code)

/-- FLT_CMDST while a command runs. -/
def Dev.cmdRun (d : Dev) (entry : Nat) : Dev := d.setRegN .fltCmdst (2 ^ 28 + entry * 2 ^ 16)

/-- A running command of FLT_CMD for a unit has ended: DONE, or ERR with code 3. -/
def Dev.cmdEnd (d : Dev) (ok : Bool) : Dev :=
  if d.rbit .fltCmdst 28 then (if ok then d.cmdDone (d.rbits .fltCmdst 19 16) else d.cmdErr 3) else d

/-- The running command of FLT_CMD ends where its lock entry is that of the work that has ended. -/
def Dev.cmdEndOf (d : Dev) (lock : Option Nat) (ok : Bool) : Dev :=
  if lock = some (d.rbits .fltCmdst 19 16) then d.cmdEnd ok else d

/-- REPAIRING follows the migrations and substitutions in progress: a spare is filling (14 FLT_STATUS). -/
def Dev.showRepairing (d : Dev) : Dev :=
  d.setRbit .fltStatus 1 (decide (d.flt.migs ≠ [] ∨ d.flt.subs ≠ []))

/-- Substitutions that meet a test end without effect: what they saved is discarded and their lock entries are freed (14 Table
14.6). -/
def Dev.abandonSubs (d : Dev) (p : Subst → Bool) : Dev :=
  let d1 := { d with flt := { d.flt with subs := d.flt.subs.filter (fun s => !p s) } }
  ((d.flt.subs.filter p).foldl (fun (e : Dev) s => (e.endLock s.lock).cmdEndOf s.lock false) d1).showRepairing

/-- Cluster `c` is lost: CLLOST, a stop with SCAUSE 1, or 2 where no variant matches, and the variant chosen; a substitution in
it ends (14 R383, R384). -/
def Dev.clusterLost (d0 : Dev) (c : Nat) : Dev :=
  let d := d0.abandonSubs (fun s => s.core / 8 == c)
  let d1 := (d.setRbit .fltCllost c true).setRbit .fltStatus 10 true
  let v := if d1.rbits .fltDvcnt 7 0 = 0 then none else d1.variant
  let d2 := d1.setRegN .fltDvsel (v.getD 0xFF)
  (d2.faultRec 0x0604 (unitId 2 c) 3 0 (v.getD 0xFF)).askStop (if v.isSome then 1 else 2)

/-! ### Level 4: die reset (14 R376) -/

/-- The substitutions on a die whose reset proceeds are abandoned; the FLT completes them before it releases the die (14 Table
14.6). -/
def Dev.subsYield (d : Dev) (n : Nat) : Dev :=
  let mine := (d.flt.subs.filter (fun s => s.core / 128 == n)).map (fun s => s.core)
  let d1 := d.abandonSubs (fun s => s.core / 128 == n)
  { d1 with flt := { d1.flt with unfinished := d1.flt.unfinished ++ mine } }

/-- A die reset starts, with its lock entry. -/
def Dev.dieStart (d : Dev) (n : Nat) (lock : Option Nat) : Dev :=
  let d1 := d.dieHold n
  { d1.escalated with flt := { d1.flt with
      dies := (n, lock) :: d1.flt.dies.filter (fun e => e.1 ≠ n)
      episodes := mapDrop (fun k => k / 8 / 128 == n) d1.flt.episodes } }

/-- A die reset that the FLT starts on its own. -/
def Dev.level4 (d : Dev) (n : Nat) : Dev :=
  if d.maxAuto < 4 then d.advise 4
  else
    match (d.subsYield n).takeLock ownerFlt 4 (unitId 1 n) with
    | (some i, d1) => d1.dieStart n (some i)
    | (none, _) => d.fltWait 4 (unitId 1 n) 0

/-! ### Level 3: core substitution (14 R375, R383) -/

/-- SPARE_VALID of a cluster. -/
def Dev.spareValid (d : Dev) (c : Nat) : Bool := d.rbit (.slotmap c) 36

/-- The physical slot that runs logical core-in-cluster `i`. -/
def Dev.slotOf (d : Dev) (c i : Nat) : Nat := d.rbits (.slotmap c) (4 * i + 3) (4 * i)

/-- The spare takes over core `i` of cluster `c`; the failed slot is retired (01 R15). -/
def Dev.substitute (d : Dev) (c i : Nat) : Dev :=
  let old := d.slotOf c i
  let new := d.rbits (.slotmap c) 35 32
  let d1 := (d.setRbits (.slotmap c) (4 * i + 3) (4 * i) new).setRbit (.slotmap c) (37 + old) true
  (d1.setRbit (.slotmap c) 36 false).setRbits (.slotmap c) 35 32 0xF

/-- Whether a byte of a core's CLM, context store or queue FIFOs has failed parity (14 R375). -/
def Dev.coreUnreadable (d : Dev) (k : Nat) : Bool :=
  d.physBad (0xF000000000 + k * 0x200000) 0x180000 || (d.core k).ctxs.any (fun e => !e.2.bad.isEmpty) ||
    (d.core k).fifo.any (fun e => e.2.any (fun c => c.bad))

/-- What is left of a core whose state was lost: the spare as it leaves reset (DEDUCED, assumption log 32). -/
def Dev.coreFresh (d : Dev) (k : Nat) : Dev :=
  let b := coreBase k
  { d with
    cores := mapSet (fun _ => {}) d.cores k {}
    regs := mapDrop (fun a => decide (b ≤ a ∧ a < b + 0x10000)) d.regs
    mem := mapDrop (fun a => decide (0xF000000000 + k * 0x200000 ≤ a ∧ a < 0xF000000000 + k * 0x200000 + 0x180000)) d.mem
    badPar := mapDrop (fun a => decide (0xF000000000 + k * 0x200000 ≤ a ∧ a < 0xF000000000 + k * 0x200000 + 0x180000)) d.badPar }

/-- The engine episodes of a core end: what they have stored goes back into the queues with the rest. -/
def Dev.dropEpisodes (d : Dev) (k : Nat) : Dev × List Stored :=
  (List.range 5).foldl (fun (acc : Dev × List Stored) e =>
    match acc.1.episode k e with
    | some p => ((acc.1.setEpisode k e none).endLock p.lock, acc.2 ++ p.stored)
    | none => acc) (d, [])

/-- Core substitution of logical core `k` starts: its contexts are stored and reset, its state is read, and its clock stops
while the spare fills (14 R375, steps 1 to 3). -/
def Dev.coreSub (d : Dev) (k : Nat) (lock : Option Nat) : Dev :=
  let (d0, kept) := d.dropEpisodes k
  let xs := (List.range 80).filter (fun x => (d0.ctx k x).state ≠ 0 ∧ (d0.ctx k x).state ≠ 5)
  let s : Subst := { core := k, lock := lock, stored := kept ++ d0.storeAll k xs, ctxs := xs, lost := d0.coreUnreadable k }
  let d1 := (xs.foldl (fun (e : Dev) x => e.storeReset k x) d0).arbDropCore k
  { d1.escalated with flt := { d1.flt with subs := d1.flt.subs ++ [s] } }.showRepairing

/-- A substitution takes its last steps: the slot map and the repair record, the CORESUB record, and the stored commands and
contexts, or their loss (14 R375, steps 4 to 6). -/
def Dev.subFinish (d0 : Dev) (s : Subst) : Dev :=
  let d := { d0 with flt := { d0.flt with subs := d0.flt.subs.filter (fun e => e.core ≠ s.core) } }
  let k := s.core
  let c := k / 8
  let failed := d.slotOf c (k % 8)
  let new := d.rbits (.slotmap c) 35 32
  let d2 := d.substitute c (k % 8)
  let d3 := if s.lost then d2.coreFresh k
    else d2.onCore k (fun e => s.ctxs.foldl (fun (f : Core) x => f.backTo x) (e.putBack s.stored))
  let unit := unitId 3 (2 ^ 16 + c * 2 ^ 10 + failed)
  let d4 := ((d3.addRepair unit new).faultRec 0x0602 unit 3 0 new).setRbit .fltStatus 7 true
  let d5 := if s.lost then ((d4.faultRec 0x0605 (unitCore k) 3 0 0).setRbit .fltStatus 11 true).askStop 3 else d4
  ((d5.endLock s.lock).cmdEndOf s.lock true).showRepairing

/-- The oldest substitution in an idle step: a free choice says whether it still fills, has passed its spare's self-test and
ends, has failed it, which loses the cluster, or waits on a die-shared unit that does not answer, which takes level 4 (14 R373,
R375, R383; DESIGN CHOICE, assumption log 32). -/
def Dev.subTick (d : Dev) : Dev :=
  match d.flt.subs with
  | [] => d
  | s :: _ =>
    let d1 := d.useFree 1
    match d.free.toNat % 4 with
    | 1 => d1.subFinish s
    | 2 => d1.clusterLost (s.core / 8)
    | 3 => d1.level4 (s.core / 128)
    | _ => d1

/-- Whether a CORESUB holds an entry in cluster `c`. -/
def Dev.subIn (d : Dev) (c : Nat) : Bool :=
  (List.range 16).any (fun i => d.lockHeld i && d.rbits (.fltLock i) 59 56 == 3 && decide (d.rbits (.fltLock i) 31 0 % 512 / 8 = c))

/-- A core substitution that is needed: with no spare, or while another one fills it, the cluster is lost (14 R383). -/
def Dev.level3 (d : Dev) (k : Nat) : Dev :=
  if d.maxAuto < 3 then d.advise 3
  else if !d.spareValid (k / 8) || d.subIn (k / 8) then d.clusterLost (k / 8)
  else
    match d.takeLock ownerFlt 3 (unitCore k) with
    | (some i, d1) => d1.coreSub k (some i)
    | (none, _) => d.fltWait 3 (unitCore k) 0

/-! ### Level 2: engine reset (14 R374) -/

/-- The reset state of an engine; leases stay (14 R374). -/
def Core.engineReset (k : Core) (e : Nat) : Core :=
  match e with
  | 0 => { k with mxe := {} }
  | 1 | 2 => { k with vxe := {} }
  | 3 => { k with gse := { k.gse with tabs := [], reads := [], rows := [] } }
  | _ => k

/-- An engine reset starts: the contexts with work on the engine are stored and reset. -/
def Dev.engineStart (d : Dev) (c e : Nat) (lock : Option Nat) : Dev :=
  let old := d.episode c e
  let xs := (d.core c).usersOf e
  let kept := match old with | some p => p.stored | none => []
  let stored := kept ++ d.storeAll c xs
  let d1 := (xs.foldl (fun (f : Dev) x => f.storeKeep c x) d).arbDropCore c
  let d2 := (match old with | some p => d1.endLock p.lock | none => d1).onCore c (fun k => k.engineReset e)
  let ys := match old with | some p => p.suspects ++ xs.filter (fun x => !p.suspects.contains x) | none => xs
  let ep : Episode := { suspects := ys, stored := stored, level := 2, resetting := true, lock := lock, step := d.regN .chrStep }
  (d2.setEpisode c e (some ep)).escalated

/-- An episode that escalates, or whose engine reset has failed, gives up its lock entry: its activity has ended
(14 R369, R373, R387; DEDUCED, assumption log 34). -/
def Dev.giveUp (d : Dev) (c e : Nat) : Dev :=
  match d.episode c e with
  | some p => (d.endLock p.lock).setEpisode c e (some { p with lock := none })
  | none => d

/-- An engine reset that the FLT starts on its own. -/
def Dev.level2 (d : Dev) (c e : Nat) : Dev :=
  if d.maxAuto < 2 then d.advise 2
  else
    let d0 := d.giveUp c e
    match d0.takeLock ownerFlt 2 (unitCore c) with
    | (some i, d1) => d1.engineStart c e (some i)
    | (none, _) => d0.fltWait 2 (unitCore c) e

/-- An engine reset's self-test ends: the stored commands replay and the contexts return, or level 3 follows. -/
def Dev.engineDone (d : Dev) (c e : Nat) (passed : Bool) : Dev :=
  match d.episode c e with
  | some p =>
    if !p.resetting then d
    else if passed then
      let d1 := d.onCore c (fun k => p.suspects.foldl (fun (f : Core) x => f.backTo x) (k.putBack p.stored))
      ((d1.faultRec 0x0601 (unitEngine c e) 2 0 0).endEpisode c e { p with stored := [] })
    else (d.giveUp c e).level3 c
  | none => d

/-! ### Level 1 (14 R371, R372) -/

/-- The WDOG exception of a suspect, which is HALTED (14 R371). The spec names no DETAIL: a free value; UNIT is the engine
(DEDUCED, assumption log 33). -/
def Dev.wdogExc (d : Dev) (c x e : Nat) : Dev :=
  let d1 := (d.raiseExc c x (d.ctx c x).pc { code := 12, unit := e, detail := d.free.toNat % 2 ^ 32 }).useFree 1
  d1.onCtx c x (fun k => k.setState 1)

/-- Level 1 starts on an engine: the suspects are stored and reset, and the first one becomes current. -/
def Dev.levelOneStart (d : Dev) (c e : Nat) (lock : Option Nat) : Dev :=
  let xs := (d.core c).usersOf e
  let stored := d.storeAll c xs
  let d1 := xs.foldl (fun (f : Dev) x => (f.storeReset c x).wdogExc c x e) d
  let p : Episode := { suspects := xs, current := xs.head?, stored := stored, level := 1, lock := lock, step := d.regN .chrStep }
  ((d1.setEpisode c e (some p)).wdlog c e none 1 xs.length p.step)

/-- Level 1 on an engine, or its wait for the lock. -/
def Dev.level1 (d : Dev) (c e : Nat) : Dev :=
  match d.takeLock ownerFlt 1 (unitCore c) with
  | (some i, d1) => d1.levelOneStart c e (some i)
  | (none, _) => d.fltWait 1 (unitCore c) e

/-- The current suspect is guilty (14 R372): reset again, its commands discarded, HALTED with WDOG. The other suspects go
on. -/
def Dev.guiltyFound (d : Dev) (c e : Nat) (p : Episode) (x : Nat) : Dev :=
  let d1 := (d.storeReset c x).wdogExc c x e
  let rest := p.stored.filter (fun t => t.cmd.ctx ≠ x)
  let d1 := d1.onCtx c x (fun k => { k with prior := 0, priorWait := 0, priorGates := [] })
  let p1 := { p with stored := rest, guilty := some x }
  let d2 := (d1.faultRec 0x0102 (unitId 5 (c * 128 + x)) 1 0 (d1.ctx c x).excpc.toNat).setRbit .fltStatus 5 true
  let d3 := (d2.wdlog c e (some x) 1 p.suspects.length p.step)
  let d4 := { d3 with flt := { d3.flt with force := true } }
  match nextSuspect p1 x with
  | some y => d4.setEpisode c e (some { p1 with current := some y })
  | none => d4.endEpisode c e p1

/-- The level that a firing watchdog calls for (14 Table 14.4). -/
def Dev.levelFor (d : Dev) (c e : Nat) : Nat :=
  let win := d.rbits .fltEsccfg 31 16
  let recent := d.flt.past.filter (fun p => p.core = c && decide (d.regN .chrStep ≤ p.step + win) && decide (p.level ≤ 2))
  if 2 ≤ recent.length then 3
  else if recent.any (fun p => p.eng = e && p.level == 1 && p.clean) then 2
  else 1

/-- An engine's watchdog fires (14 R367, R371 to R373): WDOG, ABORT, and the level it calls for. -/
def Dev.engineWatchdog (d : Dev) (c e : Nat) : Dev :=
  match (List.range 4).findSome? (fun i => (d.core c).run (4 * e + i)) with
  | none => d
  | some r =>
    if !d.rbit .fltWdcfg 0 || !d.coreRuns c then d
    else
      let lv := d.levelFor c e
      let act := match d.replaying c with
        | some _ => 1
        | none => if lv ≤ d.maxAuto then lv else 0
      let d1 := ((d.faultRec 0x0101 (unitEngine c e) act 0 r.cmd.word.toNat).setRbit .fltStatus 4 true).setRbit .chrVote 0 true
      match d.replaying c with
      | some (e1, p) =>
        (match p.current with
         | some x => if r.cmd.ctx = x then d1.guiltyFound c e1 p x else d1.level1 c e
         | none => d1.level1 c e)
      | none =>
        match lv with
        | 1 => if d.maxAuto < 1 then d1.advise 1 else d1.level1 c e
        | 2 => d1.level2 c e
        | _ => d1.level3 c

/-- The next suspect in circular order becomes current, once the current one's stored commands have completed or none of
them can start (14 R371). -/
def Dev.suspectAdvance (d : Dev) (c e : Nat) : Dev :=
  match d.episode c e with
  | some p =>
    match p.current with
    | some x =>
      let running := (d.core c).allRuns.any (fun r => r.cmd.ctx == x)
      let may := (List.range 20).any (fun q => match d.headOf c q with | some h => d.mayStart c q h | none => false)
      if running || may || p.level ≠ 1 then d
      else
        match nextSuspect p x with
        | some y => d.setEpisode c e (some { p with current := some y })
        | none => d.afterCmd c
    | none => d
  | none => d

/-- Whether context `x` is a suspect of a level-1 episode of core `c` that has been reset and waits for its replay. -/
def Dev.suspectWaits (d : Dev) (c x : Nat) : Bool :=
  match d.replaying c with
  | some (_, p) => p.suspects.contains x && (d.ctx c x).state == 1
  | none => false

/-- A context reset that is late calls for level 2 on engine `e`; a level-1 episode whose suspect it is gives up its lock entry
(14 R369, R373; DEDUCED, assumption log 34). -/
def Dev.lateLevel2 (d : Dev) (c e : Nat) : Dev :=
  match d.replaying c with
  | some (f, _) => if d.maxAuto < 2 then d.advise 2 else (d.giveUp c f).level2 c e
  | none => d.level2 c e

/-- A context reset, by CTXCMD or of a suspect, that has not ended in 20 us (14 R369, R373): level 2 on the engine that has not
stopped its work, the MVE where a chain of it drains, the GSE where remote reads of it are open; otherwise the spec does not
say which, a free value (assumption log 34). -/
def Dev.ctxResetLate (d : Dev) (c x : Nat) : Dev :=
  let resetting := (d.ctx c x).state == 5
  if !resetting && !d.suspectWaits c x then d
  else if (d.core c).draining x then d.lateLevel2 c 4
  else if (d.core c).readsOpen x then d.lateLevel2 c 3
  else if resetting then (d.useFree 1).lateLevel2 c (d.free.toNat % 5)
  else d

/-- An engine reset that has not ended in 50 us (14 R373): level 3. -/
def Dev.engineLate (d : Dev) (c e : Nat) : Dev := if d.inEngineReset c e then (d.giveUp c e).level3 c else d

/-- A die-shared unit's watchdog fires (14 R368): level 4 on its die. -/
def Dev.unitWatchdog (d : Dev) (unit num : Nat) : Dev :=
  let u := unitId 12 (num % 4 * 256 + unit)
  if unitOk u && d.rbit .fltWdcfg 0 then
    ((d.faultRec 0x0104 u (if 4 ≤ d.maxAuto then 4 else 0) 0 0).setRbit .fltStatus 4 true).level4 (num % 4)
  else d

/-! ### Forced arrival (14 R372) -/

/-- Whether a context waits on DTOK. -/
def Dev.onDtok (d : Dev) (k : Ctx) : Bool := k.state = 3 && bits k.wait 7 0 == 1 && bits k.wait 15 8 == d.rbits .chrCfg 31 24

/-- The contexts of core `c` that a forced arrival halts. -/
def Dev.forcedHalts (d : Dev) (c : Nat) : List Nat :=
  (List.range 80).filter (fun x =>
    let k := d.ctx c x
    d.isParticipant x && (k.state == 2 || k.state == 3) && !d.onDtok k)

/-- Bits of a list of contexts from `lo`. -/
def ctxBits (xs : List Nat) (lo n : Nat) : Nat := (xs.filter (fun x => lo ≤ x ∧ x < lo + n)).foldl (fun v x => v + 2 ^ (x - lo)) 0

/-- A core is made to arrive: participants halted, ATOK bumped until its count is complete, FORCEARR records. -/
def Dev.forceCore (d : Dev) (c : Nat) : Dev :=
  let xs := d.forcedHalts c
  let d1 := xs.foldl (fun (e : Dev) x => e.ctxcmd c x 3) d
  let n := d1.narr c - mapGet (fun _ => 0) d1.chorus.arrivals c
  let d2 := (List.range n).foldl (fun (e : Dev) _ => e.bump c (e.rbits .chrCfg 23 16) none 7) d1
  let d3 := d2.faultRec 0x0103 (unitCore c) 1 0 (ctxBits xs 0 64)
  if ctxBits xs 64 16 = 0 then d3 else d3.faultRec 0x0103 (unitCore c) 1 1 (ctxBits xs 64 16)

/-- ARRT after a guilty context was found, cores that have not arrived are made to arrive. -/
def Dev.forcedArrival (d : Dev) : Dev :=
  if d.flt.force then
    let d1 := { d with flt := { d.flt with force := false } }
    (List.range 512).foldl (fun (e : Dev) c =>
      if e.takesPart c && e.coreRuns c && !e.arrived c && e.chorus.vote.isNone then e.forceCore c else e) d1
  else d

/-! ### Repairs (14 R379 to R383) -/

/-- A repair of `unit` is done: REPAIRED, REPDONE, the repair record, which names `entry` (14 R382). -/
def Dev.repairedAs (d : Dev) (unit entry spare : Nat) : Dev :=
  ((d.faultAt 0x0701 unit spare).setRbit .fltStatus 7 true).addRepair entry spare

/-- A repair whose record names the unit itself. -/
def Dev.repaired (d : Dev) (unit spare : Nat) : Dev := d.repairedAs unit unit spare

/-- A repair finds no spare. -/
def Dev.noSpare (d : Dev) (unit : Nat) : Dev := (d.faultAt 0x0702 unit 0).setRbit .fltStatus 9 true

/-- The unit ID of a port's lane. -/
def unitLane (p lane : Nat) : Nat := unitId 6 ((lane + 1) * 256 + p)

/-- A lane of port `p` is switched to the spare, where the port's spare is unused; whether it was (14 R379). -/
def Dev.laneSpare (d : Dev) (p lane : Nat) : Bool × Dev :=
  if mapGet (fun _ => false) d.flt.spareLanes p then (false, d.noSpare (unitLane p lane))
  else
    let spare := d.rbits (.portCtl p) 12 8
    let d1 := (d.spareSwitch p lane).repaired (unitLane p lane) spare
    (true, { d1 with flt := { d1.flt with spareLanes := mapSet (fun _ => false) d1.flt.spareLanes p true } })

/-- The lower spare channel of stack `n` that is neither in use nor retired. -/
def Dev.freeChannel (d : Dev) (n : Nat) : Option Nat :=
  let free := fun (s : Nat) => !d.rbit (.stkChmap n) (if s = 32 then 7 else 15) &&
    !mapGet (fun _ => false) d.flt.retired (n * 2 + (s - 32))
  if free 32 then some 32 else if free 33 then some 33 else none

/-- A channel migration starts, or finds no spare; whether it started (14 R380; 08 R199). -/
def Dev.migrate (d : Dev) (n chan : Nat) (lock : Option Nat) : Bool × Dev :=
  match d.freeChannel n with
  | none => (false, (d.noSpare (unitId 8 (n * 64 + d.physChannel n chan))).endLock lock)
  | some s =>
    let d1 := if s = 32 then (d.setRbits (.stkChmap n) 4 0 chan).setRbits (.stkChmap n) 17 16 1
      else (d.setRbits (.stkChmap n) 12 8 chan).setRbits (.stkChmap n) 17 16 2
    let d2 := { d1.setReg (.stkMigptr n) 0 with flt := { d1.flt with
        migs := mapSet (fun _ => none) d1.flt.migs n (some { chan := chan, spare := s, lock := lock }) } }
    (true, d2.showRepairing)

/-- Granules of a logical channel that the old channel could not correct stand in the spare with every parity bit inverted (08
R199). -/
def Dev.invertGranules (d : Dev) (n chan : Nat) : Dev :=
  let here := fun (p : Nat) => decide (p / stackSize = n) && decide (p < 8 * stackSize) && stackChannel (p % stackSize) == chan
  let gs := (d.badPar.filter (fun e => e.2 && here e.1)).map (fun e => e.1 / 256 * 256)
  let bad := gs.foldl (fun m g => (List.range 256).foldl (fun m1 i => mapSet (fun _ => false) m1 (g + i) true) m) d.badPar
  { d with badPar := bad }

/-- The spare channel that serves logical channel `chan` of stack `n` so far serves it no more, and is retired (DEDUCED,
assumption log 43). -/
def Dev.leaveSpare (d : Dev) (n chan : Nat) : Dev :=
  match d.physChannel n chan with
  | 32 => { d.setRbit (.stkChmap n) 7 false with flt := { d.flt with retired := mapSet (fun _ => false) d.flt.retired (n * 2) true } }
  | 33 =>
    { d.setRbit (.stkChmap n) 15 false with flt := { d.flt with retired := mapSet (fun _ => false) d.flt.retired (n * 2 + 1) true } }
  | _ => d

/-- A migration's copy ends: the mapping is switched (08 R199; 14 R382). MIGPTR shows that the whole channel has been copied. -/
def Dev.migrationDone (d : Dev) (n : Nat) : Dev :=
  match mapGet (fun _ => none) d.flt.migs n with
  | none => d
  | some m =>
    let unit := unitId 8 (n * 64 + d.physChannel n m.chan)
    let d0 := (d.invertGranules n m.chan).leaveSpare n m.chan
    let d1 := (d0.setRbits (.stkChmap n) 17 16 0).setRbit (.stkChmap n) (if m.spare = 32 then 7 else 15) true
    let d2 := { d1.setRegN (.stkMigptr n) channelEnd with
      flt := { d1.flt with migs := mapSet (fun _ => none) d1.flt.migs n none } }
    ((d2.repairedAs unit (unitId 8 (n * 64 + m.chan)) m.spare).endLock m.lock).showRepairing

/-- The cluster of an SRAM unit ID. -/
def sramCluster (u : Nat) : Nat := if unitIndex u < 2 ^ 27 then unitIndex u / 32 % 512 / 8 else unitIndex u / 32 % 64

/-- The spare rows of a bank: 2 in CLM, 4 in CSM (08 R201). -/
def spareRowsOf (u : Nat) : Nat := if unitIndex u < 2 ^ 27 then 2 else 4

/-- A row is replaced by a spare row of its bank; whether one was left (14 R381; 08 R201). -/
def Dev.rowSpare (d : Dev) (u : Nat) : Bool × Dev :=
  let b := bankOf u
  let n := mapGet (fun _ => 0) d.flt.spareRows b
  if spareRowsOf u ≤ n then (false, d.noSpare u)
  else
    let d1 := d.repaired u n
    (true, { d1 with flt := { d1.flt with spareRows := mapSet (fun _ => 0) d1.flt.spareRows b (n + 1) } })

/-- A lane's corrected FEC symbols in one second reach the threshold (14 R379). -/
def Dev.laneTrigger (d : Dev) (p lane n : Nat) : Dev :=
  if n < d.rbits .fltRepthr 31 16 ∨ 16 < lane then d
  else
    let d1 := d.faultAt 0x0405 (unitLane p lane) n
    if !d1.rbit .fltRepcfg 0 then d1
    else if mapGet (fun _ => false) d1.flt.spareLanes p then d1.noSpare (unitLane p lane)
    else
      match d1.takeLock ownerFlt 5 (unitPort p) with
      | (some i, d2) => (d2.laneSpare p lane).2.freeLock i
      | (none, _) => d1.fltWait 5 (unitPort p) lane

/-- A channel's corrections in one second reach the threshold, or it has reported uncorrected errors at two granules (14
R380). -/
def Dev.channelTrigger (d : Dev) (n chan count : Nat) (granules : Bool) : Dev :=
  let many := decide (d.rbits .fltRepthr 15 0 ≤ count)
  if (!many && !granules) || 32 ≤ chan then d
  else
    let d1 := if many then d.faultAt 0x0302 (unitId 8 (n * 64 + d.physChannel n chan)) count else d
    if !d1.rbit .fltRepcfg 1 then d1
    else
      match d1.takeLock ownerFlt 6 (unitId 7 n) with
      | (some i, d2) => (d2.migrate n chan (some i)).2
      | (none, _) => d1.fltWait 6 (unitId 7 n) chan

/-! ### The wait list (14 R389) -/

/-- A waiting start that has its lock begins. -/
def Dev.fltBegin (d : Dev) (w : LockWait) (lock : Nat) : Dev :=
  let i := unitIndex w.scope
  match w.act with
  | 1 => d.levelOneStart i w.arg (some lock)
  | 2 => d.engineStart i w.arg (some lock)
  | 3 => if d.spareValid (i / 8) then d.coreSub i (some lock) else (d.clusterLost (i / 8)).freeLock lock
  | 4 => d.dieStart i (some lock)
  | 5 => (d.laneSpare i w.arg).2.freeLock lock
  | 6 => (d.migrate i w.arg (some lock)).2
  | 7 => (d.rowSpare w.arg).2.freeLock lock
  | _ => d.freeLock lock

/-- The earliest waiting start that no held entry conflicts with, and the others. -/
def Dev.firstGrant (d : Dev) : List LockWait → Option (LockWait × List LockWait)
  | [] => none
  | w :: ws =>
    if (d.lockConflict w.act w.scope).isNone then some (w, ws)
    else (d.firstGrant ws).map (fun r => (r.1, w :: r.2))

/-- Whether a waiting start is a substitution in a cluster whose spare is filling: it is not queued, and the cluster is lost (14
R383, R388). -/
def Dev.losesCluster (d : Dev) (w : LockWait) : Bool := w.act == 3 && d.subIn (unitIndex w.scope / 8)

/-- LOCK_WAIT_GRANT: a waiting start begins; a due clutch that waits for its lock is CLUTCH_START's. -/
def Dev.lockGrant (d : Dev) : Dev :=
  match d.flt.waits.find? d.losesCluster with
  | some w =>
    ({ d with flt := { d.flt with waits := d.flt.waits.filter (fun v => v ≠ w) } }).clusterLost (unitIndex w.scope / 8)
  | none =>
    match d.firstGrant d.flt.waits with
    | none => d
    | some (w, ws) =>
      match d.takeLock ownerFlt w.act w.scope with
      | (some i, d1) => ({ d1 with flt := { d1.flt with waits := ws } }).fltBegin w i
      | (none, _) => d

/-! ### FLT_CMD (14 R364, R389) -/

/-- FLT_CMDST of a refused start: BUSY, with the activity and entry that hold it. -/
def Dev.cmdBusy (d : Dev) (o : Owner) (a u : Nat) : Dev :=
  let d1 := d.busyRec o a u
  d1.setRegN .fltCmdst (2 ^ 30 + d1.rbits .fltBusyrec 27 24 * 2 ^ 20 + d1.rbits .fltBusyrec 23 20 * 2 ^ 16)

/-- The lock entry of the reset of engine `e` of core `c`. -/
def Dev.engineLock (d : Dev) (c e : Nat) : Option Nat :=
  match d.episode c e with
  | some p => if p.resetting then p.lock else none
  | none => none

/-- The lock entry of the migration on stack `n`. -/
def Dev.migrationLock (d : Dev) (n : Nat) : Option Nat :=
  match mapGet (fun _ => none) d.flt.migs n with
  | some m => m.lock
  | none => none

/-- The spare channel that a migration on stack `n` fills has failed: the migration is abandoned, the spare is retired, and
the channel goes to the other spare if it is free (14 Table 14.6). -/
def Dev.spareFailed (d : Dev) (n spare : Nat) : Dev :=
  match mapGet (fun _ => none) d.flt.migs n with
  | none => d
  | some m =>
    if m.spare ≠ spare then d
    else
      let d1 := { d.setRbits (.stkChmap n) 17 16 0 with flt := { d.flt with
          migs := mapSet (fun _ => none) d.flt.migs n none
          retired := mapSet (fun _ => false) d.flt.retired (n * 2 + (spare - 32)) true } }
      let r := d1.migrate n m.chan m.lock
      if r.1 then r.2 else r.2.showRepairing.cmdEndOf m.lock false

/-- A channel's corrections of a second, which STK_ECC.CORR counts (08 R202), or a second granule in error: it may meet R380.
Channels 32 and 33 are the spares: one that fills has failed (DEDUCED, assumption log 43), one in service stands for the channel
that it serves. -/
def Dev.channelEvent (d0 : Dev) (n chan count : Nat) (repeatGranule : Bool) : Dev :=
  let d := d0.addStick (.stkEcc n) 15 0 count
  let many := decide (d.rbits .fltRepthr 15 0 ≤ count)
  if chan < 32 then d.channelTrigger n chan count repeatGranule
  else if chan = 32 ∧ d.rbit (.stkChmap n) 7 then d.channelTrigger n (d.rbits (.stkChmap n) 4 0) count repeatGranule
  else if chan = 33 ∧ d.rbit (.stkChmap n) 15 then d.channelTrigger n (d.rbits (.stkChmap n) 12 8) count repeatGranule
  else if !many && !repeatGranule then d
  else (if many then d.faultAt 0x0302 (unitId 8 (n * 64 + chan)) count else d).spareFailed n chan

/-- FLT_CMDARG and its low half. -/
def Dev.cmdArg (d : Dev) : Nat := d.rbits .fltCmdarg 31 0

/-- LOCK. -/
def Dev.fltLockCmd (d : Dev) (o : Owner) : Dev :=
  let a := d.rbits .fltCmdarg 35 32
  let u := d.cmdArg
  if !lockOk a u then d.cmdErr 1
  else
    match d.takeLock o a u with
    | (some i, d1) => (d1.holdLock i).cmdDone i
    | (none, _) => d.cmdBusy o a u

/-- UNLOCK: an entry that is not held cannot be freed. -/
def Dev.fltUnlockCmd (d : Dev) : Dev :=
  let i := d.rbits .fltCmdarg 3 0
  if d.lockHeld i then (d.dropLock i).cmdDone i else d.cmdErr 2

/-- A start with activity `a` on scope `u` by software: under the entry that it has taken with LOCK, else under one taken now,
or BUSY (14 R387, R389). -/
def Dev.swStart (d : Dev) (o : Owner) (a u : Nat) (act : Dev → Nat → Dev) : Dev :=
  match d.ownLock o a u with
  | some i => act d i
  | none =>
    match d.takeLock o a u with
    | (some i, d1) => act d1 i
    | (none, _) => d.cmdBusy o a u

/-- ENGRST. -/
def Dev.engrstCmd (d : Dev) (o : Owner) : Dev :=
  let u := d.cmdArg
  if unitKind u ≠ 4 || !unitOk u then d.cmdErr 1
  else
    let c := unitIndex u % 512
    let e := unitIndex u / 512
    if !d.dieUp (c / 128) || d.inEngineReset c e then d.cmdErr 2
    else d.swStart o 2 (unitCore c) (fun f i => (f.cmdRun i).engineStart c e (some i))

/-- CORESUB. -/
def Dev.coresubCmd (d : Dev) (o : Owner) : Dev :=
  let u := d.cmdArg
  if unitKind u ≠ 3 || !unitOk u || 512 ≤ unitIndex u then d.cmdErr 1
  else
    let k := unitIndex u
    if !d.dieUp (k / 128) || !d.spareValid (k / 8) || d.flt.subs.any (fun s => s.core / 8 == k / 8) then d.cmdErr 2
    else d.swStart o 3 (unitCore k) (fun f i => (f.cmdRun i).coreSub k (some i))

/-- DIERST. -/
def Dev.dierstCmd (d : Dev) (o : Owner) : Dev :=
  let u := d.cmdArg
  if unitKind u ≠ 1 || !unitOk u then d.cmdErr 1
  else
    let y := d.subsYield (unitIndex u)
    if (y.ownLock o 4 u).isSome || ((y.lockConflict 4 u).isNone && y.lockFree.isSome) then
      y.swStart o 4 u (fun f i => (f.cmdRun i).dieStart (unitIndex u) (some i))
    else d.cmdBusy o 4 u

/-- LANESP. -/
def Dev.lanespCmd (d : Dev) (o : Owner) : Dev :=
  let u := d.cmdArg
  if unitKind u ≠ 6 || !unitOk u || unitIndex u / 256 = 0 then d.cmdErr 1
  else
    let p := unitIndex u % 32
    d.swStart o 5 (unitPort p) (fun f i =>
      let r := f.laneSpare p (unitIndex u / 256 - 1)
      if r.1 then (r.2.freeLock i).cmdDone i else (r.2.freeLock i).cmdErr 3)

/-- CHMIG: the channel is named by its physical number, which is that of the logical channel it serves. -/
def Dev.chmigCmd (d : Dev) (o : Owner) : Dev :=
  let u := d.cmdArg
  if unitKind u ≠ 8 || !unitOk u then d.cmdErr 1
  else
    let n := unitIndex u / 64
    match (List.range 32).find? (fun lc => d.physChannel n lc = unitIndex u % 64) with
    | none => d.cmdErr 2
    | some lc =>
      d.swStart o 6 (unitId 7 n) (fun f i =>
        let r := f.migrate n lc (some i)
        if r.1 then r.2.cmdRun i else r.2.cmdErr 3)

/-- ROWSP. -/
def Dev.rowspCmd (d : Dev) (o : Owner) : Dev :=
  let u := d.cmdArg
  if unitKind u ≠ 9 || !unitOk u then d.cmdErr 1
  else
    d.swStart o 7 (unitId 2 (sramCluster u)) (fun f i =>
      let r := f.rowSpare u
      if r.1 then (r.2.freeLock i).cmdDone i else (r.2.freeLock i).cmdErr 3)

/-- RELEASE (14 R377): STOPPED and SCAUSE are cleared and DTOK is bumped. -/
def Dev.fltRelease (d : Dev) : Dev :=
  if d.rbit .fltStatus 0 then
    let d1 := ((d.setRbit .fltStatus 0 false).setRbits .fltStatus 19 16 0)
    (({ d1 with flt := { d1.flt with withheld := false } }).releaseDtok).cmdDone 0
  else d.cmdErr 2

/-- REVOTE (14 R385): the standing vote goes again, and STOPPED is cleared. -/
def Dev.fltRevote (d : Dev) : Dev :=
  if d.rbit .fltStatus 0 && d.chorus.vote.isSome && d.rbits .fltStatus 19 16 == 4 then
    (((d.setRbit .fltStatus 0 false).setRbits .fltStatus 19 16 0).revote).cmdDone 0
  else d.cmdErr 2

/-- The substitutions that the reset of die `n` has abandoned are completed before its release: the spare takes over, and the
state is lost with the die's (14 Table 14.6). -/
def Dev.subsComplete (d : Dev) (n : Nat) : Dev :=
  let mine := d.flt.unfinished.filter (fun k => k / 128 == n)
  mine.foldl (fun (e : Dev) k => if e.spareValid (k / 8) then e.subFinish { core := k } else e)
    { d with flt := { d.flt with unfinished := d.flt.unfinished.filter (fun k => k / 128 ≠ n) } }

/-- A die reset ends (14 R376): the die is released, a substitution that waited for it is completed, DIERST is recorded; a
die that fails its self-test stays in reset (DESIGN CHOICE, assumption log 35). -/
def Dev.dieDone (d : Dev) (n : Nat) (passed : Bool) : Dev :=
  match d.flt.dies.find? (fun e => e.1 = n) with
  | none => d
  | some (_, lock) =>
    let d1 := { d with flt := { d.flt with dies := d.flt.dies.filter (fun e => e.1 ≠ n) } }
    let d2 := if passed then ((d1.subsComplete n).dieRelease n).faultRec 0x0603 (unitId 1 n) 4 0 0 else d1
    (d2.endLock lock).cmdEndOf lock passed

/-! ### Loading a variant (14 R384, step 4) -/

/-- The clusters that are lost and hold a byte that a list of copies cannot read. -/
def Dev.lostUnread (d : Dev) (cs : List (Nat × Nat × Nat)) : List Nat :=
  (List.range 64).filter (fun c => d.rbit .fltCllost c && cs.any (fun p => unitOf p.1 == some c && d.badAt p.1 p.2.2))

/-- The MGC loads the chosen variant: what its image copies out of the lost clusters, its bundles and its context entries, and
RELEASE; a byte that cannot be read leaves the device stopped with SCAUSE 3. The spec does not lay out the image: what it says
is Config's (assumption log 55). -/
def Dev.loadVariant (d : Dev) : Dev :=
  let a := d.rbits .fltDvbase 47 6 * 64 + d.rbits .fltDvsel 7 0 * 64
  let img := d.bytesAt (ofBytes (d.bytesAt (a + 8) 8) % 2 ^ 48) (ofBytes (d.bytesAt (a + 16) 4))
  let cs := Config.variantCopies img
  match d.lostUnread cs with
  | [] =>
    let d1 := cs.foldl (fun (e : Dev) p => e.putAt p.2.1 (e.bytesAt p.1 p.2.2)) d
    let d2 := (Config.variantWrites img).foldl (fun (e : Dev) p => e.putAt p.1 p.2) d1
    let d3 := (Config.variantEntries img).foldl (fun (e : Dev) p => e.setCtx (p.1 % 512) (p.2.1 % 80) (ctxOfBytes p.2.2)) d2
    d3.fltRelease
  | us =>
    let d1 := us.foldl (fun (e : Dev) c => e.faultRec 0x0605 (unitId 2 c) 3 0 0) d
    (d1.setRbit .fltStatus 11 true).setRbits .fltStatus 19 16 3

/-- In an idle step of a device stopped for a lost cluster with a variant chosen, a free choice says whether the MGC loads it
(assumption log 55). -/
def Dev.variantTick (d : Dev) : Dev :=
  if d.rbit .fltStatus 0 && d.rbits .fltStatus 19 16 == 1 && d.rbits .fltDvsel 7 0 != 0xFF then
    if bit d.free 0 then (d.useFree 1).loadVariant else d.useFree 1
  else d

/-- The device after an idle step: time passes, and the substitution and the variant's load that are in progress may move on
(assumption logs 3, 32, 55). -/
def Dev.idle (d : Dev) : Dev := d.tick.subTick.variantTick.releaseBumps

/-- The state after an idle step; what it makes pending is sent as after a command. -/
def State.idle (s : State) : State := { s with dev := s.dev.deliver s.dev.fresh.idle.traceFlush }

/-! ### Rows of the table -/

/-- ENGINE_WATCHDOG (14 R371). -/
def execEngineWatchdog (core : CoreId) (e : Fin 5) (s : State) : Host.Outcome State Fault Refusal :=
  s.run (fun d => d.engineWatchdog core e)

/-- SUSPECT_ADVANCE (14 R371). -/
def execSuspectAdvance (core : CoreId) (e : Fin 5) (s : State) : Host.Outcome State Fault Refusal :=
  s.run (fun d => d.suspectAdvance core e)

/-- UNIT_WATCHDOG (14 R368). -/
def execUnitWatchdog (unit : Byte) (num : W16) (s : State) : Host.Outcome State Fault Refusal :=
  s.run (fun d => d.unitWatchdog unit.toNat num.toNat)

/-- CONTEXT_RESET_TIMEOUT (14 R369). -/
def execContextResetTimeout (core : CoreId) (ctx : CtxId) (s : State) : Host.Outcome State Fault Refusal :=
  s.run (fun d => d.ctxResetLate core ctx)

/-- ENGINE_RESET_TIMEOUT (14 R373). -/
def execEngineResetTimeout (core : CoreId) (e : Fin 5) (s : State) : Host.Outcome State Fault Refusal :=
  s.run (fun d => (d.engineLate core e).cmdEndOf (d.engineLock core e) false)

/-- LANE_REPAIR_TRIGGER (14 R379). -/
def execLaneRepairTrigger (p : PortId) (lane : BitVec 5) (count : W32) (s : State) : Host.Outcome State Fault Refusal :=
  s.run (fun d => d.laneTrigger p lane.toNat count.toNat)

/-- CHANNEL_REPAIR_TRIGGER (14 R380). -/
def execChannelRepairTrigger (n : StackId) (chan : BitVec 6) (count : W32) (repeatGranule : Bool) (s : State) :
    Host.Outcome State Fault Refusal := s.run (fun d => d.channelEvent n chan.toNat count.toNat repeatGranule)

/-- CHANNEL_MIGRATION_DONE (08 R199). -/
def execChannelMigrationDone (n : StackId) (s : State) : Host.Outcome State Fault Refusal :=
  s.run (fun d => (d.migrationDone n).cmdEndOf (d.migrationLock n) true)

/-- ENGINE_RESET_DONE (14 R374). -/
def execEngineResetDone (core : CoreId) (e : Fin 5) (passed : Bool) (s : State) : Host.Outcome State Fault Refusal :=
  s.run (fun d => (d.engineDone core e passed).cmdEndOf (d.engineLock core e) passed)

/-- DIE_RESET_DONE (14 R376). -/
def execDieResetDone (die : DieId) (passed : Bool) (s : State) : Host.Outcome State Fault Refusal :=
  s.run (fun d => d.dieDone die passed)

/-- FORCED_ARRIVAL (14 R372). -/
def execForcedArrival (s : State) : Host.Outcome State Fault Refusal := s.run (fun d => d.forcedArrival)

/-- LOCK_WAIT_GRANT (14 R389). -/
def execLockWaitGrant (s : State) : Host.Outcome State Fault Refusal := s.run (fun d => d.lockGrant)

end Sys2Proof.Machine
end

