-- ==== Sys2Proof/Machine/Mgc.lean ====
section
/-! DEFINITION. The management island (17): power-on reset and boot, images and their checks, the repair record at boot, the
host port's reset, and the mailboxes. -/

namespace Sys2Proof.Machine

/-! ### Power-on reset (17 R435, R436; 18 R456) -/

/-- Whether a register holds a fuse. -/
def fuseReg (a : Nat) : Bool :=
  a == Reg.addr .mgcMfr || a == Reg.addr .mgcSerial || a == Reg.addr .mgcFuse ||
  decide (Reg.addr (.mgcKeyhash 0) ≤ a ∧ a ≤ Reg.addr (.mgcKeyhash 47))

/-- The device while POR_N is low: everything is at its reset value but the fuses, SPI NOR, the preferred copy and a copy whose
writing was cut off; what the device has sent, and the free values used, are the model's own. -/
def Dev.porState (d : Dev) : Dev :=
  { regs := d.regs.filter (fun e => fuseReg e.1)
    mgc := { spi := d.mgc.spi, spiFitted := d.mgc.spiFitted, preferred := d.mgc.preferred, torn := d.mgc.torn }
    outbox := d.outbox
    freeCtr := d.freeCtr }

/-! ### Images (17 R438, R439) -/

/-- The fused digest of key slot `k`. -/
def Dev.keyHash (d : Dev) (k : Nat) : List Byte := (List.range 12).flatMap (fun i => toBytes 4 (d.regN (.mgcKeyhash (12 * k + i))))

/-- Whether bytes [lo, lo + n) of an image are all 0. -/
def zeroField (img : List Byte) (lo n : Nat) : Bool := (sliceBytes img lo n).all (fun b => b == 0)

/-- The length of an image's body. -/
def bodyLen (img : List Byte) : Nat := fieldBytes img 12 4

/-- The body of an image. -/
def imageBody (img : List Byte) : List Byte := sliceBytes img 512 (bodyLen img)

/-- The checks of 17 Table 17.7 in their order: the code of the first that fails, 0 for none. A key slot above 3 has no
digest and fails check 3. -/
def Dev.imageCode (d : Dev) (img : List Byte) : Nat :=
  let k := fieldBytes img 7 1
  let n := bodyLen img
  let formOk := fieldBytes img 4 2 == 1 && fieldBytes img 6 1 == 1 && n % 64 == 0 && decide (64 ≤ n ∧ n ≤ 491520) &&
    decide (fieldBytes img 16 4 < n) && zeroField img 24 40 && zeroField img 304 208
  let keyOk := decide (k < 4) && !d.rbit .mgcFuse (24 + k) && Config.sha384 (sliceBytes img 112 96) == d.keyHash k
  let sigOk := Config.ecdsaVerify (sliceBytes img 112 96) (sliceBytes img 208 96) (Config.sha384 (sliceBytes img 0 208))
  if fieldBytes img 0 4 ≠ 0x31534B57 then 1
  else if !formOk then 2
  else if !keyOk then 3
  else if !sigOk then 4
  else if Config.sha384 (imageBody img) ≠ sliceBytes img 64 48 then 5
  else if fieldBytes img 8 4 < d.rbits .mgcFuse 5 0 then 6
  else if fieldBytes img 20 4 / 2 % 2 = 0 then 7
  else 0

/-- The base of an SPI copy (17 R440). -/
def copyBase (k : Nat) : Nat := k * 0x80000

/-- The image of an SPI copy. -/
def Dev.spiImage (d : Dev) (k : Nat) : List Byte := d.spiBytes (copyBase k) 0x80000

/-- The boot buffer (17 R441). -/
def bootBuffer : Nat := 0xFF00080000

/-- The first bytes of the boot buffer. -/
def Dev.bufferImage (d : Dev) (len : Nat) : List Byte := d.physBytes bootBuffer len

/-! ### Boot (17 R437, R440, R441) -/

/-- Whether mailbox `m` runs a command. -/
def Dev.mbxBusy (d : Dev) (m : Nat) : Bool := d.rbit (.mbxStat m) 31

/-- Whether mailbox `m` runs command `op`. -/
def Dev.mbxRuns (d : Dev) (m op : Nat) : Bool := d.mbxBusy m && d.rbits (.mbxStat m) 7 0 == op

/-- The result of a FWSTAGE of mailbox `m` whose write cannot begin: 2 bad operand, 4 verification failed, 5 SPI error. The copy
that is not preferred is never the running one: the write then fails as an SPI error (DESIGN CHOICE, assumption log 36). -/
def Dev.stageStop (d : Dev) (m : Nat) : Option Nat :=
  let len := d.rbits (.mbxArg m 0) 31 0
  if len < 512 ∨ 0x80000 < len then some 2
  else if d.imageCode (d.bufferImage len) ≠ 0 then some 4
  else if !d.mgc.spiFitted ∨ d.mgc.copy = 1 - d.mgc.preferred then some 5
  else none

/-- Power-on reset: everything returns to its reset value, and the copy that a staging was writing is invalid (17 R435). -/
def Dev.porReset (d : Dev) : Dev :=
  let writes := (List.range 2).any (fun m => d.mbxRuns m 3 && (d.stageStop m).isNone)
  let e := d.porState
  if writes then { e with mgc := { e.mgc with torn := some (1 - d.mgc.preferred) } } else e

/-- POR_LOW (17 R435). -/
def execPorLow (s : State) : Host.Outcome State Fault Refusal := s.run (fun d => d.porReset)

/-- The code that an SPI copy's check gives (17 Table 17.7): 11 where no SPI NOR answers, 8 where its read fails. A copy whose
writing was cut off fails a check, which one is open (DESIGN CHOICE, assumption log 36). -/
def Dev.copyCode (d : Dev) (k : Nat) : Nat :=
  if !d.mgc.spiFitted then 11
  else if bit d.mgc.spiErr k then 8
  else if d.mgc.torn = some k then 1 + d.free.toNat % 7
  else d.imageCode (d.spiImage k)

/-- The boot stops with a code: FAIL, CODE and the stage reached. -/
def Dev.bootFail (d : Dev) (stage code : Nat) : Dev :=
  let d1 := (d.setRbits .mgcBootst 27 24 stage).setRbits .mgcBootst 23 16 code
  { d1.setRbit .mgcBootst 30 true with mgc := { d1.mgc with waiting := false } }

/-- The slot maps, the Tj counters and the repairs made come from a repair record sector (01 R16; 14 R382). -/
def Dev.rrLoad (d : Dev) (k : Nat) : Dev :=
  let b := d.spiBytes (rrBase k) 0x218
  let d1 := (d.setRegN .pwrTjacc (fieldBytes b 8 8)).setRegN .pwrTjtime (fieldBytes b 16 8)
  let d2 := (List.range 64).foldl (fun (e : Dev) c => e.setRegN (.slotmap c) (fieldBytes b (24 + 8 * c) 8)) d1
  d2.takeRepairs (d.rrRepairs k)

/-- Whether both repair record sectors are erased. -/
def Dev.rrErased (d : Dev) : Bool := d.mgc.spi.all (fun e => e.1 < 0x100000 || 0x120000 ≤ e.1)

/-- The part's first repair record, which blows RRINIT. -/
def Dev.rrInit (d : Dev) : Dev := (d.spiWrite (rrBase 0) (d.rrBytes 1)).setRbit .mgcFuse 6 true

/-- The repair record is read, or written for the first time: the code of a failure, and the device. -/
def Dev.rrBoot (d : Dev) : Nat × Dev :=
  if !d.mgc.spiFitted then (11, d)
  else if bit d.mgc.spiErr 2 then (8, d)
  else
    match d.rrSector with
    | some k => (0, d.rrLoad k)
    | none => if !d.rbit .mgcFuse 6 && d.rrErased then (0, d.rrInit) else (12, d)

/-- Whether a sensor reads below -40 C (15 R410). -/
def Dev.cold (d : Dev) : Bool := (List.range 111).any (fun s => sext 16 (d.rbits (.pwrTemp s) 31 16) < -320)

/-- The last steps of a boot: the dies are released, whose self-tests pass, unless the supply was low when POR_N rose (17 R433);
the host port is enabled, and READY set (17 R437). -/
def Dev.bootEnd (d : Dev) : Dev :=
  let d1 := if d.mgc.dark then d else (List.range 4).foldl (fun (e : Dev) n => e.dieRelease n) d
  let d2 := { d1 with mgc := { d1.mgc with hostUp := d1.rbit .mgcStrap 5, limited := false, coldWait := false } }
  ((d2.setRbits .mgcBootst 27 24 5).setRbits .mgcBootst 23 16 0).setRbit .mgcBootst 31 true

/-- The firmware runs: it reads the repair record, sets each VDD_CL, and goes on once every sensor reads -40 C or more (15 R410;
17 R437). -/
def Dev.firmware (d : Dev) (src : Nat) (img : List Byte) : Dev :=
  let m := { d.mgc with svn := fieldBytes img 8 4, copy := src, waiting := false }
  let d1 := ({ d with mgc := m }).setRbits .mgcBootst 29 28 src
  match d1.rrBoot with
  | (0, d2) =>
    let d3 := d2.refreshClocks
    if d3.cold then { d3.setRbits .mgcBootst 27 24 4 with mgc := { d3.mgc with coldWait := true } } else d3.bootEnd
  | (code, d2) => d2.bootFail 3 code

/-- A host boot begins: the host port is released for the MGC block, and the ROM waits for MGC_BOOTCMD. -/
def Dev.hostBoot (d : Dev) : Dev :=
  let d1 := { d with mgc := { d.mgc with waiting := true, hostUp := true, limited := true } }
  (d1.setRbits .mgcBootst 29 28 2).setRbits .mgcBootst 27 24 1

/-- An SPI boot: the preferred copy, then the other; then the host where the straps say so. -/
def Dev.spiBoot (d : Dev) (thenHost : Bool) : Dev :=
  let p := d.mgc.preferred
  let code := d.copyCode
  if code p = 0 then d.firmware p (d.spiImage p)
  else if code (1 - p) = 0 then d.firmware (1 - p) (d.spiImage (1 - p))
  else if thenHost then d.hostBoot
  else ((d.setRbits .mgcBootst 29 28 (1 - p)).bootFail 2 (code (1 - p))).useFree 1

/-- PWR_WARN_N or PWR_FAIL_N is low as POR_N rises: FAIL is recorded, and every die stays in reset (17 R433); that
the firmware boots all the same is a DESIGN CHOICE (assumption log 57). -/
def Dev.darkStart (d : Dev) : Dev :=
  if d.pwr.warnLow || d.pwr.failLow then
    let d1 := (d.setRbit .pwrStatus 7 true).faultAt 0x0A03 (unitId 0 0) 0
    { d1 with mgc := { d1.mgc with dark := true }, pwr := { d1.pwr with failing := true } }
  else d

/-- POR_N has risen, with what the supply monitors and the sensors read, and the SPI reads that will fail: the straps are latched
and the boot ROM runs, unless VDD_MGT is below its reset threshold (15 R401, R410; 17 R433, R435, R437). -/
def Dev.powerOn (d0 : Dev) (straps : W32) (x : Supply) (readings : List W16) (spiErr : BitVec 3) : Dev :=
  let e0 := d0.porReset.setRegN .mgcStrap (bits straps 5 0)
  let e := ({ e0 with mgc := { e0.mgc with spiErr := spiErr } }).takeSupply x
  let d := ((e.takeTemps readings).darkStart).supplyReact
  let src := bits straps 1 0
  if e.rail 29 = 3 then d0.porReset
  else if src = 3 ∨ (src ≠ 0 ∧ !bit straps 5) then d.bootFail 0 10
  else if src = 1 then d.hostBoot
  else d.spiBoot (src = 2)

/-- POWER_ON_RESET (17 R437): POR_N rises. -/
def execPowerOnReset (straps : W32) (x : Supply) (readings : List W16) (spiErr : BitVec 3) (s : State) :
    Host.Outcome State Fault Refusal := s.run (fun d => d.powerOn straps x readings spiErr)

/-- What the monitors see, and what follows: with VDD_MGT below its reset threshold the whole device resets as at power-on
(15 R401; 17 R435). -/
def Dev.supplySample (d : Dev) (x : Supply) : Dev :=
  let d1 := d.takeSupply x
  if d1.rail 29 = 3 then d.porReset else d1.supplyReact

/-- SUPPLY_WARNING (15 R402). -/
def execSupplyWarning (x : Supply) (s : State) : Host.Outcome State Fault Refusal := s.run (fun d => d.supplySample x)

/-- SUPPLY_RECOVERED (15 R406). -/
def execSupplyRecovered (x : Supply) (s : State) : Host.Outcome State Fault Refusal := s.run (fun d => d.supplySample x)

/-- SUPPLY_FAIL (15 R407). -/
def execSupplyFail (x : Supply) (s : State) : Host.Outcome State Fault Refusal := s.run (fun d => d.supplySample x)

/-- A boot that waits for the sensors goes on (15 R410). -/
def Dev.warmUp (d : Dev) : Dev := if d.mgc.coldWait && !d.cold then d.bootEnd else d

/-- SENSOR_SAMPLE (15 R408 to R410). -/
def execSensorSample (readings : List W16) (s : State) : Host.Outcome State Fault Refusal :=
  s.run (fun d => (d.sensorSample readings).warmUp)

/-- A write of MGC_BOOTCMD, acted on only while a host boot waits: the pushed image is verified (17 R441). -/
def Dev.bootCmd (d : Dev) (v : W32) : Dev :=
  if d.mgc.waiting then
    let img := d.bufferImage (bits v 19 0)
    let code := d.imageCode img
    if code = 0 then d.firmware 2 img else d.bootFail 2 code
  else d

/-- HOST_BOOT_TIMEOUT (17 R441). -/
def execHostBootTimeout (s : State) : Host.Outcome State Fault Refusal :=
  s.run (fun d => if d.mgc.waiting then d.bootFail 1 9 else d)

/-- HOST_PORT_RESET (17 R445). -/
def execHostPortReset (s : State) : Host.Outcome State Fault Refusal := s.run (fun d => d.hostReset)

/-- What a configuration read of the host gets: until the host port is released the device answers with Configuration Request
Retry Status, here none (17 R444); then the identity words of the header (17 Table 17.9). -/
def Dev.configWord (d : Dev) (off : Nat) : Option Nat :=
  if !d.mgc.hostUp then none
  else if off = 0 then some (0x0A51 * 2 ^ 16 + d.rbits .mgcMfr 15 0)
  else if off = 8 then some (0x120000 * 2 ^ 8 + 1)
  else some 0

/-! ### Mailboxes (17 R449, R450) -/

/-- Whether an OP needs the SPI and fuse resource. -/
def mbxHeavy (op : Nat) : Bool := op == 3 || op == 4 || op == 5

/-- Whether a firmware staging runs; writes to the boot buffer are then ignored. -/
def Dev.staging (d : Dev) : Bool := d.mbxRuns 0 3 || d.mbxRuns 1 3

/-- The command of mailbox `m` ends with a result. -/
def Dev.mbxEnd (d : Dev) (m res : Nat) : Dev :=
  (d.setRegN (.mbxStat m) (2 ^ 30 + res * 2 ^ 8 + d.rbits (.mbxStat m) 7 0)).setRbit (.mbxCmd m) 31 false

/-- GO of mailbox `m`: a bad OP, and a second command for the SPI and fuse resource, end at once. -/
def Dev.mbxGo (d : Dev) (m : Nat) : Dev :=
  let op := d.rbits (.mbxCmd m) 7 0
  let d1 := (d.setRegN (.mbxStat m) (2 ^ 31 + op)).setRbit (.mbxCmd m) 31 true
  if op = 0 ∨ 5 < op then d1.mbxEnd m 1
  else if mbxHeavy op && d.mbxBusy (1 - m) && mbxHeavy (d.rbits (.mbxStat (1 - m)) 7 0) then d1.mbxEnd m 3
  else d1

/-- A write of MBX_CMD: a GO while BUSY is ignored. -/
def Dev.mbxWrite (d : Dev) (m : Nat) (v : W32) : Dev :=
  let d1 := d.setRbits (.mbxCmd m) 7 0 (bits v 7 0)
  if bit v 31 && !d.mbxBusy m then d1.mbxGo m else d1

/-- INFO. -/
def Dev.mbxInfo (d : Dev) (m : Nat) : Dev :=
  if d.mbxRuns m 1 then
    let d1 := (d.setReg (.mbxArg m 0) (d.reg .mgcId)).setReg (.mbxArg m 1) (d.reg .mgcBootst)
    ((d1.setRegN (.mbxArg m 2) (d.rbits .mgcSerial 31 0)).setRegN (.mbxArg m 3) (d.rbits .mgcSerial 63 32)).mbxEnd m 0
  else d

/-- RRREAD: 64 bytes of the record in force; with none, an SPI error (DESIGN CHOICE, assumption log 36). -/
def Dev.mbxRrread (d : Dev) (m : Nat) : Dev :=
  if !d.mbxRuns m 2 then d
  else
    let o := d.rbits (.mbxArg m 0) 31 0
    if 0x10000 < o + 64 then d.mbxEnd m 2
    else
      match d.rrSector with
      | none => d.mbxEnd m 5
      | some k =>
        let b := d.spiBytes (rrBase k + o) 64
        ((List.range 16).foldl (fun (e : Dev) i => e.setRegN (.mbxData m i) (fieldBytes b (4 * i) 4)) d).mbxEnd m 0

/-- FWSTAGE: the image in the boot buffer is verified and written to the copy that is not preferred. -/
def Dev.mbxFwstage (d : Dev) (m : Nat) : Dev :=
  if !d.mbxRuns m 3 then d
  else
    let len := d.rbits (.mbxArg m 0) 31 0
    let k := 1 - d.mgc.preferred
    match d.stageStop m with
    | some res => d.mbxEnd m res
    | none =>
      let d1 := d.spiWrite (copyBase k) (d.bufferImage len ++ List.replicate (0x80000 - len) 0xFF)
      ({ d1 with mgc := { d1.mgc with torn := none } }).mbxEnd m 0

/-- FWSELECT. -/
def Dev.mbxFwselect (d : Dev) (m : Nat) : Dev :=
  if !d.mbxRuns m 4 then d
  else
    let k := d.rbits (.mbxArg m 0) 31 0
    if 1 < k then d.mbxEnd m 2
    else if !d.mgc.spiFitted then d.mbxEnd m 5
    else if d.mgc.torn = some k ∨ d.imageCode (d.spiImage k) ≠ 0 then d.mbxEnd m 4
    else ({ d with mgc := { d.mgc with preferred := k } }).mbxEnd m 0

/-- SVNLOCK: a blown fuse cannot be cleared, so SVNMIN never falls (17 R436). An SVN above 63, which no fuse holds, counts as 63
(DESIGN CHOICE, assumption log 36). -/
def Dev.mbxSvnlock (d : Dev) (m : Nat) : Dev :=
  if d.mbxRuns m 5 then (d.setRbits .mgcFuse 5 0 (max (d.rbits .mgcFuse 5 0) (min 63 d.mgc.svn))).mbxEnd m 0 else d

/-- MBX_INFO (17 R449). -/
def execMbxInfo (box : Fin 2) (s : State) : Host.Outcome State Fault Refusal := s.run (fun d => d.mbxInfo box)

/-- MBX_RRREAD (17 R449). -/
def execMbxRrread (box : Fin 2) (s : State) : Host.Outcome State Fault Refusal := s.run (fun d => d.mbxRrread box)

/-- MBX_FWSTAGE (17 R449, R450). -/
def execMbxFwstage (box : Fin 2) (s : State) : Host.Outcome State Fault Refusal := s.run (fun d => d.mbxFwstage box)

/-- MBX_FWSELECT (17 R449, R450). -/
def execMbxFwselect (box : Fin 2) (s : State) : Host.Outcome State Fault Refusal := s.run (fun d => d.mbxFwselect box)

/-- MBX_SVNLOCK (17 R449, R450). -/
def execMbxSvnlock (box : Fin 2) (s : State) : Host.Outcome State Fault Refusal := s.run (fun d => d.mbxSvnlock box)

end Sys2Proof.Machine
end

