-- ==== Sys2Proof/Machine/Tables.lean ====
section
/-! DEFINITION. The code tables of the codecs (08 R229 to R233): images, the table commands, and the references of admitted
blocks. -/

namespace Sys2Proof.Machine

/-- What codec `n` keeps for slot `t`. -/
def Dev.tab (d : Dev) (n t : Nat) : TabSlot := mapGet (fun _ => {}) d.tabs (n * 4 + t)

/-- The device with what a slot keeps replaced. -/
def Dev.setTab (d : Dev) (n t : Nat) (v : TabSlot) : Dev := { d with tabs := mapSet (fun _ => {}) d.tabs (n * 4 + t) v }

/-- STATE of a slot: 0 EMPTY, 1 LOADING, 2 READY. -/
def Dev.tabState (d : Dev) (n t : Nat) : Nat := d.rbits (.cdcTslot n t) 1 0

/-- GEN of a slot. -/
def Dev.tabGen (d : Dev) (n t : Nat) : Nat := d.rbits (.cdcTslot n t) 9 8

/-- REFCNT of a slot. -/
def Dev.tabRefs (d : Dev) (n t : Nat) : Nat := d.rbits (.cdcTslot n t) 31 16

/-! ### Images (08 R222, R229) -/

/-- The code length of symbol `s` in an image. -/
def codeLen (img : List Byte) (s : Nat) : Nat := (img.getD (s / 2) 0).toNat / 16 ^ (s % 2) % 16

/-- The 256 code lengths. -/
def codeLens (img : List Byte) : List Nat := (List.range 256).map (codeLen img)

/-- CDC_TERR of an image, 0 for a valid one (08 R229, CDC_TERR). -/
def imageErr (img : List Byte) : Nat :=
  let ls := codeLens img
  let sum := ls.foldl (fun n l => if l = 0 then n else n + 2 ^ (12 - l)) 0
  if fieldBytes img 128 2 ≠ (crc16 (img.take 128)).toNat then 1
  else if ls.any (fun l => 12 < l) then 2
  else if sum = 0 ∨ 4096 < sum then 3
  else if fieldBytes img 130 2 ≠ 0 then 4
  else 0

/-! ### Table commands (08 R231) -/

/-- A table command is rejected. -/
def Dev.tabRej (d : Dev) (n : Nat) : Dev := d.setRbit (.cdcStatus n) 1 true

/-- LOAD: STATE is LOADING while the codec fetches the image and until it becomes active. -/
def Dev.tableLoad (d : Dev) (n t : Nat) : Dev :=
  if (d.tab n t).busy ≠ 0 ∨ d.rbits (.cdcTslot n t) 3 2 ≠ 0 ∨ d.rbit (.cdcTslot n t) 7 then d.tabRej n
  else
    (d.setTab n t { (d.tab n t) with busy := 1, fetched := false, addr := d.rbits (.cdcTaddr n) 47 2 * 4 }).setRbits
      (.cdcTslot n t) 1 0 1

/-- STAGE: STG is 1 while the codec fetches the image. -/
def Dev.tableStage (d : Dev) (n t : Nat) : Dev :=
  if (d.tab n t).busy ≠ 0 ∨ d.tabState n t ≠ 2 ∨ d.rbits (.cdcTslot n t) 3 2 ≠ 0 ∨ d.rbit (.cdcTslot n t) 7 then d.tabRej n
  else
    (d.setTab n t { (d.tab n t) with busy := 2, addr := d.rbits (.cdcTaddr n) 47 2 * 4 }).setRbits (.cdcTslot n t) 3 2 1

/-- COMMIT: the staged image becomes active and GEN increments; the earlier one serves the blocks already admitted. -/
def Dev.tableCommit (d : Dev) (n t : Nat) : Dev :=
  let b := d.tab n t
  if b.busy ≠ 0 ∨ d.rbits (.cdcTslot n t) 3 2 ≠ 2 then d.tabRej n
  else
    let refs := d.tabRefs n t
    let d1 := ((d.setRbits (.cdcTslot n t) 3 2 0).setRbits (.cdcTslot n t) 9 8 (d.tabGen n t + 1)).setRbits (.cdcTslot n t) 31 16 0
    if refs = 0 then d1.setTab n t { b with active := b.second, second := [] }
    else (d1.setTab n t { b with active := b.second, second := b.active, oldRefs := refs }).setRbit (.cdcTslot n t) 7 true

/-- The state of a slot whose image could not be used: the slot is as it was (DEDUCED: LOADING goes back to what it was, assumption log 49). -/
def Dev.tableFail (d : Dev) (n t code : Nat) : Dev :=
  let b := d.tab n t
  let d1 := (d.setRbit (.cdcStatus n) 0 true).setRegN (.cdcTerr n) code
  let d2 := d1.setTab n t { b with busy := 0, fetched := false, addr := 0 }
  if b.busy = 1 then d2.setRbits (.cdcTslot n t) 1 0 (if b.active.isEmpty then 0 else 2) else d2.setRbits (.cdcTslot n t) 3 2 0

/-- The fetch of a LOAD or STAGE ends: an image that cannot be read has code 5, an invalid one its own. -/
def Dev.tableFetched (d : Dev) (n t : Nat) : Dev :=
  let b := d.tab n t
  if b.busy = 0 ∨ b.fetched then d
  else if !d.memOk b.addr 132 then d.tableFail n t 5
  else if d.badAt b.addr 132 then (d.reportParity b.addr 132).tableFail n t 5
  else
    let img := d.bytesAt b.addr 132
    let d := d.readServed b.addr 132
    let e := imageErr img
    if e ≠ 0 then d.tableFail n t e
    else if b.busy = 1 then d.setTab n t { b with second := img, fetched := true }
    else (d.setTab n t { b with second := img, busy := 0, addr := 0 }).setRbits (.cdcTslot n t) 3 2 2

/-- A LOAD whose image has come becomes active when no admitted block references the earlier one. -/
def Dev.tableActivate (d : Dev) (n t : Nat) : Dev :=
  let b := d.tab n t
  if b.busy = 1 ∧ b.fetched ∧ d.tabRefs n t = 0 then
    ((d.setTab n t { active := b.second }).setRbits (.cdcTslot n t) 1 0 2).setRbits (.cdcTslot n t) 9 8 (d.tabGen n t + 1)
  else d

/-- A write of CDC_TCMD. -/
def Dev.tcmdWrite (d : Dev) (n : Nat) (v : W32) : Dev :=
  let t := bits v 5 4
  match bits v 1 0 with
  | 1 => d.tableLoad n t
  | 2 => d.tableStage n t
  | 3 => d.tableCommit n t
  | _ => d

/-! ### References (08 R230) -/

/-- An admitted block references the active image of slot `t`. -/
def Dev.tabRef (d : Dev) (n t : Nat) : Dev := d.setRbits (.cdcTslot n t) 31 16 (stick 16 (d.tabRefs n t + 1))

/-- A finished block drops its reference to the image of generation `g` of slot `t`; an old image that none references goes. -/
def Dev.tabUnref (d : Dev) (n t g : Nat) : Dev :=
  if d.tabGen n t = g then d.setRbits (.cdcTslot n t) 31 16 (d.tabRefs n t - 1)
  else
    let b := d.tab n t
    let left := b.oldRefs - 1
    if left = 0 then (d.setTab n t { b with oldRefs := 0, second := if d.rbit (.cdcTslot n t) 7 then [] else b.second }).setRbit
      (.cdcTslot n t) 7 false
    else d.setTab n t { b with oldRefs := left }

/-! ### Rows of the table -/

/-- TABLE_FETCH_DONE (08 R231). -/
def execTableFetchDone (n : StackId) (slot : Fin 4) (s : State) : Host.Outcome State Fault Refusal :=
  s.run (fun d => d.tableFetched n slot)

/-- TABLE_LOAD_ACTIVATE (08 R231). -/
def execTableLoadActivate (n : StackId) (slot : Fin 4) (s : State) : Host.Outcome State Fault Refusal :=
  s.run (fun d => d.tableActivate n slot)

end Sys2Proof.Machine
end

