-- ==== Sys2Proof/Machine/RegRead.lean ====
section
/-! DEFINITION. The value a register shows: the stored one, or what the device computes for it (03, 04 R114, 05 R147, 06, 08,
12 R315, 14 R366, 16 R422). A debug register reads 0 outside debug mode. -/

namespace Sys2Proof.Machine

/-! ### Sequencer and queues (03) -/

/-- CTXSTATE[k]: the states of contexts 8k to 8k + 7. -/
def Core.stateWord (k : Core) (i : Nat) : Nat :=
  (List.range 8).foldl (fun v j => v + (k.ctx (8 * i + j)).state * 16 ^ j) 0

/-- EXCPEND[k]: bit j is set while context 32k + j is FAULTED. -/
def Core.excWord (k : Core) (i : Nat) : Nat :=
  (List.range 32).foldl (fun v j => v + b2n (decide (32 * i + j < 80) && (k.ctx (32 * i + j)).state == 4) * 2 ^ j) 0

/-- SEQ_STATUS.NREADY. -/
def Core.nready (k : Core) : Nat := ((List.range 80).filter (fun x => (k.ctx x).state == 2)).length

/-! ### Engines -/

/-- Whether engine `e` runs a command. -/
def Core.engBusy (k : Core) (e : Nat) : Bool := (List.range 4).any (fun i => (k.run (4 * e + i)).isSome)

/-- QNE of an engine: bit `i` is set while its queue `i` holds a command. -/
def Core.qne (k : Core) (e : Nat) : Nat := (List.range 4).foldl (fun v i => v + b2n (!(k.queue (4 * e + i)).isEmpty) * 2 ^ i) 0

/-- The words of the MXE's running commands. -/
def Core.mxeWords (k : Core) : List W64 := (List.range 4).flatMap (fun i => (k.runs i).map (fun r => r.cmd.word))

/-- MXE_STATUS (04). -/
def Core.mxeStatus (k : Core) (hold : Bool) : Nat :=
  let ws := k.mxeWords
  let load := fun (n : Nat) => ws.any (fun w => opOf w == 0 && opnd w 0 == n)
  let valid := fun (n : Nat) => (mapGet (fun _ => {}) k.mxe.wb n).valid
  b2n (valid 0) + 2 * b2n (valid 1) + 4 * b2n (load 0) + 8 * b2n (load 1) + 2 ^ 7 * b2n (ws.any usesLoad) +
  2 ^ 8 * b2n (ws.any usesArray) + 2 ^ 9 * b2n (hold && ws.isEmpty)

/-- Bits [9:0] of VXE_STATUS and GSE_STATUS. -/
def Core.busyBits (k : Core) (e : Nat) (hold : Bool) : Nat :=
  k.qne e + 2 ^ 8 * b2n (k.engBusy e) + 2 ^ 9 * b2n (hold && !k.engBusy e)

/-- OUTST of GSE_STATUS: the row reads without an answer. -/
def Core.outstanding (k : Core) : Nat :=
  (k.gse.reads.map (fun e => (e.2.map (fun r => r.pos)).eraseDups.length)).sum +
  (k.gse.stopped.map (fun r => r.2.pos)).eraseDups.length

/-- MVE_STATUS (08). -/
def Core.mveStatus (k : Core) (hold : Bool) : Nat :=
  let runs := (List.range 4).foldl (fun v i => v + b2n (k.run (16 + i)).isSome * 2 ^ i) 0
  k.busyBits 4 hold + runs * 2 ^ 4

/-- An accumulator element in the form of 02 R36; one whose parity fails is the NX code (04 R110). -/
def Core.acWord (k : Core) (tile row j : Nat) : W64 :=
  if mapGet (fun _ => false) k.mxe.badAc (tile * 4096 + row * 64 + j) then BitVec.ofInt 64 (-(2 ^ 47))
  else BitVec.ofInt 64 (mapGet (fun _ => 0) (mapGet (fun _ => {}) k.mxe.ac tile).els (row * 64 + j))

/-- The row that VXE_DBGSEL selects. -/
def Core.debugRow (k : Core) (sel : W64) : VRow :=
  mapGet (fun _ => {}) k.vxe.rows (if bit sel 16 then 256 + bits sel 4 0 else bits sel 1 0 * 64 + bits sel 13 8)

/-- A predicate register: P0 reads as all ones (05). -/
def Core.preg (k : Core) (n : Nat) : W64 := if n = 0 then 0xFFFFFFFFFFFFFFFF#64 else mapGet (fun _ => 0) k.vxe.p n

/-- RDU_RAX of a partial. -/
def RaPart.word (r : RaPart) : Nat :=
  r.cnt.toNat * 2 ^ 32 + b2n r.empty * 2 ^ 14 + b2n r.inexact * 2 ^ 13 + b2n r.nx * 2 ^ 12 + r.x % 2 ^ 12

/-! ### The value of a register -/

/-- STK_MIGPTR while a spare fills: how far the copy has come is a free choice, between where it was last seen and the end of the
channel (08 R199; assumption log 5). -/
def Dev.migShown (d : Dev) (n : Nat) : Option W64 :=
  if d.rbits (.stkChmap n) 17 16 = 0 then none
  else
    let at_ := d.regN (.stkMigptr n)
    some (BitVec.ofNat 64 (at_ + d.free.toNat % ((channelEnd - at_) / 256 + 1) * 256))

/-- What a register shows outside its stored value, where it shows that. -/
def Dev.shown (d : Dev) (r : Reg) : Option W64 :=
  let n := fun (v : Nat) => some (BitVec.ofNat 64 v)
  let debug := fun (v : W64) => some (if d.debugMode then v else 0)
  match r with
  | .ctxstate c k => n ((d.core c).stateWord k)
  | .excpend c k => n ((d.core c).excWord k)
  | .seqStatus c => n (d.rbits (.seqStatus c) 15 0 + (d.core c).nready * 2 ^ 16)
  | .qptr c q => if q < 20 then n (d.fifoPtr c q) else none
  | .mxeStatus c => n ((d.core c).mxeStatus (d.engHold c 0))
  | .vxeStatus c => n ((d.core c).busyBits 1 (d.engHold c 1))
  | .rduStatus c =>
    n (d.rbits (.rduStatus c) 15 8 * 2 ^ 8 + b2n ((d.core c).engBusy 2) + 2 * b2n (d.engHold c 2 && !(d.core c).engBusy 2))
  | .gseStatus c =>
    n (d.rbits (.gseStatus c) 23 10 * 2 ^ 10 + (d.core c).busyBits 3 (d.engHold c 3) + (d.core c).outstanding * 2 ^ 24)
  | .mveStatus c => n ((d.core c).mveStatus (d.engHold c 4))
  | .mxeAct c t => debug (BitVec.ofNat 64 (mapGet (fun _ => {}) (d.core c).mxe.ac t).t)
  | .mxeAcwin c j => debug ((d.core c).acWord (d.rbits (.mxeAcsel c) 1 0) (d.rbits (.mxeAcsel c) 13 8) j)
  | .vxeDbgx c =>
    let row := (d.core c).debugRow (d.reg (.vxeDbgsel c))
    debug (BitVec.ofNat 64 ((List.range 4).foldl (fun v g => v + mapGet (fun _ => 0) row.x g * 2 ^ (10 * g)) 0))
  | .vxePdbg c i => debug ((d.core c).preg i)
  | .vxeDbgwin c j =>
    debug ((BitVec.ofInt 32 (mapGet (fun _ => 0) ((d.core c).debugRow (d.reg (.vxeDbgsel c))).m j)).setWidth 64)
  | .rduRas c i => debug (BitVec.ofInt 64 (mapGet (fun _ => {}) (d.core c).vxe.ra i).s)
  | .rduRax c i => debug (BitVec.ofNat 64 (mapGet (fun _ => {}) (d.core c).vxe.ra i).word)
  | .gseTdbg c h => debug (BitVec.ofNat 64 (fieldBytes (mapGet (fun _ => []) (d.core c).gse.tabs (h / 4)) (8 * (h % 4)) 8))
  | .trcWin i =>
    debug (BitVec.ofNat 64 (fieldBytes (mapGet (fun _ => []) d.trace (d.rbits .trcSel 8 0 * 256 + i / 2)) (8 * (i % 2)) 8))
  | .fltIsrc => n d.isrc
  | .fltCorepend k => n (d.corePend k)
  | .arbSumcsm => n d.arbSumCsm
  | .arbSumio => n d.arbSumIo
  | .snpStatus => n d.snpStatusRead
  | .timTerr => n d.timErr
  | .stkMigptr k => d.migShown k
  | _ => none

/-- The value a read of a register returns; WO fields read as 0 (00 R7). -/
def Dev.peek (d : Dev) (r : Reg) : W64 := ((d.shown r).getD (d.reg r)) &&& ~~~(BitVec.ofNat 64 r.woMask)

/-- Whether a read of a register takes a free value. -/
def Dev.freeReg (d : Dev) : Reg → Bool
  | .stkMigptr n => (d.migShown n).isSome
  | _ => false

/-- A read that takes a free value leaves what it has shown. -/
def Dev.keepShown (d : Dev) (r : Reg) : Dev :=
  match r with
  | .stkMigptr n => d.setReg r ((d.migShown n).getD (d.reg r))
  | _ => d

/-- What a read of a register leaves: RC fields are cleared (00 R7; 18 R455). -/
def Dev.afterRead (d : Dev) (r : Reg) : Dev :=
  let d1 := if d.freeReg r then (d.keepShown r).useFree 1 else d
  if r.rcMask = 0 then d1 else d1.setReg r (d1.reg r &&& ~~~(BitVec.ofNat 64 r.rcMask))

end Sys2Proof.Machine
end

