-- ==== Sys2Proof/Machine/Dump.lean ====
section
/-! DEFINITION. The crash dump over the side path (14 R391, R392). What the spec does not lay out (the order of the parts of
a section, the operand digest, the queue and buffer pointers) is assumption log 37. -/

namespace Sys2Proof.Machine

/-! ### Units and sections (14 Table 14.9) -/

/-- The instances of each type of die-shared unit on a die: mesh stops, die reduction node, bridges (01 R11), stack controllers,
codecs, die management block, cluster reduction nodes (14 Table 14.1; the mesh stops' number is DESIGN CHOICE, assumption log
37). -/
def sharedUnits : List Nat := [16, 1, 2, 2, 2, 1, 16]

/-- The units of Table 14.9 in ascending unit ID: clusters, cores, ports, stacks, LHPs, the host port, die-shared units. -/
def dumpUnits : List Nat :=
  (List.range 64).map (unitId 2) ++ (List.range 512).map unitCore ++ (List.range 24).map unitPort ++
  (List.range 8).map (unitId 7) ++ (List.range 2).map (unitId 10) ++ [unitId 11 0] ++
  ((List.range 4).flatMap (fun n => (List.range 7).flatMap (fun k => (List.range (sharedUnits.getD k 0)).map (fun i =>
    unitId 12 (n * 2 ^ 8 + k * 2 ^ 4 + i)))))

/-- The die that answers for a unit. -/
def dumpDie (u : Nat) : Nat :=
  match unitKind u with
  | 10 => unitIndex u + 1
  | 11 => 0
  | 12 => unitIndex u / 2 ^ 8
  | _ => scopeDie u

/-- Whether a unit lies within a scope. -/
def inScope (scope u : Nat) : Bool :=
  match unitKind scope with
  | 0 => true
  | 1 => dumpDie u == unitIndex scope
  | 2 => u == scope || (unitKind u == 3 && unitIndex u / 8 == unitIndex scope)
  | _ => u == scope

/-- The sections of a unit. -/
def dumpSections (u : Nat) : List (Nat × Nat) := (List.range (if unitKind u = 3 then 6 else 1)).map (fun s => (u, s))

/-! ### What a section holds -/

/-- The 32 bits that stand at a register address, read with no effect. -/
def Dev.wordShown (d : Dev) (a : Nat) : Nat :=
  match regAt a with
  | some r => (d.peek r).toNat % 2 ^ 32
  | none =>
    match regAt (a - 4) with
    | some r => if r.wide && a % 8 == 4 then (d.peek r).toNat / 2 ^ 32 else 0
    | none => 0

/-- The image of a register block. -/
def Dev.blockImage (d : Dev) (a n : Nat) : List Byte := (List.range (n / 4)).flatMap (fun i => toBytes 4 (d.wordShown (a + 4 * i)))

/-- The first byte and length of a unit's register block: a cluster's is its bank arbiters. -/
def unitBlock (u : Nat) : Nat × Nat :=
  let i := unitIndex u
  match unitKind u with
  | 2 => (0xFF00A00000 + i * 0x400, 0x400)
  | 6 => (0xFF00510000 + i % 32 * 0x100, 0x100)
  | 7 => (0xFF00700000 + i * 0x10000, 0x8000)
  | 10 => (0xFF00600000 + i * 0x1000, 0x1000)
  | 11 => (0xFF00800000, 0x4000)
  | 12 => if i / 16 % 16 = 4 then (0xFF00708000 + (i / 256 * 2 + i % 16) * 0x10000, 0x8000) else (0, 0)
  | _ => (0, 0)

/-- The FIFO and the replay store of a queue: the word of each entry and its operand digest, a free value. -/
def Dev.queueImage (d : Dev) (c q : Nat) : List Byte :=
  let stored := match d.episode c (q / 4) with
    | some p => (p.stored.filter (fun t => t.q == q)).flatMap Stored.entries
    | none => []
  let es := ((d.core c).queue q ++ stored).take 32
  es.flatMap (fun e => toBytes 8 e.word.toNat ++ toBytes 8 (Config.freeWord d.freeCtr).toNat) ++
    List.replicate ((32 - es.length) * 16) 0

/-- The accumulators and weight buffers of a core. -/
def Core.mxeImage (k : Core) : List Byte :=
  (List.range 4).flatMap (fun t => (List.range 64).flatMap (fun r => (List.range 64).flatMap (fun j => toBytes 8 (k.acWord t r j).toNat))) ++
  (List.range 4).flatMap (fun t => toBytes 4 (mapGet (fun _ => {}) k.mxe.ac t).t) ++
  (List.range 2).flatMap (fun b =>
    let w := mapGet (fun _ => {}) k.mxe.wb b
    (List.range 8192).flatMap (fun i => toBytes 2 ((mapGet (fun _ => 0) w.els i) % 65536).toNat) ++
    (List.range 512).flatMap (fun i => toBytes 2 (mapGet (fun _ => 0) w.exps i)))

/-- A row of the VXE in the forms of VXE_DBGWIN and VXE_DBGX. -/
def VRow.image (r : VRow) : List Byte :=
  (List.range 64).flatMap (fun j => toBytes 4 ((mapGet (fun _ => 0) r.m j) % 2 ^ 32).toNat) ++
  toBytes 8 ((List.range 4).foldl (fun v g => v + mapGet (fun _ => 0) r.x g * 2 ^ (10 * g)) 0)

/-- The tile buffers, V registers, predicates and partials of a core. -/
def Core.vxeImage (k : Core) : List Byte :=
  (List.range 288).flatMap (fun i => (mapGet (fun _ => {}) k.vxe.rows i).image) ++
  (List.range 8).flatMap (fun i => toBytes 8 (k.preg i).toNat) ++
  (List.range 8).flatMap (fun i =>
    let r := mapGet (fun _ => {}) k.vxe.ra i
    toBytes 8 (r.s % 2 ^ 64).toNat ++ toBytes 8 r.word)

/-- The table slots of the GSE, and the chain pointers and descriptors of the MVE. -/
def Core.gseImage (k : Core) : List Byte :=
  (List.range 8).flatMap (fun t => sliceBytes (mapGet (fun _ => []) k.gse.tabs t) 0 32) ++
  (List.range 4).flatMap (fun i => toBytes 8 (match k.chain (16 + i) with | some ch => ch.desc | none => 0)) ++
  (List.range 4).flatMap (fun i => sliceBytes (match k.chain (16 + i) with | some ch => ch.bytes | none => []) 0 64)

/-- The bytes of a section, and whether one of them failed parity. -/
def Dev.sectionBytes (d : Dev) (u sec : Nat) : List Byte × Bool :=
  let c := unitIndex u
  let k := d.core c
  if unitKind u = 3 then
    match sec with
    | 0 => (d.blockImage (coreBase c) 0x1000, false)
    | 1 => ((List.range 80).flatMap (fun x => ctxBytes (k.ctx x)), (List.range 80).any (fun x => !(k.ctx x).bad.isEmpty))
    | 2 =>
      ((List.range 20).flatMap (fun q => d.queueImage c q), (List.range 20).any (fun q => (k.queue q).any (fun e => e.bad)))
    | 3 => (k.mxeImage, (k.mxe.badAc ++ k.mxe.badWb).any (fun e => e.2))
    | 4 => (k.vxeImage, (k.vxe.badRow ++ k.vxe.badP ++ k.vxe.badRa).any (fun e => e.2))
    | _ => (k.gseImage, false)
  else
    let b := unitBlock u
    (d.blockImage b.1 b.2 ++ freeBytes d.freeCtr 32, false)

/-! ### The dump (14 R391, R392) -/

/-- The header of a record. -/
def dumpHeader (u sec flags len : Nat) : List Byte :=
  toBytes 4 u ++ toBytes 2 sec ++ toBytes 1 flags ++ toBytes 1 0 ++ toBytes 4 len ++ toBytes 4 0

/-- A record is written at the next 16 B boundary of the buffer; bytes that no memory takes are lost. -/
def Dev.dumpRecord (d : Dev) (p : Dump) (u sec flags : Nat) (bs : List Byte) : Dev × Dump :=
  let o := ceilDiv p.next 16 * 16
  let r := dumpHeader u sec flags bs.length ++ bs
  let a := p.base + o
  let d1 := if d.memOk a r.length then d.writeAt a r else d
  ((d1.setRegN .fltDumplen (o + r.length)).useFree 4, { p with next := o + r.length })

/-- The dump has read its last section. -/
def Dev.dumpEnd (d : Dev) (p : Dump) : Dev :=
  let d1 := (d.setRbit .fltDumpst 31 false).setRbit .fltDumpst 30 true
  ({ d1.endLock p.lock with flt := { d1.flt with dump := none } }).cmdEndOf p.lock true

/-- Sections are read until one of a unit that does not answer. -/
def Dev.dumpRun (d : Dev) (p : Dump) : List (Nat × Nat) → Dev
  | [] => d.dumpEnd p
  | (u, sec) :: rest =>
    if d.dieUp (dumpDie u) then
      let b := d.sectionBytes u sec
      let r := d.dumpRecord p u sec (if b.2 then 2 else 0) b.1
      r.1.dumpRun r.2 rest
    else { d with flt := { d.flt with dump := some { p with todo := (u, sec) :: rest } } }

/-- FLT_CMD DUMP: the lock on the device, and the units of the scope in ascending order. -/
def Dev.dumpCmd (d : Dev) (o : Owner) : Dev :=
  let scope := d.cmdArg
  if !unitOk scope then d.cmdErr 1
  else d.swStart o 0xB (unitId 0 0) (fun d1 i =>
    let p : Dump := { base := d1.regN .fltCmdarg2 % 2 ^ 48, lock := some i }
    (((d1.cmdRun i).setRegN .fltDumpst (2 ^ 31)).setRegN .fltDumplen 0).dumpRun p
      ((dumpUnits.filter (inScope scope)).flatMap dumpSections))

/-- The section being read has no answer within TO: an unreadable token, and the dump goes on (14 R392). -/
def Dev.dumpTimeout (d : Dev) : Dev :=
  match d.flt.dump with
  | some p =>
    match p.todo with
    | (u, sec) :: rest =>
      let r := (d.addStick .fltDumpst 23 0 1).dumpRecord p u sec 1 []
      r.1.dumpRun r.2 rest
    | [] => d.dumpEnd p
  | none => d

/-- DUMP_READ_TIMEOUT (14 R392). -/
def execDumpReadTimeout (s : State) : Host.Outcome State Fault Refusal := s.run (fun d => d.dumpTimeout)

end Sys2Proof.Machine
end

