-- ==== Sys2Proof/Machine/Formats.lean ====
section
/-! DEFINITION. The integer formats with shared scales (02): format codes, block layout, reading a value, the
requantization of R41 and R42, the rounding modes of R43 to R47, and the flag masks of R39. -/

namespace Sys2Proof.Machine

/-- A value: `none` is non-finite, `some (m, e)` is m x 2^e (02 R30). -/
abbrev Val := Option (Int × Int)

/-- The finite zero. -/
def vzero : Val := some (0, 0)

/-- Flag masks in the order of CSTATUS[18:16] (02 R39): NF, SAT, ALIGNLOSS. -/
def flagNf : Nat := 1
/-- SAT. -/
def flagSat : Nat := 2
/-- ALIGNLOSS. -/
def flagAlign : Nat := 4

/-! ### Format codes (02 Table 2.1, Table 2.2) -/

/-- The code of BI4. -/
def fBI4 : Nat := 0
/-- The code of BI8. -/
def fBI8 : Nat := 1
/-- The code of BI16. -/
def fBI16 : Nat := 2
/-- The code of BG8. -/
def fBG8 : Nat := 3
/-- The code of G16. -/
def fG16 : Nat := 4
/-- The code of ACC48. -/
def fACC48 : Nat := 5

/-- Whether a format code names a format that memory stores. -/
def fmtStored (f : Nat) : Bool := f < 5

/-- Elements per block. -/
def fmtN (f : Nat) : Nat := if f = fBG8 then 16 else 32

/-- Bits per stored element. -/
def fmtBits (f : Nat) : Nat := if f = fBI4 then 4 else if f = fBI8 ∨ f = fBG8 then 8 else 16

/-- Mantissa bytes per block. -/
def fmtBytes (f : Nat) : Nat := fmtN f * fmtBits f / 8

/-- Largest mantissa. -/
def fmtMax (f : Nat) : Nat := if f = fBI4 then 7 else if f = fBI8 then 127 else if f = fBG8 then 31 else 32767

/-- Bias b. -/
def fmtBias (f : Nat) : Int := if f = fBI4 then 130 else if f = fBI8 then 133 else if f = fBG8 then 135 else 141

/-! ### Reading (02 R29 to R33) -/

/-- The stored code of element `i` of a block's mantissa bytes (02 R29). -/
def elCode (f : Nat) (bs : List Byte) (i : Nat) : Nat :=
  if f = fBI4 then (bs.getD (i / 2) 0).toNat / 16 ^ (i % 2) % 16
  else if f = fBI8 ∨ f = fBG8 then (bs.getD i 0).toNat
  else (bs.getD (2 * i) 0).toNat + 256 * (bs.getD (2 * i + 1) 0).toNat

/-- The mantissa that a code of a finite block stands for, and its sub-exponent; `none` is the NX code (02 R30, R33). -/
def elMant (f code : Nat) : Option (Int × Nat) :=
  if f = fBG8 then
    let m := sext 6 (code / 4)
    if m = -32 then none else some (m, code % 4)
  else
    let m := sext (fmtBits f) code
    if m = -((fmtMax f : Int) + 1) then none else some (m, 0)

/-- The value of a code in a block of exponent E, at the stored scale (02 R30, R31, R33). -/
def elVal (f E code : Nat) : Val :=
  if E = 0 then vzero
  else if E = 255 then none
  else
    match elMant f code with
    | none => none
    | some (m, s) => if m = 0 then vzero else some (m, (E : Int) + 2 * s - fmtBias f)

/-- The values of a whole block. -/
def blockVals (f E : Nat) (bs : List Byte) : List Val := (List.range (fmtN f)).map (fun i => elVal f E (elCode f bs i))

/-- The block of element (r, c) of a rows x cols tensor and its place in it, along an axis: 0 columns, 1 rows
(02 R28). -/
def blockOf (n axis rows cols r c : Nat) : Nat × Nat :=
  if axis = 0 then (r * (cols / n) + c / n, c % n) else (c * (rows / n) + r / n, r % n)

/-- The element at place `i` of block `k` (02 R28). -/
def blockEl (n axis rows cols k i : Nat) : Nat × Nat :=
  if axis = 0 then (k / (cols / n), k % (cols / n) * n + i) else (k % (rows / n) * n + i, k / (rows / n))

/-! ### Stochastic rounding bits (02 R46, R47) -/

/-- One round of sr_bits. -/
def srRound (st : W32 × W32 × W32 × W32 × W32 × W32) : W32 × W32 × W32 × W32 × W32 × W32 :=
  let (a, b, c, d, k0, k1) := st
  let a := a + b + k0
  let d := rotl32 (d ^^^ a) 16
  let c := c + d + k1
  let b := rotl32 (b ^^^ c) 12
  let a := a + b
  let d := rotl32 (d ^^^ a) 8
  let c := c + d
  let b := rotl32 (b ^^^ c) 7
  (a, b, c, d, k0 + 0x9E3779B9#32, k1 + 0xBB67AE85#32)

/-- sr_bits(seed, step, tensor_id, index) of 02 R47. -/
def srBits (seed : W64) (step tid index : W32) : Nat :=
  let st := srRound (srRound (srRound (srRound (srRound (srRound
    (index, tid, step, 0x243F6A88#32, seed.setWidth 32, (seed >>> 32).setWidth 32))))))
  let (a, b, c, d, _, _) := st
  bits (a ^^^ b ^^^ c ^^^ d) 15 0

/-- How a requantization rounds: `none` is RNE, otherwise the inputs of sr_bits but the index (02 R43, R46). -/
abbrev Rnd := Option (W64 × W32 × W32)

/-- The integer that m x 2^k rounds to (02 R44, R45): RNE, or q + 1 when r < floor(f x 65536). -/
def roundTo (rnd : Rnd) (index : Nat) (m : Int) (k : Int) : Int :=
  if 0 ≤ k then m * 2 ^ k.toNat
  else
    let s := (-k).toNat
    match rnd with
    | none => rneShift m s
    | some (seed, step, tid) =>
      let q := m.fdiv (2 ^ s)
      let f16 := (m - q * 2 ^ s) * 65536 / 2 ^ s
      if (srBits seed step tid (BitVec.ofNat 32 index) : Int) < f16 then q + 1 else q

/-! ### Requantization (02 R41, R42) -/

/-- Whether |m x 2^e| ≤ k x 2^x. -/
def magLe (m e : Int) (k : Nat) (x : Int) : Bool :=
  if x ≤ e then m.natAbs * 2 ^ (e - x).toNat ≤ k else m.natAbs ≤ k * 2 ^ (x - e).toNat

/-- The larger magnitude of two finite values. -/
def magMax (a b : Int × Int) : Int × Int :=
  if a.1 = 0 then b else if b.1 = 0 then a else if magLe a.1 a.2 b.1.natAbs b.2 then b else a

/-- M: the value of largest magnitude among the finite ones (02 R41 step 2); (0, 0) if none is nonzero. -/
def maxMag (vs : List Val) : Int × Int := (vs.filterMap id).foldl magMax (0, 0)

/-- The smallest E in 1 to 254 for which M ≤ k x 2^(E - b), else 254 (02 R41 step 5). -/
def chooseE (m : Int × Int) (k : Nat) (b : Int) : Nat :=
  ((List.range 254).find? (fun (i : Nat) => magLe m.1 m.2 k ((i : Int) + 1 - b))).map (· + 1) |>.getD 254

/-- The smallest s in 0 to 3 for which |x| ≤ 31 x 2^(E + 2s - 135), else 3 (02 R42). -/
def chooseS (x : Int × Int) (E : Nat) : Nat :=
  ((List.range 4).find? (fun (s : Nat) => magLe x.1 x.2 31 ((E : Int) + 2 * s - 135))).getD 3

/-- A finite value as a mantissa at step 2^step, bounded by mmax, with whether it saturated (02 R41 steps 6, 7). -/
def quantEl (rnd : Rnd) (index : Nat) (x : Int × Int) (mmax : Nat) (step : Int) : Int × Bool :=
  if magLe x.1 x.2 mmax step then (roundTo rnd index x.1 (x.2 - step), false)
  else (if x.1 < 0 then -(mmax : Int) else mmax, true)

/-- A quantized element: mantissa (`none` for NX) and sub-exponent. -/
abbrev QEl := Option Int × Nat

/-- The stored code of a quantized element (02 R29, R32). -/
def qCode (f : Nat) (q : QEl) : Nat :=
  match q.1 with
  | none => if f = fBG8 then 0x80 else 2 ^ (fmtBits f - 1)
  | some m =>
    if f = fBG8 then if m = 0 then 0 else (m % 64).toNat * 4 + q.2 else (m % 2 ^ fmtBits f).toNat

/-- A requantized block: its exponent, its elements' stored codes, and the flags it sets. -/
structure QBlock where
  e : Nat
  codes : List Nat
  flags : Nat
  deriving DecidableEq, Repr

/-- The zero block of a format (02 R32). -/
def zeroBlock (f n : Nat) : QBlock := { e := 0, codes := List.replicate n (qCode f (some 0, 0)), flags := 0 }

/-- The poisoned block of a format (02 R32). -/
def poisonBlock (f n : Nat) : QBlock := { e := 255, codes := List.replicate n (qCode f (none, 0)), flags := flagNf }

/-- The elements of a block quantized at exponent E (02 R41 steps 6 to 8; R42). -/
def quantEls (f : Nat) (rnd : Rnd) (E : Nat) (vs : List (Val × Nat)) : List (QEl × Bool) :=
  vs.map (fun (v, i) =>
    match v with
    | none => ((none, 0), false)
    | some x =>
      let s := if f = fBG8 then chooseS x E else 0
      let q := quantEl rnd i x (fmtMax f) ((E : Int) + 2 * s - fmtBias f)
      ((some q.1, s), q.2))

/-- Requantization of one block to a stored format: values with their SR indices (02 R41, R42). A block of exact input
with no finite nonzero element and no non-finite one is a zero block. -/
def requant (f : Nat) (rnd : Rnd) (vs : List (Val × Nat)) : QBlock :=
  let n := vs.length
  let m := maxMag (vs.map (·.1))
  let anyNx := vs.any (fun v => v.1.isNone)
  if m.1 = 0 ∧ !anyNx then zeroBlock f n
  else if vs.all (fun v => v.1.isNone) then poisonBlock f n
  else
    let E := if f = fBG8 then chooseE m 31 129 else chooseE m (fmtMax f) (fmtBias f)
    let qs := quantEls f rnd E vs
    let fl := (if qs.any (·.2) then flagSat else 0) + (if anyNx then flagNf else 0)
    if !anyNx ∧ qs.all (fun q => q.1.1 = some 0) then { zeroBlock f n with flags := fl }
    else { e := E, codes := qs.map (fun q => qCode f q.1), flags := fl }

/-- The mantissa bytes of a block's codes (02 R29). -/
def codeBytes (f : Nat) : List Nat → List Byte
  | [] => []
  | [a] => if f = fBI4 then [BitVec.ofNat 8 (a % 16)] else toBytes (fmtBits f / 8) a
  | a :: b :: r =>
    if f = fBI4 then BitVec.ofNat 8 (a % 16 + 16 * (b % 16)) :: codeBytes f r
    else toBytes (fmtBits f / 8) a ++ codeBytes f (b :: r)

/-- The bitwise OR of two flag masks. -/
def orFlags (a b : Nat) : Nat := a ||| b

/-- NF for a list of input values of which any is non-finite (02 R39). -/
def nfOf (vs : List Val) : Nat := if vs.any (·.isNone) then flagNf else 0

end Sys2Proof.Machine
end

