-- ==== Sys2Proof/Machine/LularRows.lean ====
section
/-! DEFINITION. The commands of the Lular exchange (12): received frames, timers, kernel reports and the long-haul ports. -/

namespace Sys2Proof.Machine

/-- A received Lular frame of type `t` acts, and a boundary that waits for it goes on. -/
def Dev.lulIn (d : Dev) (l t : Nat) (f : LulFrame) (act : Dev → Dev) : Dev := (d.lulReceive l t f act).boundaryAgain

/-- Merge kernels have reported, or a wait of order 3 has ended. -/
def Dev.lulThen (d : Dev) (f : Dev → Dev) : Dev := (f d).boundaryAgain

/-- Every counterpart in a member site is sent a CROAK (12 R328). -/
def Dev.lulCroakAll (d : Dev) : Dev :=
  if d.lulOn then
    (d.members12.filter (fun x => x ≠ d.mySite && d.rbit (.lulPeer (4 * x + 2)) 0)).foldl
      (fun (e : Dev) x => e.sendLul (e.mkLul 6 x e.roundNo 0 e.lulFrames [])) d
  else d

/-- RWIN has passed since the decider's first DATA frame without the peer's payload and RACK: SKIP (12 R325). -/
def Dev.windowExpire (d : Dev) : Dev :=
  match d.lul.round with
  | some r =>
    if d.lulState == 2 && d.decides r.partner && r.dec.isNone && !d.replays then
      d.issueDecision r { kind := 2, k := 0, eft := 0, t := (d.target r).getD 0 } 1
    else d
  | none => d

/-- The NAK of the frames still missing is repeated (12 R324); the joiner's as well. -/
def Dev.nakRepeat (d : Dev) : Dev :=
  if d.lulState = 6 then d.joinNak
  else
    match d.lul.round with
    | some r => if (d.lulState = 1 ∨ d.lulState = 2) ∧ !d.replays then d.sendNak r else d
    | none => d

/-- A sender without a RACK sends its last frame again (12 R324); the donor of a join its JEND. -/
def Dev.lastResend (d : Dev) : Dev :=
  let d1 := match d.lul.joinOut with
    | some (dstSite, round, bs) => d.sendJend dstSite round bs
    | none => d
  match d1.lul.round with
  | some r =>
    if (d1.lulState = 2 ∨ d1.lulState = 3) ∧ !r.rack ∧ 0 < d1.lulFrames ∧ !d1.rbit .lulCtl 29 then d1.resendData [d1.lulFrames - 1] else d1
  | none => d1

/-- A side that holds the complete payload repeats RACK until DEC or DACK shows that the peer has it (12 R324). -/
def Dev.rackRepeat (d : Dev) : Dev :=
  match d.lul.round with
  | some r => if d.complete r && !r.reformNext && !d.replays && (r.dec.isNone || d.lul.decOut.any (fun x => x.1 == r.round)) then d.sendRack r else d
  | none => d

/-- A long-haul port comes up (12 R309); frames that waited for it leave. -/
def Dev.lhpComesUp (d : Dev) (l : Nat) : Dev :=
  if d.rbit (.lhpPctl l) 31 && !d.lhpUp l && !d.clocksStopped then (d.setRbit (.lhpPstat l) 31 true).lulUnhold else d

/-- A frame that fails R308 or R312 is dropped and counted in LHP_RXDROP, one that fails R311, its FCS among it, in
LHP_CRCERR; one that fails nothing is not this row's. -/
def Dev.lulBad (d : Dev) (l : Nat) (fcsBad : Bool) (f : LulFrame) : Dev :=
  if d.lhpUp l && fcsBad then d.lulCrcerr l else d.lulSift l f id

/-! ### Rows of the table -/

/-- LUL_DATA (12 R324). -/
def execLulData (l : LhpId) (f : LulFrame) (s : State) : Host.Outcome State Fault Refusal :=
  s.run (fun d => d.lulIn l 1 f (fun e => e.lulData f))

/-- LUL_NAK (12 R324). -/
def execLulNak (l : LhpId) (f : LulFrame) (s : State) : Host.Outcome State Fault Refusal :=
  s.run (fun d => d.lulIn l 2 f (fun e => e.lulNak f))

/-- LUL_RACK (12 R325). -/
def execLulRack (l : LhpId) (f : LulFrame) (s : State) : Host.Outcome State Fault Refusal :=
  s.run (fun d => d.lulIn l 3 f (fun e => e.lulRack f))

/-- LUL_DEC (12 R325). -/
def execLulDec (l : LhpId) (f : LulFrame) (s : State) : Host.Outcome State Fault Refusal :=
  s.run (fun d => d.lulIn l 4 f (fun e => e.lulDec f))

/-- LUL_DACK (12 R325). -/
def execLulDack (l : LhpId) (f : LulFrame) (s : State) : Host.Outcome State Fault Refusal :=
  s.run (fun d => d.lulIn l 5 f (fun e => e.lulDack f))

/-- LUL_CROAK (12 R315, R328). -/
def execLulCroak (l : LhpId) (f : LulFrame) (s : State) : Host.Outcome State Fault Refusal :=
  s.run (fun d => d.lulIn l 6 f (fun e => e.lulCroak f))

/-- LUL_BUSY (12 R321). -/
def execLulBusy (l : LhpId) (f : LulFrame) (s : State) : Host.Outcome State Fault Refusal :=
  s.run (fun d => d.lulIn l 7 f (fun e => e.lulBusy f))

/-- LUL_JREQ (12 R332). -/
def execLulJreq (l : LhpId) (f : LulFrame) (s : State) : Host.Outcome State Fault Refusal :=
  s.run (fun d => d.lulIn l 8 f (fun e => e.lulJreq f))

/-- LUL_JDATA (12 R332). -/
def execLulJdata (l : LhpId) (f : LulFrame) (s : State) : Host.Outcome State Fault Refusal :=
  s.run (fun d => d.lulIn l 9 f (fun e => e.lulJdata f))

/-- LUL_JEND (12 R332). -/
def execLulJend (l : LhpId) (f : LulFrame) (s : State) : Host.Outcome State Fault Refusal :=
  s.run (fun d => d.lulIn l 10 f (fun e => e.lulJend f))

/-- LUL_ABSENCE (12 R328). -/
def execLulAbsence (site : SiteId) (s : State) : Host.Outcome State Fault Refusal :=
  s.run (fun d => d.lulThen (fun e => e.lulAbsent site))

/-- LHP_LINK_DOWN (12 R309). -/
def execLhpLinkDown (l : LhpId) (s : State) : Host.Outcome State Fault Refusal := s.run (fun d => d.lhpDown l)

/-- LHP_LINK_UP (12 R309). -/
def execLhpLinkUp (l : LhpId) (s : State) : Host.Outcome State Fault Refusal := s.run (fun d => d.lhpComesUp l)

/-- LULAR_FRAME_DROP (12 R308, R311, R312). -/
def execLularFrameDrop (l : LhpId) (fcsBad : Bool) (f : LulFrame) (s : State) : Host.Outcome State Fault Refusal :=
  s.run (fun d => d.lulBad l fcsBad f)

/-- LUL_CROAK_SEND (12 R328). -/
def execLulCroakSend (s : State) : Host.Outcome State Fault Refusal := s.run (fun d => d.lulCroakAll)

/-- ROUND_WINDOW_EXPIRE (12 R325). -/
def execRoundWindowExpire (s : State) : Host.Outcome State Fault Refusal :=
  s.run (fun d => d.lulThen (fun e => e.windowExpire))

/-- LUL_NAK_REPEAT (12 R324). -/
def execLulNakRepeat (s : State) : Host.Outcome State Fault Refusal := s.run (fun d => d.nakRepeat)

/-- LUL_LAST_RESEND (12 R324). -/
def execLulLastResend (s : State) : Host.Outcome State Fault Refusal := s.run (fun d => d.lastResend)

/-- LUL_RACK_REPEAT (12 R324). -/
def execLulRackRepeat (s : State) : Host.Outcome State Fault Refusal := s.run (fun d => d.rackRepeat)

/-- LUL_DEC_REPEAT (12 R325). -/
def execLulDecRepeat (s : State) : Host.Outcome State Fault Refusal := s.run (fun d => d.repeatDec)

end Sys2Proof.Machine
end

