-- ==== Sys2Proof/Machine/Pmc.lean ====
section
/-! DEFINITION. Performance counters, debug mode, the trace buffers and the TAP's instruction register (16). -/

namespace Sys2Proof.Machine

/-! ### The sweep (16 R416 to R420) -/

/-- The sets in the order in which the hub takes them: 4,096 to 4,202, then 0 to 4,095 without the unused ones (16 R414,
R417). -/
def sweepOrder : List Nat :=
  (List.range 107).map (4096 + ·) ++ (List.range 4096).filter (fun s => s % 8 ≠ 7)

/-- The sets whose class is enabled. -/
def Dev.enabledSets (d : Dev) : List Nat := sweepOrder.filter (fun s => bit d.pmcOn (pmcClass s))

/-- Slot `i` of set `s` moves into its shadow; a sum that would pass the top stays there and is LOST (16 R416). -/
def Dev.shadowSlot (d : Dev) (s i : Nat) : Dev :=
  let n := s * 16 + i
  let v := mapGet (fun _ => 0) d.pmc.shadow n + d.regN (.pmcCnt s i)
  let d1 := { d.setReg (.pmcCnt s i) 0 with pmc := { d.pmc with shadow := mapSet (fun _ => 0) d.pmc.shadow n (min v (2 ^ 32 - 1)) } }
  if v < 2 ^ 32 then d1 else d1.setRbit (.pmcSetst s) i true

/-- The live counts of a set move into their shadows, with the LOST bits (16 R416). -/
def Dev.shadowSet (d : Dev) (s : Nat) : Dev :=
  let d1 := (List.range 16).foldl (fun (e : Dev) i => e.shadowSlot s i) d
  { d1 with pmc := { d1.pmc with lost := mapSet (fun _ => 0) d1.pmc.lost s (mapGet (fun _ => 0) d1.pmc.lost s ||| d1.regN (.pmcSetst s)) } }

/-- The live counts and the LOST bits of a set are discarded (16 R420). -/
def Dev.discardSet (d : Dev) (s : Nat) : Dev :=
  ((List.range 16).foldl (fun (e : Dev) i => e.setReg (.pmcCnt s i) 0) d).setReg (.pmcSetst s) 0

/-- The window that starts at an edge: its opening time, and PMC_WIN and the classes, whose changes take effect here
(16 R420). -/
def Dev.openWindow (d : Dev) (first : Bool) : Dev :=
  { d with pmcOn := (d.reg .pmcCtl &&& 0x7F).setWidth 32
           pmc := { d.pmc with curStart := d.reg .timNow, curLen := d.rbits .pmcWin 19 0, curFirst := first } }

/-- The span of the totals table (16 R418). -/
def totalsBytes : Nat := 1075968

/-- The base of the totals table. -/
def Dev.totalsBase (d : Dev) : Nat := d.rbits .pmcTbase 47 4 * 16

/-- The edge after a RESET (16 R420): the new window opens, and counts the writes that clear the table (DESIGN CHOICE,
assumption log 63). -/
def Dev.resetEdge (d : Dev) : Dev :=
  let d1 := sweepOrder.foldl (fun (e : Dev) s => e.discardSet s) d
  let d2 := { d1 with pmc := { d1.pmc with shadow := [], lost := [], todo := [], taken := [], lostTaken := [], merged := [],
                                           reset := false } }
  let d3 := ((d2.setReg .pmcWinno 0).setRbit .pmcStatus 31 false).openWindow true
  (pieces d3.totalsBase totalsBytes).foldl (fun (e : Dev) q =>
    if e.memOk q.1 q.2 then e.writeAt q.1 (List.replicate q.2 0) else e) d3

/-- An edge: shadows that the hub has not taken hold two windows from now on (16 R416, R417). -/
def Dev.windowEdge (d : Dev) : Dev :=
  if !d.rbit .pmcCtl 31 then d
  else if d.pmc.reset then d.resetEdge
  else
    let old := d.pmc.todo
    let sets := d.enabledSets
    let d1 := sets.foldl (fun (e : Dev) s => e.shadowSet s) d
    let both := old.filter sets.contains
    let todo := sweepOrder.filter (fun s => sets.contains s || old.contains s)
    let p := { d1.pmc with todo := todo, taken := [], lostTaken := [], merged := both, win := d1.regN .pmcWinno }
    let q := { p with start := p.curStart, len := p.curLen, first := p.curFirst }
    let d2 := ({ d1 with pmc := q }).setRbit .pmcStatus 31 true
    let d3 := if both.isEmpty then d2 else d2.setRbit .pmcStatus 1 true
    (d3.setRegN .pmcWinno (d3.regN .pmcWinno + 1)).openWindow false

/-- PMC_WINDOW_EDGE (16 R416). -/
def execPmcWindowEdge (s : State) : Host.Outcome State Fault Refusal := s.run (fun d => d.windowEdge)

/-- A counter's totals entry after a shadow is added (16 R418). -/
def totalsEntry (old : List Byte) (v : Nat) (lost : Bool) (win : Nat) : List Byte :=
  let t := fieldBytes old 0 8 + v
  let w := fieldBytes old 8 4 + (if 2 ^ 64 ≤ t then 1 else 0)
  let sticky := fieldBytes old 12 1 % 2 == 1 || lost
  toBytes 8 t ++ toBytes 4 w ++ toBytes 1 (b2n sticky + 2 * b2n lost) ++ toBytes 3 win

/-- One counter's shadow is taken (16 R417, R418). -/
def Dev.takeSlot (d : Dev) (s lost i : Nat) : Dev :=
  let n := s * 16 + i
  let gone := lost / 2 ^ i % 2 == 1
  let v := if gone then 2 ^ 32 - 1 else mapGet (fun _ => 0) d.pmc.shadow n
  let a := d.totalsBase + n * 16
  let d1 := if d.memOk a 16 then d.writeAt a (totalsEntry (d.bytesAt a 16) v gone d.pmc.win) else d
  let p := { d1.pmc with shadow := mapSet (fun _ => 0) d1.pmc.shadow n 0, taken := mapSet (fun _ => 0) d1.pmc.taken n v }
  { d1 with pmc := { p with lostTaken := if gone then p.lostTaken ++ [n] else p.lostTaken } }

/-- The hub takes the shadows of the next set (16 R417). -/
def Dev.shadowTake (d : Dev) : Dev :=
  match d.pmc.todo with
  | [] => d
  | s :: rest =>
    let lost := mapGet (fun _ => 0) d.pmc.lost s
    let d1 := (List.range 16).foldl (fun (e : Dev) i => e.takeSlot s lost i) d
    let d2 := d1.setReg (.pmcSetst s) (d1.reg (.pmcSetst s) &&& ~~~(BitVec.ofNat 64 lost))
    let d3 := if lost = 0 then d2 else d2.setRbit .pmcStatus 0 true
    { d3 with pmc := { d3.pmc with todo := rest, lost := mapSet (fun _ => 0) d3.pmc.lost s 0 } }

/-- PMC_SHADOW_TAKE (16 R417). -/
def execPmcShadowTake (s : State) : Host.Outcome State Fault Refusal := s.run (fun d => d.shadowTake)

/-- A rate in MB/s of slot `i` of set `s` over the window collected (16 R419). -/
def Pmc.rate (p : Pmc) (s i : Nat) : Nat :=
  if p.lostTaken.contains (s * 16 + i) || p.merged.contains s then 2 ^ 32 - 1
  else mapGet (fun _ => 0) p.taken (s * 16 + i) / p.len

/-- Two rates of a set. -/
def Pmc.rates (p : Pmc) (s i j : Nat) : List Byte := toBytes 4 (p.rate s i) ++ toBytes 4 (p.rate s j)

/-- The window record (16 Table 16.3). -/
def Pmc.record (p : Pmc) : List Byte :=
  let lost := !p.lostTaken.isEmpty
  let merged := !p.merged.isEmpty
  let flags := b2n (lost || merged) + 2 * b2n lost + 4 * b2n merged + 8 * b2n p.first
  toBytes 8 p.win ++ toBytes 8 p.start.toNat ++ toBytes 4 p.len ++ toBytes 4 flags ++ toBytes 4 p.lostTaken.length ++
  List.replicate 36 0 ++
  (List.range 24).flatMap (fun i => p.rates (4096 + i) 2 3) ++
  (List.range 2).flatMap (fun i => p.rates (4120 + i) 2 3) ++
  (List.range 8).flatMap (fun i => p.rates (4122 + i) 0 1) ++
  p.rates 4202 0 1 ++ List.replicate 168 0

/-- With every shadow of a window taken, the hub writes the window record (16 R419). -/
def Dev.windowRecord (d : Dev) : Dev :=
  if !d.rbit .pmcStatus 31 || !d.pmc.todo.isEmpty then d
  else
    let n := 2 ^ d.rbits .pmcRcfg 4 0
    let a := d.rbits .pmcRbase 47 9 * 512 + d.regN .pmcRwp % n * 512
    let full := decide (n ≤ (d.reg .pmcRwp - d.reg .pmcRrp).toNat)
    let d1 := if d.memOk a 512 then d.writeAt a d.pmc.record else d
    let d2 := if full then d1.setRbit .pmcStatus 2 true else d1
    (d2.setRegN .pmcRwp (d2.regN .pmcRwp + 1)).setRbit .pmcStatus 31 false

/-- PMC_WINDOW_RECORD (16 R419). -/
def execPmcWindowRecord (s : State) : Host.Outcome State Fault Refusal := s.run (fun d => d.windowRecord)

/-- A write of PMC_CMD: RESET takes effect at the next edge; any other value sets CFGERR (16 R420, PMC_CMD). -/
def Dev.pmcCmdWrite (d : Dev) (v : W32) : Dev :=
  if bits v 3 0 = 1 then { d with pmc := { d.pmc with reset := true } } else d.setRbit .pmcStatus 3 true

/-- A write of PMC_WIN (16 PMC_WIN): a window outside 1 to 1,000,000 is ignored and sets CFGERR. -/
def Dev.pmcWinWrite (d : Dev) (v : W32) : Dev :=
  let n := bits v 19 0
  if 1 ≤ n ∧ n ≤ 1000000 then d.setRegN .pmcWin n else d.setRbit .pmcStatus 3 true

/-! ### Debug mode and tracing (16 R422, R423) -/

/-- Whether a write path is a context's. -/
def isCtxPath : Path → Bool
  | .ctx _ _ => true
  | _ => false

/-- The debug-disable fuse (17 MGC_FUSE). -/
def Dev.debugFuse (d : Dev) : Bool := d.rbit .mgcFuse 31

/-- A write of DBG_CTL (16 R421, R422): every block follows EN. -/
def Dev.dbgCtlSet (d : Dev) (path : Path) (v : W32) : Dev :=
  if isCtxPath path then d
  else if bit v 0 && d.debugFuse then d.setRbit .dbgStatus 1 true
  else (d.setRegN .dbgCtl (b2n (bit v 0))).setRbit .dbgStatus 0 (bit v 0)

/-- A write of TRC_CTL[c] (16 R421, R423): setting EN clears WP, WRAP, STOPPED and DROP. -/
def Dev.trcCtlSet (d : Dev) (path : Path) (c : Nat) (v : W32) : Dev :=
  if isCtxPath path then d
  else
    let rise := bit v 31 && !d.rbit (.trcCtl c) 31
    let d1 := d.setReg (.trcCtl c) ((v &&& 0xC0FE00FF#32).setWidth 64)
    if rise then d1.setReg (.trcPtr c) 0 else d1

/-! ### The TAP (16 R424; 17 R435) -/

/-- IDCODE: stepping, part number, the manufacturer code of MGC_MFR, and 1 (16 R424). -/
def Dev.idcode (d : Dev) : Nat := 2 ^ 28 + 0x0A51 * 2 ^ 12 + d.rbits .mgcMfr 26 16 * 2 + 1

/-- The TAP's instruction register takes a code. -/
def Dev.tapSelect (d : Dev) (code : Byte) : Dev := { d with mgc := { d.mgc with tapIr := code } }

/-- The scan of a data register: the bits that leave at TDO while `tdi` is shifted in, and what the register then holds. -/
def drShift (captured tdi : List Bool) : List Bool × List Bool :=
  let all := captured ++ tdi
  (all.take tdi.length, all.drop tdi.length)

/-- A scan of the boundary-scan register: Capture-DR takes the levels of the low-speed signals, Update-DR what has been shifted
in; without a scan the register stays. The chain's length is that of the levels given (DESIGN CHOICE, assumption log 62). -/
def Dev.boundaryScan (d : Dev) (levels tdi : List Bool) : Dev :=
  if tdi.isEmpty then d
  else
    let r := drShift levels tdi
    { d with mgc := { d.mgc with bscan := r.2 } }.emit (.tdo r.1)

/-- The code that the instruction register takes for BYPASS: any code but those of the other instructions acts so (16 R424). -/
def bypassCode (code : Byte) : Byte := if code ∈ [0x00, 0x01, 0x02, 0x20] then 0xFF else code

/-- A scan of the bypass register, which captures 0. -/
def Dev.bypassScan (d : Dev) (tdi : List Bool) : Dev :=
  if tdi.isEmpty then d
  else
    let r := drShift [false] tdi
    { d with mgc := { d.mgc with bypass := r.2.headD false } }.emit (.tdo r.1)

/-- TAP_EXTEST (16 R424): the boundary scan register is selected, and scanned. -/
def execTapExtest (levels tdi : List Bool) (s : State) : Host.Outcome State Fault Refusal :=
  s.run (fun d => (d.tapSelect 0x00).boundaryScan levels tdi)

/-- TAP_IDCODE (16 R424): the data register reads the ID code. -/
def execTapIdcode (s : State) : Host.Outcome State Fault Refusal :=
  s.run (fun d => (d.tapSelect 0x01).emit (.data .jtag (toBytes 4 d.idcode)))

/-- TAP_SAMPLE_PRELOAD (16 R424): the boundary scan register is selected, and scanned. -/
def execTapSamplePreload (levels tdi : List Bool) (s : State) : Host.Outcome State Fault Refusal :=
  s.run (fun d => (d.tapSelect 0x02).boundaryScan levels tdi)

/-- TAP_BYPASS (16 R424): the bypass register is selected by code 0xFF or another one without an instruction, and scanned. -/
def execTapBypass (code : Byte) (tdi : List Bool) (s : State) : Host.Outcome State Fault Refusal :=
  s.run (fun d => (d.tapSelect (bypassCode code)).bypassScan tdi)

/-- TAP_RESET (16 R424; 17 R435): IDCODE is selected; nothing else changes. -/
def execTapReset (s : State) : Host.Outcome State Fault Refusal := s.run (fun d => d.tapSelect 0x01)

end Sys2Proof.Machine
end

