-- ==== Sys2Proof/Machine/Tim.lean ====
section
/-! DEFINITION. The time unit TIM (12 R313) and the PTP timestamp rings (12 R314; 17 R447). -/

namespace Sys2Proof.Machine

/-! ### TIM (12 R313) -/

/-- MODE of TIM: 0 unset, 1 LOCKED, 2 HOLDOVER, 3 software. -/
def Dev.timMode (d : Dev) : Nat := d.rbits .timStatus 31 30

/-- The device with the time unit's own state changed. -/
def Dev.onTim (d : Dev) (f : Tim → Tim) : Dev := { d with tim := f d.tim }

/-- LOCKED, or the next edge while it is: TIM takes the edge's label, converted with LEAP, and TIM_TERR is 100 ns. -/
def Dev.timLock (d : Dev) (label : Nat) : Dev :=
  let d1 := ((d.setRbits .timStatus 31 30 1).setRegN .timNow ((label + d.rbits .timCtl 23 16) * 1000000000 % 2 ^ 64)).setRegN
    .timTerr 100
  (d1.setRegN .timHoldt 0).onTim (fun t => { t with holdNs := 0 })

/-- LOCKED is lost: HOLDOVER with LOCKLOST and the bit of its cause. -/
def Dev.timHoldover (d : Dev) (cause : Nat) : Dev :=
  let d1 := ((d.setRbits .timStatus 31 30 2).setRbit .timStatus 0 true).setRbit .timStatus cause true
  ((d1.setRegN .timTerr (holdoverErr 0)).setRegN .timHoldt 0).onTim (fun t => { t with holdNs := 0 })

/-- An edge of 1PPS, `gap` ms after the end of the last sentence, which labels it where the gap is 100 to 900 ms. A label
agrees where it is one second after the label of the edge before (DEDUCED, assumption log 28). -/
def Dev.ppsEdge (d : Dev) (gap : Nat) : Dev :=
  if d.rbit .timCtl 0 then d
  else
    let t := d.tim
    let label := if 100 ≤ gap ∧ gap ≤ 900 then t.label else none
    let d0 := d.onTim (fun t => { t with label := none })
    match label with
    | none =>
      if d.timMode = 1 then d0.onTim (fun t => { t with last := t.last.map (· + 1) })
      else d0.onTim (fun t => { t with last := none, agree := 0 })
    | some u =>
      let agrees := t.last.isNone || t.last.map (· + 1) == some u
      let n := if agrees then t.agree + 1 else 1
      let d1 := d0.onTim (fun t => { t with last := some u, agree := min n 3 })
      if d.timMode = 1 then (if agrees then d1.timLock u else d1.timHoldover 2)
      else if 3 ≤ n then d1.timLock u else d1

/-- A ZDA sentence labels the next edge; one without a valid checksum labels none and sets TODERR. -/
def Dev.todSentence (d : Dev) (utc : Nat) (valid : Bool) : Dev :=
  if d.rbit .timCtl 0 then d
  else if valid then d.onTim (fun t => { t with label := some utc })
  else d.setRbit .timStatus 2 true

/-- 1.1 s without an edge: PPSMISS, and HOLDOVER where TIM was LOCKED. -/
def Dev.ppsTimeout (d : Dev) : Dev :=
  if d.rbit .timCtl 0 then d
  else
    let d1 := d.onTim (fun t => { t with last := none, agree := 0 })
    if d.timMode = 1 then d1.timHoldover 1 else d1.setRbit .timStatus 1 true

/-- A write of TIM_ADJ steps TIM with SRC = 1. -/
def Dev.timAdj (d : Dev) (v : W64) : Dev :=
  if d.rbit .timCtl 0 then d.setReg .timNow (d.reg .timNow + v) else d

/-- A write of TIM_CTL: with SRC = 1 the mode is software; leaving it TIM is unset (DEDUCED, assumption log 28). -/
def Dev.timCtlWrite (d : Dev) (v : W64) : Dev :=
  let was := d.rbit .timCtl 0
  let d1 := d.setReg .timCtl (v &&& 0x00FF001D#64)
  if bit v 0 && !was then (d1.setRbits .timStatus 31 30 3).onTim (fun t => { t with label := none, last := none, agree := 0 })
  else if !bit v 0 && was then d1.setRbits .timStatus 31 30 0
  else d1

/-! ### PTP rings (17 R447) -/

/-- The entries of a timestamp ring: 2^LOG2N with LOG2N from 4 to 12; a value outside is taken as the nearest (DESIGN
CHOICE, assumption log 29). -/
def tsRingSize (v : Nat) : Nat := 2 ^ (min 12 (max 4 v))

/-- The bytes of a ring entry. -/
def tsEntry (stamp l flags : Nat) (msg : List Byte) : List Byte :=
  toBytes 8 stamp ++ toBytes 1 l ++ toBytes 1 flags ++ toBytes 2 msg.length ++ toBytes 4 0 ++ sliceBytes msg 0 240

/-- A received PTP message goes to the RX ring with its stamp, or is dropped while the ring is full. One while the rings do
not run, or too long for an entry, is dropped like any other frame (12 R308; DESIGN CHOICE, assumption log 29). -/
def Dev.ptpRx (d : Dev) (l : Nat) (msg : List Byte) : Dev :=
  if !d.lhpUp l then d
  else if !d.rbit .hstTscfg 31 || 240 < msg.length then d.lulDropped l
  else
    let n := tsRingSize (d.rbits .hstTscfg 3 0)
    let wp := d.rbits .hstTsrxwp 15 0
    if n ≤ (wp + 65536 - d.rbits .hstTsrxrp 15 0) % 65536 then (d.setRbit .hstTsstat 0 true).lulDropped l
    else
      let a := d.rbits .hstTsrxbase 47 8 * 256 + wp % n * 256
      let d1 := if d.memOk a 256 then d.writeAt a (tsEntry (d.regN .timNow) l 2 msg) else d
      d1.setRegN .hstTsrxwp ((wp + 1) % 65536)

/-- The next entry of the TX ring is sent on its port, stamped and marked done. -/
def Dev.tsTx (d : Dev) : Dev :=
  let rp := d.rbits .hstTstxrp 15 0
  if !d.rbit .hstTscfg 31 || rp == d.rbits .hstTstxwp 15 0 then d
  else
    let a := d.rbits .hstTstxbase 47 8 * 256 + rp % tsRingSize (d.rbits .hstTscfg 11 8) * 256
    if !d.memOk a 256 then d.setRegN .hstTstxrp ((rp + 1) % 65536)
    else
      let e := d.bytesAt a 256
      let l := fieldBytes e 8 1 % 2
      let n := fieldBytes e 10 2
      let sent := d.lhpUp l && decide (60 ≤ n ∧ n ≤ 240)
      let d1 := if sent then d.emit (.ptp l (sliceBytes e 16 n)) else d
      let head := if sent then toBytes 8 (d.regN .timNow) else sliceBytes e 0 8
      let d2 := (d1.writeAt a head).writeAt (a + 9) [if sent then 3 else 1]
      d2.setRegN .hstTstxrp ((rp + 1) % 65536)

/-! ### Rows of the table -/

/-- PTP_RX (17 R447). -/
def execPtpRx (l : LhpId) (msg : List Byte) (s : State) : Host.Outcome State Fault Refusal := s.run (fun d => d.ptpRx l msg)

/-- TS_TX_SEND (17 R447). -/
def execTsTxSend (s : State) : Host.Outcome State Fault Refusal := s.run (fun d => d.tsTx)

/-- PPS_EDGE (12 R313). -/
def execPpsEdge (gap : W32) (s : State) : Host.Outcome State Fault Refusal := s.run (fun d => d.ppsEdge gap.toNat)

/-- TOD_SENTENCE (12 R313). -/
def execTodSentence (utc : W64) (valid : Bool) (s : State) : Host.Outcome State Fault Refusal :=
  s.run (fun d => d.todSentence utc.toNat valid)

/-- PPS_TIMEOUT (12 R313). -/
def execPpsTimeout (s : State) : Host.Outcome State Fault Refusal := s.run (fun d => d.ppsTimeout)

end Sys2Proof.Machine
end

