-- ==== Sys2Proof/Machine/RegAccess.lean ====
section
/-! DEFINITION. Register space (00 R5 to R7; 01 R17 to R22; 18 R452 to R457): what stands at an address, accesses of 4 and 8
bytes on each path with its latch and held word, and what a write of each register does. -/

namespace Sys2Proof.Machine

/-! ### What stands at an address (18 R454) -/

/-- What an aligned 4-byte access reaches. -/
inductive Spot where
  /-- An unassigned offset (00 R6). -/
  | vacant
  /-- The boot buffer (17 R441). -/
  | boot
  /-- A register, or the upper word of one. -/
  | reg (r : Reg) (upper : Bool)
  /-- A word of the entry of a context that the CTX window shows: core, context, entry offset (03 R60). -/
  | entry (c x o : Nat)
  deriving DecidableEq, Repr

/-- The core and offset of a DPA in the CTX window of a core. -/
def ctxWindow (a : Nat) : Option (Nat × Nat) :=
  if 0xFF80000000 ≤ a ∧ a < 0xFF82000000 ∧ 0x8000 ≤ a % 0x10000 then some ((a - 0xFF80000000) / 0x10000, a % 0x10000 - 0x8000)
  else none

/-- What stands at a 4-byte-aligned DPA. -/
def Dev.spot (d : Dev) (a : Nat) : Spot :=
  if bootBuffer ≤ a ∧ a < bootBuffer + 0x80000 then .boot
  else
    match ctxWindow a with
    | some (c, o) => .entry c (o / 0x200 + d.rbits (.ctxwin c) 6 0) (o % 0x200)
    | none =>
      match regAt a with
      | some r => .reg r false
      | none =>
        match regAt (a - 4) with
        | some r => if r.wide && a % 8 == 4 then .reg r true else .vacant
        | none => .vacant

/-- Whether a register address answers: outside the die-local groups always; in one, while its die is out of reset, and in
autotomy stage 6 only the HST block and the twin bond's ports (18 R457; 15 R405). -/
def Dev.regReach (d : Dev) (a : Nat) : Bool :=
  match dieLocal a with
  | none => true
  | some n =>
    let host := decide (0xFF00800000 ≤ a ∧ a < 0xFF00900000)
    let bond := decide (0xFF00510000 ≤ a ∧ a < 0xFF00511800) && d.inBond ((a - 0xFF00510000) / 0x100)
    d.dieUp n && (!d.clocksStopped || host || bond)

/-- Whether an access of `n` bytes to register space is one that R18 allows. -/
def Dev.regAccessOk (d : Dev) (a n : Nat) : Bool := (n == 4 || n == 8) && a % n == 0 && isRegSpace a && d.regReach a

/-! ### Writes (00 R7) -/

/-- The value that the access types of a register leave when `v` is written over `old`. -/
def Reg.blend (r : Reg) (old v : W64) : W64 :=
  let rw := BitVec.ofNat 64 r.rwMask
  let clear := v &&& BitVec.ofNat 64 r.w1cMask
  let set := v &&& BitVec.ofNat 64 r.w1sMask
  (((old &&& ~~~rw) ||| (v &&& rw)) &&& ~~~clear) ||| set

/-- A write with no rule beside the access types. -/
def Dev.plainWrite (d : Dev) (r : Reg) (v : W64) : Dev := d.setReg r (r.blend (d.reg r) v)

/-- A write of FLT_CMD (14 FLT_CMD). -/
def Dev.fltCmd (d : Dev) (o : Owner) (v : Nat) : Dev :=
  match v % 16 with
  | 1 => d.fltLockCmd o
  | 2 => d.fltUnlockCmd
  | 3 => d.engrstCmd o
  | 4 => d.coresubCmd o
  | 5 => d.dierstCmd o
  | 6 => d.lanespCmd o
  | 7 => d.chmigCmd o
  | 8 => d.rowspCmd o
  | 9 => d.dumpCmd o
  | 10 => d.fltRelease
  | 11 => d.fltRevote
  | _ => d.cmdErr 1

/-- A write of PWR_CMD (15 PWR_CMD). -/
def Dev.pwrCmd (d : Dev) (v : Nat) : Dev :=
  match v % 16 with
  | 1 => d.pwrWake
  | 2 => d.pwrResume
  | _ => d.pwrErr

/-- A write of FAB_CROAK: each field ignores values out of its range. -/
def Dev.croakCfgWrite (d : Dev) (v : W64) : Dev :=
  let d1 := if 10 ≤ bits v 31 16 ∧ bits v 31 16 ≤ 1000 then d.setRbits .fabCroak 31 16 (bits v 31 16) else d
  if 2 ≤ bits v 7 0 then d1.setRbits .fabCroak 7 0 (bits v 7 0) else d1

/-- A write of BDP_ADDR or BDP_CTL discards prefetched bytes (08 R206). -/
def Dev.bdpRegWrite (d : Dev) (n : Nat) (r : Reg) (v : W64) : Dev :=
  { d.plainWrite r v with bdp := mapErase d.bdp n }

/-- A write of LHP_PCTL: clearing EN takes the port down (12 R309). -/
def Dev.lhpCtlWrite (d : Dev) (l : Nat) (v : W64) : Dev :=
  let d1 := d.plainWrite (.lhpPctl l) v
  if bit v 31 then d1 else d1.lhpDown l

/-- Whether a register is Lular configuration, written only while LUL_CTL.EN = 0 (12 LUL_CTL). -/
def lulConfig : Reg → Bool
  | .lulSpan | .lulBase | .lulPlim | .lulDfull | .lulDmax | .lulTmr | .lulMargin | .lulDwin | .lulMemb | .lulShbase
  | .lulShcnt | .lulMlbase | .lulMlcfg | .lulSrcip _ | .lulUdp | .lulPeer _ => true
  | _ => false

/-- Whether a register is chorus configuration, written only while CHR_CFG.EN = 0 (09). -/
def chorusConfig : Reg → Bool
  | .chrLs | .chrLscfg | .chrCtxmask _ | .chrNarr _ => true
  | _ => false

/-- A write of a register on a path, `v` being its whole value: the rule of its own where it has one, else its access
types. -/
def Dev.regWrite (d : Dev) (path : Path) (r : Reg) (v : W64) : Dev :=
  let w := v.setWidth 32
  match r with
  | .pregCfg u n => d.pregWrite u n v
  | .token c t => d.tokenWrite c t w
  | .chrCfg => d.chrCfgWrite v
  | .qbase c q => d.qbaseWrite c q v
  | .qcfg c q => d.qcfgWrite c q w
  | .ctxcmd c => d.ctxcmd c (bits v 22 16) (bits v 3 0)
  | .ctxwin c => if bits v 6 0 ≤ 16 then d.plainWrite (.ctxwin c) v else d
  | .portCtl p => d.portCtlWrite p w
  | .fabAbsent k => d.fabAbsentWrite k w
  | .fabCroak => d.croakCfgWrite v
  | .fabDevid => if (List.range 24).any (fun p => d.rbit (.portCtl p) 31) then d else d.plainWrite .fabDevid v
  | .fabShade => d.shadeWrite v
  | .fabTwin => d.twinWrite v
  | .fabRoute _ | .portNbr _ => (d.plainWrite r v).noteAbsent
  | .lhpPctl l => d.lhpCtlWrite l v
  | .lulCtl => d.lulCtlWrite v
  | .lulFdone => d.lulThen (fun e => e.lulFdone w)
  | .lulMdone => d.lulThen (fun e => e.lulMdone w)
  | .lulCmd => d.lulThen (fun e => e.lulCmd w)
  | .snpCtl | .snpClcfg | .snpLbound | .snpEstcfg | .snpAlcnt | .snpAlbase | .slotRbase _ | .slotDbase _ | .slotTrbase _ =>
    d.snpCfgWrite r v
  | .snpCmd => d.snpCmd (ownerOf path) w
  | .snpEstev => if bit v 0 then d.estEvent else d
  | .pwrMode => d.modeWrite w
  | .pwrIclk c => d.iclkWrite c w
  | .pwrSagcfg | .pwrThcfg => d.pwrCfgWrite r v
  | .pwrCmd => d.pwrCmd v.toNat
  | .timCtl => d.timCtlWrite v
  | .timAdj => d.timAdj v
  | .pmcCmd => d.pmcCmdWrite w
  | .pmcWin => d.pmcWinWrite w
  | .dbgCtl => d.dbgCtlSet path w
  | .trcCtl c => d.trcCtlSet path c w
  | .cdcTcmd n => d.tcmdWrite n w
  | .mgcBootcmd => d.bootCmd w
  | .mbxCmd m => d.mbxWrite m w
  | .fltCmd => d.fltCmd (ownerOf path) v.toNat
  | .fltEsccfg =>
    let k := bits v 2 0
    let d1 := d.setRbits .fltEsccfg 31 16 (bits v 31 16)
    if 1 ≤ k ∧ k ≤ 4 then d1.setRbits .fltEsccfg 2 0 k else d1
  | .bdpAddr n => d.bdpRegWrite n r v
  | .bdpCtl n => d.bdpRegWrite n r v
  | _ =>
    if lulConfig r then d.lulCfgWrite r v
    else if chorusConfig r then (if d.rbit .chrCfg 0 then d else d.plainWrite r v)
    else d.plainWrite r v

/-- The value that a write of the upper word alone hands to a register: its low word is left as it stands, and an action
takes it as 0 (00 R5). -/
def Dev.upperOnly (d : Dev) (r : Reg) (v : W32) : W64 :=
  (d.reg r &&& BitVec.ofNat 64 (r.rwMask % 2 ^ 32)) ||| (v.setWidth 64 <<< 32)

/-! ### Latches and held words (00 R5; 18 R453) -/

/-- What names a 64-bit word of a context's entry in a latch. -/
def entryTag (c x o : Nat) : Nat := 2 ^ 48 + (c * 128 + x) * 0x200 + o / 8 * 8

/-- The read latch of a path, where it holds the word named. -/
def Dev.latched (d : Dev) (path : Path) (tag : Nat) : Option W32 :=
  match mapGet (fun _ => none) d.latches (pathNo path) with
  | some (t, v) => if t = tag then some v else none
  | none => none

/-- The held write of a path, where it is for the word named. -/
def Dev.heldFor (d : Dev) (path : Path) (tag : Nat) : Option W32 :=
  match mapGet (fun _ => none) d.heldWrites (pathNo path) with
  | some (t, v) => if t = tag then some v else none
  | none => none

/-- The device with the read latch of a path replaced. -/
def Dev.setLatch (d : Dev) (path : Path) (l : Option (Nat × W32)) : Dev :=
  { d with latches := mapSet (fun _ => none) d.latches (pathNo path) l }

/-- The device with the held write of a path replaced. -/
def Dev.setHeld (d : Dev) (path : Path) (l : Option (Nat × W32)) : Dev :=
  { d with heldWrites := mapSet (fun _ => none) d.heldWrites (pathNo path) l }

/-- The word at bit 0 or bit 32. -/
def halfOf (v : W64) (upper : Bool) : W32 := ((if upper then v >>> 32 else v)).setWidth 32

/-- The word with one half replaced. -/
def withHalf (v : W64) (upper : Bool) (w : W32) : W64 :=
  if upper then (v &&& 0xFFFFFFFF#64) ||| (w.setWidth 64 <<< 32) else (v &&& 0xFFFFFFFF00000000#64) ||| w.setWidth 64

/-- A 32-bit read of a 64-bit word whose live value is `v`. -/
def Dev.halfRead (d : Dev) (path : Path) (tag : Nat) (v : W64) (upper : Bool) : W32 × Dev :=
  if upper then
    match d.latched path tag with
    | some w => (w, d.setLatch path none)
    | none => (halfOf v true, d)
  else (halfOf v false, d.setLatch path (some (tag, halfOf v true)))

/-! ### Accesses of 4 and 8 bytes -/

/-- A 64-bit word of a context's entry, or a binding, as a read shows it. -/
def Dev.entryWord (d : Dev) (c x o : Nat) : W64 := BitVec.ofNat 64 (d.ctxRead c x o)

/-- A 32-bit read of register space that meets no address error. -/
def Dev.read32 (d : Dev) (path : Path) (a : Nat) : W32 × Dev :=
  match d.spot a with
  | .vacant => (0, d)
  | .boot => (BitVec.ofNat 32 (ofBytes (d.physBytes a 4)), d)
  | .entry c x o =>
    if o < 0x140 then d.halfRead path (entryTag c x o) (d.entryWord c x (o / 8 * 8)) (o % 8 == 4)
    else if o < 0x180 then ((d.entryWord c x o).setWidth 32, d)
    else (halfOf (d.entryWord c x (o / 8 * 8)) (o % 8 == 4), d)
  | .reg r upper =>
    let v := d.peek r
    if !r.wide || r.piece then (halfOf v upper, d.afterRead r)
    else
      let p := d.halfRead path r.addr v upper
      (p.1, p.2.afterRead r)

/-- A 64-bit read of register space that meets no address error: one access where a 64-bit word stands, else two, the
lower offset first. -/
def Dev.read64 (d : Dev) (path : Path) (a : Nat) : W64 × Dev :=
  let two :=
    let p := d.read32 path a
    let q := p.2.read32 path (a + 4)
    (p.1.setWidth 64 ||| (q.1.setWidth 64 <<< 32), q.2)
  match d.spot a with
  | .boot => (BitVec.ofNat 64 (ofBytes (d.physBytes a 8)), d)
  | .entry c x o => if o < 0x140 ∨ 0x180 ≤ o then (d.entryWord c x o, d) else two
  | .reg r _ => if r.wide then (d.peek r, d.afterRead r) else two
  | .vacant => two

/-- The boot buffer takes a write unless an image is being staged from it (17 R449). -/
def Dev.bootWrite (d : Dev) (a : Nat) (bs : List Byte) : Dev := if d.staging then d else d.putPhys a bs

/-- A 32-bit write of register space that meets no address error. -/
def Dev.write32 (d : Dev) (path : Path) (a : Nat) (v : W32) : Dev :=
  match d.spot a with
  | .vacant => d
  | .boot => d.bootWrite a (toBytes 4 v.toNat)
  | .entry c x o =>
    let w := o / 8 * 8
    if o < 0x140 then
      if o % 8 = 0 then d.setHeld path (some (entryTag c x o, v))
      else
        match d.heldFor path (entryTag c x o) with
        | some low => (d.setHeld path none).ctxWrite c x w (withHalf (low.setWidth 64) true v)
        | none =>
          let keep := if w = 0x108 then 0xFFF8FFFF#32 else 0xFFFFFFFF#32
          let live := BitVec.ofNat 64 ((d.ctx c x).entry w)
          d.ctxWrite c x w (withHalf (live &&& keep.setWidth 64) true v)
    else if o < 0x180 then d.ctxWrite c x o (v.setWidth 64)
    else d.ctxWrite c x w (withHalf (BitVec.ofNat 64 ((d.ctx c x).entry w)) (o % 8 == 4) v)
  | .reg r upper =>
    if !r.wide then d.regWrite path r (v.setWidth 64)
    else if r.piece then d.regWrite path r (withHalf (d.reg r) upper v)
    else if !upper then d.setHeld path (some (r.addr, v))
    else
      match d.heldFor path r.addr with
      | some low => (d.setHeld path none).regWrite path r (withHalf (low.setWidth 64) true v)
      | none => d.regWrite path r (d.upperOnly r v)

/-- A 64-bit write of register space that meets no address error. -/
def Dev.write64 (d : Dev) (path : Path) (a : Nat) (v : W64) : Dev :=
  let two := (d.write32 path a (halfOf v false)).write32 path (a + 4) (halfOf v true)
  match d.spot a with
  | .boot => d.bootWrite a (toBytes 8 v.toNat)
  | .entry c x o => if o < 0x140 ∨ 0x180 ≤ o then d.ctxWrite c x o v else two
  | .reg r _ => if r.wide then d.regWrite path r v else two
  | .vacant => two

/-- A read of `n` bytes of register space on a path: none on an address error. -/
def Dev.regRead (d : Dev) (path : Path) (a n : Nat) : Option (List Byte) × Dev :=
  if !d.regAccessOk a n then (none, d)
  else if n = 4 then
    let p := d.read32 path a
    (some (toBytes 4 p.1.toNat), p.2)
  else
    let p := d.read64 path a
    (some (toBytes 8 p.1.toNat), p.2)

/-- A write of bytes to register space on a path, and whether it was made. -/
def Dev.regPut (d : Dev) (path : Path) (a : Nat) (bs : List Byte) : Bool × Dev :=
  if !d.regAccessOk a bs.length then (false, d)
  else if bs.length = 4 then (true, d.write32 path a (BitVec.ofNat 32 (ofBytes bs)))
  else (true, d.write64 path a (BitVec.ofNat 64 (ofBytes bs)))

/-! ### Accesses by a path (18 R452) -/

/-- An access on BDP channel `n` fails (08 R207). -/
def Dev.bdpFail (d : Dev) (n code a : Nat) : Dev :=
  if d.rbit (.bdpStat n) 0 then d
  else ((d.setRbits (.bdpStat n) 23 16 code).setRegN (.bdpErraddr n) (a % 2 ^ 48)).setRbit (.bdpStat n) 0 true

/-- An address error reaches the one who made the access (01 R18; 16 R425; 17 R444, R448). A context's is that of a slot B
access, named by its PC. -/
def Dev.pathFail (d : Dev) (path : Path) (a : Nat) : Dev :=
  match path with
  | .host => if d.rbit .hstBar0err 63 || !d.dieUp 0 then d else d.setRegN .hstBar0err (2 ^ 63 + a % 2 ^ 48)
  | .bdp n => d.bdpFail n 1 a
  | .smbus => { d with mgc := { d.mgc with smbErr := true } }
  | .jtag => { d with mgc := { d.mgc with accStatus := 2 } }
  | .mgc => d
  | .ctx c x => d.lateExc c x (d.ctx c x).pc { code := 4, slot := 1, dpa := a }

/-- Whether a path can carry an access to a register address: BAR0 reaches the package blocks once the host port is
released, and until the firmware enables it only the MGC block (01 R22; 17 R441). -/
def Dev.pathReach (d : Dev) (path : Path) (a : Nat) : Bool :=
  match path with
  | .host =>
    d.mgc.hostUp && decide (0xFF00000000 ≤ a ∧ a < 0xFF04000000) && (!d.mgc.limited || decide (a < 0xFF00100000))
  | .bdp _ => d.mgc.hostUp && !d.mgc.limited
  | _ => true

/-- The mode bits of a channel: EN, WINDOW, PFEN. -/
def Dev.bdpOn (d : Dev) (n : Nat) : Bool := d.rbit (.bdpCtl n) 0
/-- WINDOW mode. -/
def Dev.bdpWindow (d : Dev) (n : Nat) : Bool := d.rbit (.bdpCtl n) 1

/-- What an access to register space meets on its path before its address is decoded, where that keeps it from being made:
a BDP channel that is off or not in WINDOW mode (08 R205, R207), and for a context the checks of its windows and of
PMC_USER_EN (03 R63; 16 R421). `perm` is 0 for a read and 1 for a write. -/
def Dev.pathStop (d : Dev) (path : Path) (perm a n : Nat) : Option Dev :=
  match path with
  | .bdp b => if !d.bdpOn b then some (d.bdpFail b 3 a) else if !d.bdpWindow b then some (d.bdpFail b 2 a) else none
  | .ctx c x =>
    ((d.ctx c x).accessFail perm a n).map
      (fun t => d.lateExc c x (d.ctx c x).pc { code := 3, slot := 1, detail := t, dpa := a })
  | _ => none

/-- A failed read returns all ones to the host and to the SMBus master; no other path gets data (01 R18; 08 R207; 17 R444,
R448). -/
def Dev.allOnes (d : Dev) (path : Path) (n : Nat) : Dev :=
  match path with
  | .host | .bdp _ | .smbus => d.emit (.data path (List.replicate n 0xFF))
  | _ => d

/-- A BAR0 access is counted (16 Table 16.1). -/
def Dev.noteHost (d : Dev) (path : Path) : Dev := if path = .host then d.count 4202 2 1 else d

/-- A read of a register address on a path; what it returns goes out. -/
def Dev.busRead (d : Dev) (path : Path) (a n : Nat) : Dev :=
  if !d.pathReach path a then d
  else
    match d.pathStop path 0 a n with
    | some d1 => d1.allOnes path n
    | none =>
      match d.regRead path a n with
      | (some bs, d1) => (d1.emit (.data path bs)).noteHost path
      | (none, d1) => ((d1.pathFail path a).allOnes path n).noteHost path

/-- A write of a register address on a path. -/
def Dev.busWrite (d : Dev) (path : Path) (a : Nat) (bs : List Byte) : Dev :=
  if !d.pathReach path a then d
  else
    match d.pathStop path 1 a bs.length with
    | some d1 => d1
    | none =>
      match d.regPut path a bs with
      | (true, d1) => d1.noteHost path
      | (false, d1) => (d1.pathFail path a).noteHost path

/-- A write of register `r` on a path, for a command that has that write as its row: made only where the path reaches the
register, and then `f` is its effect. -/
def Dev.via (d : Dev) (path : Path) (r : Reg) (f : Dev → Dev) : Dev :=
  if !d.pathReach path r.addr then d
  else
    match d.pathStop path 1 r.addr (if r.wide then 8 else 4) with
    | some d1 => d1
    | none => if d.regReach r.addr then (f d).noteHost path else (d.pathFail path r.addr).noteHost path

/-! ### Rows of the table -/

/-- REGISTER_WRITE (00 R5, R7): 32 or 64 bits on a path. -/
def execRegisterWrite (path : Path) (a : W48) (wide : Bool) (v : W64) (s : State) : Host.Outcome State Fault Refusal :=
  s.run (fun d => d.busWrite path a.toNat (toBytes (if wide then 8 else 4) v.toNat))

/-- WORD_LATCH_READ (18 R453). -/
def execWordLatchRead (path : Path) (a : W48) (s : State) : Host.Outcome State Fault Refusal :=
  s.run (fun d => d.busRead path a.toNat 4)

/-- WORD_HELD_WRITE (18 R453). -/
def execWordHeldWrite (path : Path) (a : W48) (v : W32) (s : State) : Host.Outcome State Fault Refusal :=
  s.run (fun d => d.busWrite path a.toNat (toBytes 4 v.toNat))

/-- RC_READ (18 R455). -/
def execRcRead (path : Path) (a : W48) (wide : Bool) (s : State) : Host.Outcome State Fault Refusal :=
  s.run (fun d => d.busRead path a.toNat (if wide then 8 else 4))

/-- CTX_WINDOW_WRITE (03 R60, R61): at an offset of core `core`'s CTX window. -/
def execCtxWindowWrite (path : Path) (core : CoreId) (off : BitVec 15) (wide : Bool) (v : W64) (s : State) :
    Host.Outcome State Fault Refusal :=
  s.run (fun d => d.busWrite path (coreBase core + 0x8000 + off.toNat) (toBytes (if wide then 8 else 4) v.toNat))

/-! ### DBGACC (16 R425) -/

/-- The result of a DBGACC access. -/
def Dev.accDone (d : Dev) (st : Nat) (v : W64) : Dev :=
  { d with mgc := { d.mgc with accStatus := st, accData := v } }

/-- A DBGACC read of `n` bytes: memory or register space, aligned; a byte that fails parity ends it in an error. -/
def Dev.dbgRead (d : Dev) (a n : Nat) : Dev :=
  if d.debugFuse then d.accDone 3 0
  else if a % n ≠ 0 then d.accDone 2 0
  else if isRegSpace a then
    match d.regRead .jtag a n with
    | (some bs, d1) => d1.accDone 0 (BitVec.ofNat 64 (ofBytes bs))
    | (none, d1) => d1.accDone 2 0
  else if !d.memOk a n then d.accDone 2 0
  else if d.badAt a n then (d.reportParity a n).accDone 2 0
  else (d.readServed a n).accDone 0 (BitVec.ofNat 64 (ofBytes (d.bytesAt a n)))

/-- A DBGACC write; DATA keeps what was shifted in. -/
def Dev.dbgWrite (d : Dev) (a : Nat) (bs : List Byte) : Dev :=
  let v := BitVec.ofNat 64 (ofBytes bs)
  if d.debugFuse then d.accDone 3 v
  else if a % bs.length ≠ 0 then d.accDone 2 v
  else if isRegSpace a then
    match d.regPut .jtag a bs with
    | (true, d1) => d1.accDone 0 v
    | (false, d1) => d1.accDone 2 v
  else if d.memOk a bs.length then (d.writeAt a bs).accDone 0 v
  else d.accDone 2 v

/-- The access that Update-DR starts: CMD 1 to 4, another one an error; the fuse refuses it (16 R425). -/
def Dev.dbgAccess (d : Dev) (cmd a : Nat) (v : W64) : Dev :=
  match cmd with
  | 1 => d.dbgRead a 4
  | 2 => d.dbgWrite a (toBytes 4 v.toNat)
  | 3 => d.dbgRead a 8
  | 4 => d.dbgWrite a (toBytes 8 v.toNat)
  | _ => d.accDone (if d.debugFuse then 3 else 2) 0

/-- A scan of the DBGACC register with `dr` shifted in (16 R425): Capture-DR gives the result of the most recent access, or
running while `busy` says that it has not ended; Update-DR, ignored then, starts the access of a nonzero CMD. An access takes
effect where it starts (DESIGN CHOICE, assumption log 62). -/
def Dev.dbgScan (d : Dev) (dr : BitVec 120) (busy : Bool) : Dev :=
  let m := d.mgc
  let running := busy && m.accRun
  let out : BitVec 120 := BitVec.ofNat 4 (if running then 1 else m.accStatus) ++ m.accCmd ++ m.accDpa ++ m.accData
  let d1 := { d with mgc := { m with tapIr := 0x20 } }.emit (.tdo ((List.range 120).map (fun i => bit out i)))
  if running then d1
  else
    let cmd := bits dr 115 112
    let a := bits dr 111 64
    let d2 := { d1 with mgc := { d1.mgc with accCmd := BitVec.ofNat 4 cmd, accDpa := BitVec.ofNat 48 a,
                                             accRun := decide (cmd ≠ 0) } }
    if cmd = 0 then d2 else d2.dbgAccess cmd a (dr.setWidth 64)

/-- DBGACC_READ32 (16 R425): a scan, with CMD 1 a read of 32 bits. -/
def execDbgaccRead32 (dr : BitVec 120) (busy : Bool) (s : State) : Host.Outcome State Fault Refusal :=
  s.run (fun d => d.dbgScan dr busy)

/-- DBGACC_WRITE32 (16 R425): a scan, with CMD 2 a write of 32 bits. -/
def execDbgaccWrite32 (dr : BitVec 120) (busy : Bool) (s : State) : Host.Outcome State Fault Refusal :=
  s.run (fun d => d.dbgScan dr busy)

/-- DBGACC_READ64 (16 R425): a scan, with CMD 3 a read of 64 bits. -/
def execDbgaccRead64 (dr : BitVec 120) (busy : Bool) (s : State) : Host.Outcome State Fault Refusal :=
  s.run (fun d => d.dbgScan dr busy)

/-- DBGACC_WRITE64 (16 R425): a scan, with CMD 4 a write of 64 bits. -/
def execDbgaccWrite64 (dr : BitVec 120) (busy : Bool) (s : State) : Host.Outcome State Fault Refusal :=
  s.run (fun d => d.dbgScan dr busy)

/-! ### The SMBus port (17 R448) -/

/-- Whether the pointer allows an access. -/
def Dev.smbOk (d : Dev) : Bool :=
  let a := d.mgc.smbPtr.toNat
  decide (0xFF00000000 ≤ a) && d.regAccessOk a 4

/-- The pointer moves on by 4. -/
def Dev.smbNext (d : Dev) : Dev := { d with mgc := { d.mgc with smbPtr := d.mgc.smbPtr + 4 } }

/-- ADDR: the pointer is set. -/
def Dev.smbAddr (d : Dev) (a : W48) : Dev := { d with mgc := { d.mgc with smbPtr := a } }

/-- READ32: an access that is not made returns all ones and sets ERR. -/
def Dev.smbRead (d : Dev) : Dev :=
  if d.smbOk then (d.busRead .smbus d.mgc.smbPtr.toNat 4).smbNext
  else (d.pathFail .smbus d.mgc.smbPtr.toNat).emit (.data .smbus (List.replicate 4 0xFF))

/-- WRITE32. -/
def Dev.smbWrite (d : Dev) (v : W32) : Dev :=
  if d.smbOk then (d.busWrite .smbus d.mgc.smbPtr.toNat (toBytes 4 v.toNat)).smbNext
  else d.pathFail .smbus d.mgc.smbPtr.toNat

/-- STATUS: READY, FAIL and ERR, which it clears. -/
def Dev.smbStatus (d : Dev) : Dev :=
  let v := b2n (d.rbit .mgcBootst 31) + 2 * b2n (d.rbit .mgcBootst 30) + 4 * b2n d.mgc.smbErr
  ({ d with mgc := { d.mgc with smbErr := false } }).emit (.data .smbus (toBytes 1 v))

/-- SMB_ADDR (17 R448). -/
def execSmbAddr (a : W48) (s : State) : Host.Outcome State Fault Refusal := s.run (fun d => d.smbAddr a)

/-- SMB_READ32 (17 R448). -/
def execSmbRead32 (s : State) : Host.Outcome State Fault Refusal := s.run (fun d => d.smbRead)

/-- SMB_WRITE32 (17 R448). -/
def execSmbWrite32 (v : W32) (s : State) : Host.Outcome State Fault Refusal := s.run (fun d => d.smbWrite v)

/-- SMB_STATUS (17 R448). -/
def execSmbStatus (s : State) : Host.Outcome State Fault Refusal := s.run (fun d => d.smbStatus)

/-! ### The bulk data port (08 R204 to R207) -/

/-- The prefetched bytes of a channel. -/
def Dev.bdpChan (d : Dev) (n : Nat) : BdpChan := mapGet (fun _ => {}) d.bdp n

/-- The device with the prefetched bytes of a channel replaced. -/
def Dev.setBdp (d : Dev) (n : Nat) (b : BdpChan) : Dev := { d with bdp := mapSet (fun _ => {}) d.bdp n b }

/-- The DPA that an access of channel `n` at window offset `off` reaches. -/
def Dev.bdpTarget (d : Dev) (n off : Nat) : Nat :=
  if d.bdpWindow n then (d.regN (.bdpAddr n) + off) % 2 ^ 48 else d.regN (.bdpAddr n)

/-- In STREAM mode ADDR advances with each request. -/
def Dev.bdpAdvance (d : Dev) (n len : Nat) : Dev :=
  if d.bdpWindow n then d else d.setRegN (.bdpAddr n) ((d.regN (.bdpAddr n) + len) % 2 ^ 48)

/-- Why a request fails before any byte moves: 3 DISABLED, 2 SIZE, 1 ADDRESS. -/
def Dev.bdpCode (d : Dev) (n a len : Nat) : Option Nat :=
  if !d.bdpOn n then some 3
  else if isRegSpace a then
    if !d.bdpWindow n || !((len == 4 || len == 8) && a % len == 0) then some 2
    else if d.regReach a then none else some 1
  else if d.memOk a len then none else some 1

/-- A read of `len` bytes that fails: prefetched bytes, which no later read is contiguous with, are discarded (08 R206). -/
def Dev.bdpReadFail (d : Dev) (n : Fin 8) (code a len : Nat) : Dev :=
  ((d.setBdp n {}).bdpFail n code a).emit (.data (.bdp n) (List.replicate len 0xFF))

/-- A read of memory, from prefetched bytes where every one of them was prefetched. -/
def Dev.bdpMemRead (d : Dev) (n : Fin 8) (a len : Nat) : Dev :=
  let b := d.bdpChan n
  if !d.bdpWindow n && d.rbit (.bdpCtl n) 2 && !b.bytes.isEmpty && decide (b.base = a ∧ len ≤ b.bytes.length) then
    let bad := b.bad.filter (fun x => decide (a ≤ x ∧ x < a + len))
    if !bad.isEmpty then ((errorBytes bad).foldl (fun (e : Dev) x => e.reportByte x) d).bdpReadFail n 4 a len
    else
      let left : BdpChan := { base := a + len, bytes := b.bytes.drop len, bad := b.bad }
      ((d.setBdp n (if left.bytes.isEmpty then {} else left)).emit (.data (.bdp n) (b.bytes.take len))).count 4202 3 1
  else
    let d1 := d.setBdp n {}
    if d.badAt a len then (d.reportParity a len).bdpReadFail n 4 a len
    else (d1.readServed a len).emit (.data (.bdp n) (d.bytesAt a len))

/-- A host read through channel `n`. -/
def Dev.bdpRead (d : Dev) (n : Fin 8) (off len : Nat) : Dev :=
  if !d.pathReach (.bdp n) 0 || len = 0 then d
  else
    let a := d.bdpTarget n off
    let d1 := (d.bdpAdvance n len).count 4202 1 len
    match d.bdpCode n a len with
    | some code => d1.bdpReadFail n code a len
    | none =>
      if isRegSpace a then
        match d1.regRead (.bdp n) a len with
        | (some bs, d2) => d2.emit (.data (.bdp n) bs)
        | (none, d2) => d2.bdpReadFail n 1 a len
      else d1.bdpMemRead n a len

/-- A host write through channel `n`: it discards prefetched bytes, and one that fails is dropped. -/
def Dev.bdpWrite (d : Dev) (n : Fin 8) (off : Nat) (bs : List Byte) : Dev :=
  if !d.pathReach (.bdp n) 0 || bs.isEmpty then d
  else
    let a := d.bdpTarget n off
    let d1 := (d.bdpAdvance n bs.length).setBdp n {}
    match d.bdpCode n a bs.length with
    | some code => d1.bdpFail n code a
    | none =>
      let d2 := d1.count 4202 0 bs.length
      if isRegSpace a then (d2.regPut (.bdp n) a bs).2 else d2.writeAt a bs

/-- The port has read ahead of ADDR to `len` bytes, at most 4 KiB: bytes prefetched before stay as they were read. -/
def Dev.bdpPrefetch (d : Dev) (n : Fin 8) (len : Nat) : Dev :=
  let a := d.regN (.bdpAddr n)
  let b := d.bdpChan n
  let have_ := if b.bytes.isEmpty then 0 else b.bytes.length
  let want := min len 4096
  if d.pathReach (.bdp n) 0 && d.bdpOn n && !d.bdpWindow n && d.rbit (.bdpCtl n) 2 && decide (have_ < want) &&
      d.memOk a want then
    let m := want - have_
    let more : BdpChan := { base := a, bytes := b.bytes ++ d.bytesAt (a + have_) m,
                            bad := b.bad ++ (d.badIn (a + have_) m).map (fun i => a + have_ + i) }
    (d.readServed (a + have_) m).setBdp n more
  else d

/-- BDP_READ (08 R204, R207). -/
def execBdpRead (chan : Fin 8) (off : BitVec 25) (len : BitVec 13) (s : State) : Host.Outcome State Fault Refusal :=
  s.run (fun d => d.bdpRead chan off.toNat len.toNat)

/-- BDP_WRITE (08 R204, R207). -/
def execBdpWrite (chan : Fin 8) (off : BitVec 25) (data : List Byte) (s : State) : Host.Outcome State Fault Refusal :=
  s.run (fun d => d.bdpWrite chan off.toNat data)

/-- BDP_PREFETCH (08 R206). -/
def execBdpPrefetch (chan : Fin 8) (len : BitVec 16) (s : State) : Host.Outcome State Fault Refusal :=
  s.run (fun d => d.bdpPrefetch chan len.toNat)

end Sys2Proof.Machine
end

