-- ==== Sys2Proof/Machine/Lsu.lean ====
section
/-! DEFINITION. Slot B accesses complete (03 R67, R75; 07 R184, R185, R187; 08 R201): the context's oldest access takes its
effect, or brings it an exception whose EXCPC names the bundle. -/

namespace Sys2Proof.Machine

/-! ### The list of accesses in flight -/

/-- The bumps that no store or push of the context still precedes, and the rest. -/
def dueBumps : List SlotB → Bool → List TokenId × List SlotB
  | [], _ => ([], [])
  | .bump t :: r, held =>
    let p := dueBumps r held
    if held then (p.1, .bump t :: p.2) else (t :: p.1, p.2)
  | a :: r, held =>
    let p := dueBumps r (held || hasStore [a])
    (p.1, a :: p.2)

/-- The context's oldest access has completed: it leaves, and bumps that waited for it are made (07 R187). -/
def Dev.accDrop (d : Dev) (c x : Nat) : Dev :=
  let p := dueBumps ((d.ctx c x).acc.drop 1) false
  p.1.foldl (fun (e : Dev) t => e.bump c t.val (some x) 7) (d.onCtx c x (fun k => { k with acc := p.2 }))

/-- The context's oldest access ends in an exception of code `code` at `a` (07 R184; 08 R201): PARITY is reported as well. Its
SLOT is 1, the slot of the access, although Table 3.7 lists slots for exceptions at issue (DESIGN CHOICE, assumption
log 52). -/
def Dev.accFail (d : Dev) (c x code a n : Nat) (pc : W64) : Dev :=
  let d1 := if code = 8 then d.reportParity a n else d
  (d1.accDrop c x).lateExc c x pc { code := code, slot := 1, dpa := a }

/-- A write whose page waits for room in the spill area is not made yet: SPILLFULL is set and the access stays (13 R345). -/
def Dev.accWrite (d : Dev) (a : Nat) (bs : List Byte) (done : Dev → Dev) : Dev :=
  let d1 := d.writeAt a bs
  if d1.waitingWrites.length ≤ d.waitingWrites.length then done d1 else d.setRbit .snpStatus 5 true

/-- A context's path (18 R453). -/
def ctxPath (c x : Nat) : Path := .ctx (Fin.ofNat 512 c) (Fin.ofNat 80 x)

/-- Sign or zero extension of a loaded value (07 Table 7.3). -/
def loadValue (size : Nat) (signed : Bool) (bs : List Byte) : W64 :=
  if signed then BitVec.ofInt 64 (sext (8 * size) (ofBytes bs)) else BitVec.ofNat 64 (ofBytes bs)

/-! ### Loads and stores -/

/-- The load at the head of the context's accesses completes. -/
def Dev.loadDone (d : Dev) (c x : Nat) (r : SRegId) (a size : Nat) (signed : Bool) (pc : W64) : Dev :=
  let put := fun (e : Dev) bs => (e.accDrop c x).onCtx c x (fun k => k.setS r.val (loadValue size signed bs))
  if isRegSpace a then
    match d.regRead (ctxPath c x) a size with
    | (some bs, d1) => put d1 bs
    | (none, _) => d.accFail c x 4 a size pc
  else if !d.memOk a size then d.accFail c x 4 a size pc
  else if d.badAt a size then d.accFail c x 8 a size pc
  else put (d.readServed a size) (d.bytesAt a size)

/-- The store at the head of the context's accesses completes. -/
def Dev.storeDone (d : Dev) (c x a size : Nat) (v pc : W64) : Dev :=
  let bs := toBytes size v.toNat
  if isRegSpace a then
    match d.regPut (ctxPath c x) a bs with
    | (true, d1) => d1.accDrop c x
    | (false, _) => d.accFail c x 4 a size pc
  else if !d.memOk a size then d.accFail c x 4 a size pc
  else d.accWrite a bs (fun e => e.accDrop c x)

/-! ### Queue accesses (03 R67, R72) -/

/-- The issue number of an access in flight on queue `q`. -/
def SlotB.ordOn (a : SlotB) (q : Nat) (pushes : Bool) : Option Nat :=
  match a with
  | .push p _ _ _ o _ => if pushes && p == q then some o else none
  | .pop p _ _ o _ => if !pushes && p == q then some o else none
  | _ => none

/-- Whether an access is the oldest of its kind on its queue: entries are written, and taken, in issue order. -/
def Core.firstOn (k : Core) (q : Nat) (pushes : Bool) (ord : Nat) : Bool :=
  k.ctxs.all (fun e => e.2.acc.all (fun a => match a.ordOn q pushes with | some o => decide (ord ≤ o) | none => true))

/-- The success value of a form that does not wait: S[(r + 8) mod 32] = 1. -/
def Ctx.success (k : Ctx) (r : SRegId) (tryForm : Bool) : Ctx := if tryForm then k.setS ((r.val + 8) % 32) 1 else k

/-- The push at the head of the context's accesses completes. A ring disabled meanwhile has discarded it. -/
def Dev.pushDone (d : Dev) (c x q : Nat) (r : SRegId) (tryForm : Bool) (bs : List Byte) (ord : Nat) (pc : W64) : Dev :=
  let a := d.ringEntry c q (d.ringTail c q)
  if !(d.core c).firstOn q true ord then d
  else if !d.queueOn c q || d.ringFull c q then d.accDrop c x
  else if !d.memOk a 64 then d.accFail c x 4 a 64 pc
  else d.accWrite a bs (fun e =>
    (((e.ringPush c q).accDrop c x).onCtx c x (fun k => k.success r tryForm)).count (c * 8 + 6) 0 1)

/-- S[r] to S[r + 7] take an entry. -/
def Ctx.takeEntry (k : Ctx) (r : SRegId) (bs : List Byte) : Ctx :=
  (List.range 8).foldl (fun (e : Ctx) i => e.setS ((r.val + i) % 32) (BitVec.ofNat 64 (fieldBytes bs (8 * i) 8))) k

/-- The pop at the head of the context's accesses completes. A ring disabled meanwhile has discarded its entries. -/
def Dev.popDone (d : Dev) (c x q : Nat) (r : SRegId) (tryForm : Bool) (ord : Nat) (pc : W64) : Dev :=
  let a := d.ringEntry c q (d.ringHead c q)
  if !(d.core c).firstOn q false ord then d
  else if !d.queueOn c q || d.ringFill c q = 0 then d.accDrop c x
  else if !d.memOk a 64 then d.accFail c x 4 a 64 pc
  else if d.badAt a 64 then d.accFail c x 8 a 64 pc
  else
    ((((d.readServed a 64).ringPop c q).accDrop c x).onCtx c x (fun k => (k.takeEntry r (d.bytesAt a 64)).success r tryForm)).count
      (c * 8 + 6) 1 1

/-! ### Rows of the table -/

/-- The oldest access in flight of a context. -/
def Dev.accHead (d : Dev) (c x : Nat) : Option SlotB := (d.ctx c x).acc.head?

/-- LOAD_COMPLETE (07 R184, R185). -/
def execLoadComplete (core : CoreId) (ctx : CtxId) (s : State) : Host.Outcome State Fault Refusal :=
  s.run (fun d =>
    match d.accHead core ctx with
    | some (.load r a size signed pc) => d.loadDone core ctx r a size signed pc
    | _ => d)

/-- STORE_COMPLETE (07 R184). -/
def execStoreComplete (core : CoreId) (ctx : CtxId) (s : State) : Host.Outcome State Fault Refusal :=
  s.run (fun d =>
    match d.accHead core ctx with
    | some (.store a size v pc) => d.storeDone core ctx a size v pc
    | _ => d)

/-- QUEUE_ACCESS_COMPLETE (03 R67). -/
def execQueueAccessComplete (core : CoreId) (ctx : CtxId) (s : State) : Host.Outcome State Fault Refusal :=
  s.run (fun d =>
    match d.accHead core ctx with
    | some (.push q r tryForm bs ord pc) => d.pushDone core ctx q r tryForm bs ord pc
    | some (.pop q r tryForm ord pc) => d.popDone core ctx q r tryForm ord pc
    | _ => d)

end Sys2Proof.Machine
end

