-- ==== Sys2Proof/Machine/Engine.lean ====
section
/-! DEFINITION. Running an engine command (03 R63, R64, R73, R76, R460; 08 R201): its accesses to memory and registers on
behalf of its context, the blocks it reads and writes, and its completion. A run reaches the device whole when the command
starts; its completion is a row of its own. -/

namespace Sys2Proof.Machine

/-! ### A run in progress -/

/-- A running command: the device as its run leaves it so far, core, queue and command, how the run has ended (absent while
it goes on), and the flags it sets. -/
structure Job where
  d : Dev
  c : Nat
  q : Nat
  cmd : Cmd
  fin : Option CmdEnd := none
  flags : Nat := 0
  deriving DecidableEq, Repr

/-- The run ends, unless it has ended. -/
def Job.stop (j : Job) (e : CmdEnd) : Job := if j.fin.isSome then j else { j with fin := some e }

/-- The run ends with CMDERR. -/
def Job.err (j : Job) (code : Nat) : Job := j.stop (.cmderr code)

/-- The run goes on as `f` says unless it has ended. -/
def Job.go (j : Job) (f : Job → Job) : Job := if j.fin.isSome then j else f j

/-- The first error code of a list whose check failed; a list in ascending order of codes reports the lowest (03 R460). -/
def Job.check (j : Job) (cs : List (Bool × Nat)) : Job :=
  match cs.find? (fun e => e.1) with
  | some (_, code) => j.err code
  | none => j

/-- Flags are set. -/
def Job.flag (j : Job) (m : Nat) : Job := { j with flags := orFlags j.flags m }

/-- The core of the command. -/
def Job.core (j : Job) : Core := j.d.core j.c

/-- The device changed. -/
def Job.onDev (j : Job) (f : Dev → Dev) : Job := { j with d := f j.d }

/-- The core changed. -/
def Job.onCore (j : Job) (f : Core → Core) : Job := { j with d := j.d.onCore j.c f }

/-- Operand `i` of the command's word. -/
def Job.op (j : Job) (i : Nat) : Nat := opnd j.cmd.word i

/-- The DPA in scalar register `n` at issue. -/
def Job.dpa (j : Job) (n : Nat) : Nat := j.cmd.dpa n

/-- The low bits [hi:0] of scalar register `n` at issue. -/
def Job.num (j : Job) (n hi : Nat) : Nat := bits (j.cmd.sreg n) hi 0

/-- How the command's requantization rounds: RNE, or SR with the context's seed and step and a tensor ID; A1C contexts
round to nearest (02 R43, R46; 03 R84). -/
def Job.rnd (j : Job) (mode tid : Nat) : Rnd :=
  if mode = 1 ∧ !j.cmd.a1c then some (j.cmd.seed, j.cmd.step, BitVec.ofNat 32 tid) else none

/-! ### Accesses (03 R63, R64; 01 R18) -/

/-- How an access of `n` bytes at `a` on behalf of the command's context ends the run, if it does: the window check first,
then the address. -/
def Job.accessEnd (j : Job) (perm a n : Nat) : Option CmdEnd :=
  match (j.d.ctx j.c j.cmd.ctx).accessFail perm a n with
  | some t => some (.window a t)
  | none =>
    if isRegSpace a then if j.d.regAccessOk a n then none else some (.address a)
    else if j.d.memOk a n then none else some (.address a)

/-- The run ends where an access is not allowed. -/
def Job.checkAccess (j : Job) (perm a n : Nat) : Job :=
  if n = 0 then j
  else
    match j.accessEnd perm a n with
    | some e => j.stop e
    | none => j

/-- Which of `n` bytes at `a` have a wrong parity bit, as offsets. -/
def Dev.badOffsets (d : Dev) (a n : Nat) : List Nat := if d.badAt a n then d.badIn a n else []

/-- A read of `n` bytes: the bytes, the offsets of those whose parity fails (which is reported), and the run. -/
def Job.read (j : Job) (a n : Nat) : List Byte × List Nat × Job :=
  let j1 := j.checkAccess 0 a n
  if j1.fin.isSome ∨ n = 0 then ([], [], j1)
  else if isRegSpace a then
    match j1.d.regRead (ctxPath j.c j.cmd.ctx) a n with
    | (some bs, d1) => (bs, [], { j1 with d := d1 })
    | (none, _) => ([], [], j1.stop (.address a))
  else
    let bad := j1.d.badOffsets a n
    (j1.d.bytesAt a n, bad, j1.onDev (fun d => (d.readServed a n).reportParity a n))

/-- Bytes are written at an address that the access check allows. -/
def Job.put (j : Job) (a : Nat) (bs : List Byte) : Job :=
  if bs.isEmpty then j
  else if isRegSpace a then j.onDev (fun d => (d.regPut (ctxPath j.c j.cmd.ctx) a bs).2)
  else j.onDev (fun d => d.writeAt a bs)

/-- A write of bytes. -/
def Job.write (j : Job) (a : Nat) (bs : List Byte) : Job := (j.checkAccess 1 a bs.length).go (fun e => e.put a bs)

/-- Parts that are written together or not at all: every one is checked before the first is written. -/
def Job.writeAll (j : Job) (ps : List (Nat × List Byte)) : Job :=
  (ps.foldl (fun (e : Job) p => e.checkAccess 1 p.1 p.2.length) j).go
    (fun e => ps.foldl (fun (f : Job) p => f.put p.1 p.2) e)

/-! ### Blocks (02 R27, R31, R37) -/

/-- A stored block: its exponent and its elements' codes. -/
abbrev Blk := Nat × List Nat

/-- The codes of a block's mantissa bytes. -/
def blkCodes (f : Nat) (bs : List Byte) : List Nat := (List.range (fmtN f)).map (elCode f bs)

/-- The values of a stored block (02 R30, R31). -/
def blkVals (f : Nat) (b : Blk) : List Val := b.2.map (elVal f b.1)

/-- `n` consecutive blocks of a tensor whose planes start at `mb` and `eb`, each with the exponent that its plane gives: the
exponent plane is read, then the mantissa plane, each as one access (DESIGN CHOICE, assumption log 38). A block of which a
byte fails parity is poisoned (02 R37; 08 R201); the plane gives 255 for an exponent byte that fails. -/
def Job.planeBlocks (j : Job) (f mb eb n : Nat) : List (Nat × Blk) × Job :=
  let e := j.read eb n
  let m := e.2.2.read mb (n * fmtBytes f)
  if m.2.2.fin.isSome then ([], m.2.2)
  else
    ((List.range n).map (fun k =>
      let x := if e.2.1.contains k then 255 else (e.1.getD k 0).toNat
      if e.2.1.contains k || m.2.1.any (fun i => i / fmtBytes f == k) then (x, 255, (poisonBlock f (fmtN f)).codes)
      else (x, x, blkCodes f (sliceBytes m.1 (k * fmtBytes f) (fmtBytes f)))), m.2.2)

/-- The blocks alone. -/
def Job.blocks (j : Job) (f mb eb n : Nat) : List Blk × Job :=
  let p := j.planeBlocks f mb eb n
  (p.1.map (fun b => b.2), p.2)

/-- The mantissa bytes of a run of requantized blocks. -/
def mantBytes (f : Nat) (bs : List QBlock) : List Byte := bs.flatMap (fun b => codeBytes f b.codes)

/-- The exponent bytes of a run of requantized blocks. -/
def expBytes (bs : List QBlock) : List Byte := bs.map (fun b => BitVec.ofNat 8 b.e)

/-- The flags of a run of requantized blocks. -/
def blkFlags (bs : List QBlock) : Nat := bs.foldl (fun m b => orFlags m b.flags) 0

/-- A requantized block as a stored one. -/
def QBlock.blk (b : QBlock) : Blk := (b.e, b.codes)

/-! ### Starting a command -/

/-- Command `op` of engine `eng`, at the head of its queue `q`, starts and runs when it may, its queue has the turn and no
earlier-issued command that it clashes with goes first: it leaves the queue, and its flags reach CSTATUS (03 R75; 04 R103,
R106, R107; 09 R246). Otherwise nothing happens. A command of which a byte in the FIFO fails parity is reported and has no
effect (08 R200; DESIGN CHOICE, assumption log 50). -/
def Dev.engineRow (d : Dev) (c : Nat) (q : EngQueue) (eng op : Nat) (run : Job → Job) : Dev :=
  let qi := 4 * eng + q.val
  match d.headOf c qi with
  | none => d
  | some h =>
    if engOf h.cmd.word = eng ∧ opOf h.cmd.word = op ∧ d.mayStart c qi h ∧ d.hasTurn c qi h ∧ d.goesFirst c qi h then
      if h.bad then (d.takeHead c qi h).pathParity c eng
      else
        let d1 := (d.takeHead c qi h).traceEv c 2 (some h.cmd.ctx) eng 0 h.cmd.word
        let cmd := { h.cmd with ext := match h.wide with | some w => w.word | none => 0 }
        let j := run { d := d1, c := c, q := qi, cmd := cmd }
        let r : Run := { cmd := cmd, fin := j.fin.getD .ok, acs := (d.core c).writesAcs cmd.word }
        let d2 := j.d.onCore c (fun k => (k.setRuns qi (k.runs qi ++ [r])).serve qi cmd.word)
        d2.onCtx c h.cmd.ctx (fun k => k.setFlags j.flags)
    else d

/-! ### Completing a command (03 R73, R76, R81) -/

/-- The error register of an engine. -/
def engErr (c e : Nat) : Reg :=
  match e with
  | 0 => .mxeErr c
  | 1 => .vxeErr c
  | 2 => .rduErr c
  | 3 => .gseErr c
  | _ => .mveErr c

/-- The counter slot of an engine's completed commands (16 Table 16.2). -/
def doneSlot (e : Nat) : Nat := match e with | 0 => 3 | 3 => 7 | _ => 5

/-- The exception of a run that ended in error: code, DETAIL and DPA. -/
def CmdEnd.exc (e : CmdEnd) (eng : Nat) (word : W64) : Option Exc :=
  match e with
  | .ok | .going => none
  | .cmderr code => some { code := 9, unit := eng, detail := code, cmd := word }
  | .window a t => some { code := 3, unit := eng, detail := t, dpa := a, cmd := word }
  | .address a => some { code := 4, unit := eng, dpa := a, cmd := word }

/-- The error register of an engine records a CMDERR. -/
def Dev.noteErr (d : Dev) (c e x : Nat) (fin : CmdEnd) : Dev :=
  match fin with
  | .cmderr code => d.setRegN (engErr c e) (x * 2 ^ 9 + 2 ^ 8 + code % 256)
  | _ => d

/-- A command that ended in error makes no bump; its context's queued commands are held and the exception is brought. -/
def Dev.cmdFault (d : Dev) (c e : Nat) (r : Run) (x : Exc) : Dev :=
  let d1 := d.noteErr c e r.cmd.ctx r.fin
  let st := (d1.ctx c r.cmd.ctx).state
  let d2 := if st = 0 ∨ st = 5 then d1 else d1.onCtx c r.cmd.ctx (fun k => { k with held := true })
  d2.lateExc c r.cmd.ctx r.cmd.pc x

/-- The first of a list of running commands whose run has ended, and the others. -/
def takeEnded : List Run → Option (Run × List Run)
  | [] => none
  | r :: rs => if r.fin = .going then (takeEnded rs).map (fun p => (p.1, r :: p.2)) else some (r, rs)

/-- The running command of queue `q` of core `c` completes: of those whose run has ended, the one that started first. A
command whose writes wait for room in the spill area does not (13 R345). -/
def Dev.cmdComplete (d : Dev) (c q : Nat) : Dev :=
  match takeEnded ((d.core c).runs q) with
  | none => d
  | some (r, rest) =>
    if !d.waitingWrites.isEmpty then d
    else
      let e := q / 4
      let d1 := (d.onCore c (fun k => k.setRuns q rest)).traceEv c 3 (some r.cmd.ctx) e 0 r.cmd.word
      match r.fin.exc e r.cmd.word with
      | some x => (d1.cmdFault c e r x).afterCmd c
      | none =>
        let d2 := d1.count (c * 8 + 1 + e) (doneSlot e) 1
        (match r.cmd.bumpTok with
         | some t => d2.bump c t (some r.cmd.ctx) e
         | none => d2).afterCmd c

/-- ENGINE_CMD_COMPLETE (03 R73, R76). -/
def execEngineCmdComplete (core : CoreId) (q : Fin 20) (s : State) : Host.Outcome State Fault Refusal :=
  s.run (fun d => d.cmdComplete core q)

end Sys2Proof.Machine
end

