-- ==== Sys2Proof/Machine/Fabric.lean ====
section
/-! DEFINITION. What arrives over the fabric (10 R271 to R278): DATA transfers and remote reads under the exchange
windows, answers to remote reads, and queue messages. -/

namespace Sys2Proof.Machine

/-- FAB_XWIN[n] (10). -/
def Dev.xwin (d : Dev) (n : Nat) : W128 :=
  BitVec.ofNat 128 (d.regN (.fabXwin (2 * n + 1)) * 2 ^ 64 + d.regN (.fabXwin (2 * n)))

/-- Whether one exchange window allows the access: `perm` 0 R, 1 W (10 R272). -/
def Dev.xwinAllows (d : Dev) (perm a n : Nat) : Bool := (List.range 16).any (fun i => windowGrants (d.xwin i) perm a n)

/-- Whether a frame's STEP is within 1 of CHR_STEP[31:0] modulo 2^32 (10 R272). -/
def Dev.stepNear (d : Dev) (v : W32) : Bool :=
  let x := v - d.chrStep32
  x == 0 || x == 1 || x == -1

/-- A transfer fails at its destination: nothing of it is written from now on, and no token is bumped (10 R272). -/
def Dev.failTransfer (d : Dev) (p : Nat) (f : Frame) : Dev :=
  let d1 := d.xfailAt p f.xid
  if f.lastf then d1 else { d1 with deadXids := f.xid :: d1.deadXids }

/-- A DATA frame at its destination (10 R272, R277). An address that holds no memory fails the transfer (DEDUCED,
assumption log 14). -/
def Dev.dataHere (d : Dev) (p : Nat) (f : Frame) : Dev :=
  let a := (f.addr.toNat + f.off.toNat) % 2 ^ 48
  let n := f.payload.length
  if d.deadXids.contains f.xid then
    if f.lastf then { d with deadXids := d.deadXids.filter (· ≠ f.xid) } else d
  else if !d.xwinAllows 1 a n then (d.setRbit .fabStatus 24 true).failTransfer p f
  else if !d.stepNear f.step then (d.setRbit .fabStatus 25 true).failTransfer p f
  else if !d.memOk a n then d.failTransfer p f
  else
    let d1 := d.writeAt a f.payload
    if f.lastf && f.tv then d1.bumpVisible f.core.toNat f.token.toNat else d1

/-- An accepted DATA frame: for this device it is written; for another it waits in the VC0 buffer, with its credits, until
the walker of its egress port takes it (10 R275). -/
def Dev.dataArrived (d : Dev) (p : Nat) (f : Frame) : Dev :=
  if f.dst.toNat = d.me then (d.consumed p f).dataHere p f
  else
    match d.route f.dst.toNat with
    | none => (d.consumed p f).noRoute (some p) f.xid
    | some _ =>
      let k := d.link p
      d.setLink p { k with fwd := k.fwd ++ [f] }

/-- DATA_FRAME (10 R272, R277). -/
def execDataFrame (p : PortId) (f : Frame) (s : State) : Host.Outcome State Fault Refusal :=
  s.run (fun d => d.acceptSeq p 1 f (fun g e => e.dataArrived p g))

/-- The 32-bit word that a register of the SNP block shows at a DPA (13 R345, R355; 18 R453). -/
def Dev.snpWord (d : Dev) (a : Nat) : Nat :=
  let shown := fun (r : Reg) => if r = .snpStatus then d.snpStatusRead else (d.regN r) &&& (2 ^ 64 - 1 - r.woMask)
  match regAt a with
  | some r => shown r % 2 ^ 32
  | none =>
    match regAt (a - 4) with
    | some r => if r.wide then shown r / 2 ^ 32 % 2 ^ 32 else 0
    | none => 0

/-- Whether a range lies in the register space of the SNP block, which a twin reads (13 R345, R355). -/
def inSnpBlock (a n : Nat) : Bool := decide (snpPage ≤ a ∧ a + n ≤ snpPage + 0x100000)

/-- The registers of the SNP block as bytes. -/
def Dev.snpBytes (d : Dev) (a n : Nat) : List Byte := (List.range (n / 4)).flatMap (fun i => toBytes 4 (d.snpWord (a + 4 * i)))

/-- The answer to a remote read: its status and the row (10 R273). The twin reads a spilled page from its copy. -/
def Dev.readAnswer (d : Dev) (fromTwin : Bool) (a n : Nat) : Nat × List Byte :=
  if n < 32 || 1024 < n || n % 32 ≠ 0 || a % 32 ≠ 0 || !d.xwinAllows 0 a n then (1, [])
  else if inSnpBlock a n then (0, d.snpBytes a n)
  else if !d.memOk a n then (1, [])
  else if d.badAt a n then (2, [])
  else (0, if fromTwin then d.twinBytes a n else d.bytesAt a n)

/-- A remote read is served, or passed on along its route (10 R271, R273). -/
def Dev.readArrived (d : Dev) (p : Nat) (f : Frame) : Dev :=
  if f.dst.toNat = d.me then
    let a := f.addr.toNat
    let twin := d.twinDev == some f.src.toNat
    let r := d.readAnswer twin a f.off.toNat
    let d1 := if r.1 = 2 then (d.consumed p f).reportParity a f.off.toNat
      else if r.1 = 0 && !inSnpBlock a f.off.toNat then (d.consumed p f).readServed a f.off.toNat else d.consumed p f
    let d2 := d1.sendRouted none (d1.mkFrame 3 2 f.src.toNat f.xid (BitVec.ofNat 32 r.1) r.2)
    if r.1 = 0 && twin && !inSnpBlock a f.off.toNat then (d2.twinHasRead a f.off.toNat).releaseBumps else d2
  else d.sendRouted (some p) f

/-- RDREQ_FRAME (10 R273). -/
def execRdreqFrame (p : PortId) (f : Frame) (s : State) : Host.Outcome State Fault Refusal :=
  s.run (fun d => d.acceptSeq p 2 f (fun g e => e.readArrived p g))

/-- The read tag of a GSE's remote read: core, command queue and a serial number, bit 31 clear (DESIGN CHOICE, assumption
log 15). -/
def gseTag (c q serial : Nat) : Nat := c * 2 ^ 22 + (q - 12) * 2 ^ 20 + serial % 2 ^ 20

/-- The answer to a remote read is kept for the GSE command that asked, by its read tag; an answer that no read waits for
is dropped (10 R273). That of a stopped command ends the wait for it (06 R171). -/
def Dev.gseAnswer (d : Dev) (f : Frame) : Dev :=
  let c := f.xid.toNat / 2 ^ 22
  let q := 12 + f.xid.toNat / 2 ^ 20 % 4
  let core := d.core c
  let rs := mapGet (fun _ => []) core.gse.reads q
  if rs.any (fun r => r.tag = f.xid.toNat && r.answer.isNone) then
    let rs1 := rs.map (fun r =>
      if r.tag = f.xid.toNat && r.answer.isNone then { r with answer := some (f.off.toNat % 256, f.payload) } else r)
    d.setCore c { core with gse := { core.gse with reads := mapSet (fun _ => []) core.gse.reads q rs1 } }
  else if core.gse.stopped.any (fun r => r.2.tag == f.xid.toNat) then
    d.setCore c { core with gse := { core.gse with stopped := core.gse.stopped.filter (fun r => r.2.tag ≠ f.xid.toNat) } }
  else d

/-- The answer to a remote read goes to the unit that its tag names: the SNP with bit 31 set, else a GSE. -/
def Dev.answerHere (d : Dev) (f : Frame) : Dev :=
  if bit f.xid 31 then d.twinAnswer f.xid.toNat (f.off.toNat % 256) f.payload else d.gseAnswer f

/-- RDRSP_FRAME (10 R273). -/
def execRdrspFrame (p : PortId) (f : Frame) (s : State) : Host.Outcome State Fault Refusal :=
  s.run (fun d => d.acceptSeq p 3 f (fun g e =>
    if g.dst.toNat = e.me then (e.consumed p g).answerHere g else e.sendRouted (some p) g))

/-! ### Queue messages (10 R278) -/

/-- Whether a QMSG names an enabled fabric receive queue whose DEV and PEER are its sender. -/
def Dev.qmsgOk (d : Dev) (f : Frame) : Bool :=
  let g := f.xid.toNat % 2 ^ 15
  let c := g / 64
  let q := g % 64
  queueClass q == 4 && d.queueOn c q && d.rbits (.qbase c q) 56 48 == f.src.toNat &&
  d.rbits (.qcfg c q) 22 8 == f.off.toNat % 2 ^ 15

/-- A QMSG payload becomes the next entry of its ring; a ring access that meets an address error loses the entry and is
reported (DEDUCED from 03 R70, assumption log 14). -/
def Dev.qmsgDeliver (d : Dev) (f : Frame) : Dev :=
  let g := f.xid.toNat % 2 ^ 15
  let c := g / 64
  let q := g % 64
  let a := d.ringEntry c q (d.ringTail c q)
  if d.memOk a 64 then (d.writeAt a (sliceBytes f.payload 0 64)).ringPush c q
  else d.faultAt 0x0205 (unitCore c) a

/-- Whether a held QMSG for the same queue is ahead of a frame. -/
def Link.holdsFor (k : Link) (g : Nat) : Bool := k.qheld.any (fun h => h.xid.toNat % 2 ^ 15 == g)

/-- An accepted QMSG: delivered, held while its ring is full, discarded with QDISCARD, or passed on. -/
def Dev.qmsgArrived (d : Dev) (p : Nat) (f : Frame) : Dev :=
  let g := f.xid.toNat % 2 ^ 15
  if f.dst.toNat ≠ d.me then d.sendRouted (some p) f
  else if !d.qmsgOk f then (d.consumed p f).faultAt 0x0204 (unitCore (g / 64)) g
  else
    let k := d.link p
    if d.ringFull (g / 64) (g % 64) || k.holdsFor g then d.setLink p { k with qheld := k.qheld ++ [f] }
    else (d.consumed p f).qmsgDeliver f

/-- QMSG_FRAME (10 R278). -/
def execQmsgFrame (p : PortId) (f : Frame) (s : State) : Host.Outcome State Fault Refusal :=
  s.run (fun d => d.acceptSeq p 8 f (fun g e => e.qmsgArrived p g))

/-- The first held QMSG of a list for a queue, and the list without it. -/
def takeHeld (g : Nat) : List Frame → Option (Frame × List Frame)
  | [] => none
  | f :: fs =>
    if f.xid.toNat % 2 ^ 15 = g then some (f, fs)
    else (takeHeld g fs).map (fun r => (r.1, f :: r.2))

/-- A held QMSG enters its ring once there is room, and its credits are returned; one that is no longer for an enabled
queue of its sender is discarded. -/
def Dev.qmsgRelease (d : Dev) (c q : Nat) : Dev :=
  let g := c * 64 + q
  match (List.range 24).find? (fun p => d.linkOf p == p && (d.link p).holdsFor g) with
  | none => d
  | some p =>
    let k := d.link p
    match takeHeld g k.qheld with
    | none => d
    | some (f, rest) =>
      let d1 := (d.setLink p { k with qheld := rest }).consumed p f
      if !d.qmsgOk f then d1.faultAt 0x0204 (unitCore c) g
      else if d.ringFull c q then d
      else d1.qmsgDeliver f

/-- QMSG_RELEASE (10 R278). -/
def execQmsgRelease (core : CoreId) (q : QueueId) (s : State) : Host.Outcome State Fault Refusal :=
  s.run (fun d => d.qmsgRelease core q)

/-- The head entry of a fabric send queue leaves as one QMSG frame, once its frame can enter the replay buffer; an entry
with a parity error or no valid route is lost and reported (10 R266, R271, R278). -/
def Dev.qmsgSend (d : Dev) (c q : Nat) : Dev :=
  if queueClass q ≠ 3 || !d.queueOn c q || mapGet (fun _ => false) (d.core c).stopped q || d.ringFill c q = 0 then d
  else
    let a := d.ringEntry c q (d.ringHead c q)
    let dst := d.rbits (.qbase c q) 56 48
    let peer := d.rbits (.qcfg c q) 22 8
    if !d.memOk a 64 then
      (d.onCore c (fun k => { k with stopped := mapSet (fun _ => false) k.stopped q true })).faultAt 0x0205 (unitCore c) a
    else
      let f := d.mkFrame 8 2 dst (BitVec.ofNat 32 peer) (BitVec.ofNat 32 (c * 64 + q)) (d.bytesAt a 64)
      match d.route dst with
      | none => (d.ringPop c q).noRoute none f.xid
      | some p =>
        if d.badAt a 64 then ((d.ringPop c q).reportParity a 64).xfailAt p f.xid
        else
          let k := d.link p
          if d.linkUp p && k.sendq.all (fun e => e.2.vc != 2) && k.mayGo f then ((d.readServed a 64).ringPop c q).sendOn p f else d

/-- QMSG_SEND (10 R278). -/
def execQmsgSend (core : CoreId) (q : QueueId) (s : State) : Host.Outcome State Fault Refusal :=
  s.run (fun d => d.qmsgSend core q)

end Sys2Proof.Machine
end

