-- ==== Sys2Proof/Machine/Mxe.lean ====
section
/-! DEFINITION. The matrix engine (04): modes, the operand turner, accumulation and exponent alignment, and its commands. -/

namespace Sys2Proof.Machine

/-! ### Modes (04 R85, R91) -/

/-- Whether a format has 16-bit mantissas. -/
def fmtIs16 (f : Nat) : Bool := f == fBI16 || f == fG16

/-- The mode of an operand pair (04 Table 4.2): 0 int4, 1 int8, 2 int8 with a BG8 operand, 3 int16; none for the pairs
marked with a dash and for ACC48. -/
def mxeMode (a b : Nat) : Option Nat :=
  if !fmtStored a || !fmtStored b then none
  else if a = fBG8 ∨ b = fBG8 then (if fmtIs16 a || fmtIs16 b || a == b then none else some 2)
  else if fmtIs16 a || fmtIs16 b then some 3
  else if a = fBI4 ∧ b = fBI4 then some 0
  else some 1

/-- Rows of the stationary tile of a mode (04 Table 4.1). -/
def modeK (m : Nat) : Nat := if m = 3 then 32 else 64
/-- Columns of the stationary tile of a mode. -/
def modeN (m : Nat) : Nat := if m = 0 then 128 else if m = 3 then 32 else 64
/-- The exact window W of a mode. -/
def modeW (m : Nat) : Int := if m = 2 then 24 else if m = 3 then 11 else 26
/-- The K-block of a mode. -/
def modeKb (m : Nat) : Nat := if m = 2 then 16 else 32

/-- Whether a format may be loaded for a mode (04 R91). -/
def modeTakes (m f : Nat) : Bool :=
  match m with
  | 0 => f == fBI4
  | 1 => f == fBI4 || f == fBI8
  | 2 => f == fBI4 || f == fBI8 || f == fBG8
  | _ => f == fBI4 || f == fBI8 || f == fBI16 || f == fG16

/-! ### Operands and the turner (04 R86, R87, R92)

An operand is taken as its lines along the contraction: the rows of a stream, the columns of a stationary tile. In PASS and
TRANSPOSE the blocks of a line lie one after another in storage; in the re-blocking modes the blocks run across the lines. -/

/-- Whether TURN re-blocks. -/
def turnReblocks (t : Nat) : Bool := t / 2 % 2 == 1

/-- The values of line `l` along the contraction, from blocks that run across `lines` lines. -/
def acrossVals (f lines k : Nat) (bs : List Blk) (l : Nat) : List Val :=
  (List.range k).map (fun i =>
    let b := bs.getD (i * (lines / fmtN f) + l / fmtN f) (0, [])
    elVal f b.1 (b.2.getD (l % fmtN f) 0))

/-- The values of line `l`, from blocks that run along the line. -/
def alongVals (f k : Nat) (bs : List Blk) (l : Nat) : List Val :=
  (List.range (k / fmtN f)).flatMap (fun i => blkVals f (bs.getD (l * (k / fmtN f) + i) (0, [])))

/-- The values of line `l` of an operand as stored. -/
def lineVals (f turn lines k : Nat) (bs : List Blk) (l : Nat) : List Val :=
  if turnReblocks turn then acrossVals f lines k bs l else alongVals f k bs l

/-- A line's values requantized along the contraction, each with its SR index. -/
def requantLine (f : Nat) (rnd : Rnd) (idx : Nat → Nat) (vs : List Val) : List QBlock :=
  (List.range (vs.length / fmtN f)).map (fun b =>
    requant f rnd ((List.range (fmtN f)).map (fun i => (vs.getD (b * fmtN f + i) vzero, idx (b * fmtN f + i)))))

/-- A block with the exponent that its exponent plane gives. -/
abbrev PlaneBlk := Nat × Blk

/-- An operand of `lines` lines of `k` elements: its lines' blocks along the contraction, as stored or re-blocked to nearest
in the same format, each with the exponent of its plane. -/
def Job.operand (j : Job) (f turn lines k mb eb : Nat) : List (List PlaneBlk) × Job :=
  let p := j.planeBlocks f mb eb (lines * k / fmtN f)
  if turnReblocks turn then
    let qs := (List.range lines).map (fun l => requantLine f none id (acrossVals f lines k (p.1.map (fun b => b.2)) l))
    (qs.map (fun l => l.map (fun b => (b.e, b.blk))), if p.2.fin.isSome then p.2 else p.2.flag (blkFlags qs.flatten))
  else ((List.range lines).map (fun l => (p.1.drop (l * (k / fmtN f))).take (k / fmtN f)), p.2)

/-- An element as the array takes it: the mantissa, m6 x 4^s in BG8, and whether it is the NX code. -/
def rawEl (f code : Nat) : Int × Bool :=
  match elMant f code with
  | none => (0, true)
  | some (m, s) => (m * 4 ^ s, false)

/-- A K-block of a line: the exponent of its plane, which alone P is formed from (04 R98), its exponent, whether an element
is non-finite, and the mantissas. -/
structure KBlk where
  pe : Nat
  e : Nat
  nx : Bool
  m : List Int
  deriving DecidableEq, Repr

/-- The K-blocks of `kb` elements of a line (04 R87, R100). -/
def kBlocks (f kb : Nat) (line : List PlaneBlk) : List KBlk :=
  line.flatMap (fun p => (List.range (fmtN f / kb)).map (fun i =>
    let b := p.2
    let els := ((b.2.drop (i * kb)).take kb).map (rawEl f)
    { pe := p.1, e := b.1, nx := b.1 == 255 || (b.1 != 0 && els.any (fun x => x.2)), m := els.map (fun x => x.1) }))

/-! ### Accumulation and exponent alignment (04 R98 to R100) -/

/-- The ACC48 NX code (02 R35). -/
def accNx : Int := -(2 ^ 47)
/-- The largest finite accumulator value (02 R36). -/
def accMax : Int := 2 ^ 47 - 1

/-- Whether a block counts for the tile exponent: its mantissas are never consulted (04 R98). -/
def KBlk.counts (b : KBlk) : Bool := decide (1 ≤ b.pe ∧ b.pe ≤ 254)

/-- The largest counted exponent of K-block `i` over lines. -/
def maxExp (lines : List (List KBlk)) (i : Nat) : Option Nat :=
  ((lines.filterMap (fun l => (l[i]?).bind (fun b => if b.counts then some b.pe else none)))).max?

/-- P: the largest partial exponent over every counted block pair (04 R98). -/
def maxPartial (a b : List (List KBlk)) (nkb : Nat) (bias : Int) : Option Int :=
  ((List.range nkb).filterMap (fun i =>
    match maxExp a i, maxExp b i with
    | some x, some y => some ((x : Int) + y - bias)
    | _, _ => none)).max?

/-- The tile exponent T' (04 R98): cleared, all zeros, the tile's T, P, W and the guard. -/
def tileExp (clr zeros : Bool) (t : Nat) (p : Option Int) (w g : Int) : Nat :=
  match p with
  | none => if clr then 0 else t
  | some x =>
    let n := (x - w + g + 512).toNat
    if clr || zeros then n else max t n

/-- A value divided by 2^k to the nearest, and the flag of a nonzero bit dropped (04 R99). -/
def alignDown (a : Int) (k : Nat) : Int × Nat := (rneShift a k, if dropsBits a k then flagAlign else 0)

/-- A sum within the range of R36. -/
def accSat (a : Int) : Int × Nat :=
  if accMax < a then (accMax, flagSat) else if a < -accMax then (-accMax, flagSat) else (a, 0)

/-- The dot product of two mantissa lists. -/
def dot (a b : List Int) : Int := (List.zipWith (fun x y => x * y) a b).sum

/-- One block pair is added to an element (04 R99, R100). -/
def addPair (bias base : Int) (s : Int × Nat) (p : KBlk × KBlk) : Int × Nat :=
  if s.1 = accNx then s
  else if p.1.nx || p.2.nx then (accNx, orFlags s.2 flagNf)
  else if p.1.e = 0 ∨ p.2.e = 0 then s
  else
    let x := dot p.1.m p.2.m
    let e := (p.1.e : Int) + p.2.e - bias - base
    let y := if 0 ≤ e then (x * 2 ^ e.toNat, 0) else alignDown x (-e).toNat
    let z := accSat (s.1 + y.1)
    (z.1, orFlags s.2 (orFlags y.2 z.2))

/-- One element through a command: the partials of its K-blocks in ascending order. -/
def accEl (bias base : Int) (a : Int) (x y : List KBlk) : Int × Nat :=
  if a = accNx then (accNx, flagNf) else (x.zip y).foldl (addPair bias base) (a, 0)

/-- The elements of a tile after the content shift (04 R99), with the flags. -/
def shiftTile (k : Nat) (els : List (Nat × Int)) : List (Nat × Int) × Nat :=
  let one := fun (a : Int) => if a = accNx then (a, 0) else alignDown a k
  ((els.map (fun e => (e.1, (one e.2).1))).filter (fun e => e.2 ≠ 0), els.foldl (fun m e => orFlags m (one e.2).2) 0)

/-- A product of row lines and column lines is added into a tile from column `col0` on (04 R98 to R100). With CLR the whole
tile is zero first, also the half and the rows that the product does not reach (DEDUCED, assumption log 54). -/
def accumulate (tile : AcTile) (clr : Bool) (g w bias : Int) (nkb col0 : Nat) (a b : List (List KBlk)) : AcTile × Nat :=
  let t0 : AcTile := if clr then {} else tile
  let zeros := t0.els.isEmpty
  let t := tileExp clr zeros t0.t (maxPartial a b nkb bias) w g
  let sh := if zeros ∨ t ≤ t0.t then (t0.els, 0) else shiftTile (t - t0.t) t0.els
  let base := (t : Int) - 512
  let cells := (List.range a.length).flatMap (fun r => (List.range b.length).map (fun c =>
    (r * 64 + col0 + c, accEl bias base (mapGet (fun _ => 0) sh.1 (r * 64 + col0 + c)) (a.getD r []) (b.getD c []))))
  let els := cells.foldl (fun m e => mapSet (fun _ => 0) m e.1 e.2.1) sh.1
  ({ t := t, els := els }, cells.foldl (fun m e => orFlags m e.2.2) sh.2)

/-! ### Tiles and buffers of the core -/

/-- Accumulator `n`. -/
def Core.acTile (k : Core) (n : Nat) : AcTile := mapGet (fun _ => {}) k.mxe.ac n

/-- An accumulator as a command reads it: an element whose parity fails is the NX code (04 R110). -/
def Core.acRead (k : Core) (n : Nat) : AcTile :=
  let t := k.acTile n
  { t with els := k.mxe.badAc.foldl (fun m e =>
      if e.2 && e.1 / 4096 == n then mapSet (fun _ => 0) m (e.1 % 4096) accNx else m) t.els }

/-- Whether an accumulator holds an element whose parity fails. -/
def Core.acBad (k : Core) (n : Nat) : Bool := k.mxe.badAc.any (fun e => e.2 && e.1 / 4096 == n)

/-- A parity error within the MXE is reported, and sets NF (04 R110; 14 Table 14.2, PATHPAR). -/
def Job.mxeParity (j : Job) (bad : Bool) : Job :=
  if bad then (j.onDev (fun d => d.pathParity j.c 0)).flag flagNf else j

/-- The core with an accumulator written. -/
def Core.setAc (k : Core) (n : Nat) (t : AcTile) : Core :=
  let k1 := k.zeroAc n
  { k1 with mxe := { k1.mxe with ac := mapSet (fun _ => {}) k1.mxe.ac n t } }

/-- A product is added into accumulator `n`. -/
def Job.product (j : Job) (n : Nat) (clr : Bool) (g : Nat) (w bias : Int) (nkb col0 : Nat) (a b : List (List KBlk)) : Job :=
  let j1 := j.mxeParity (!clr && j.core.acBad n)
  let r := accumulate (j1.core.acRead n) clr g w bias nkb col0 a b
  (j1.flag r.2).onCore (fun k => k.setAc n r.1)

/-- A weight buffer with loaded lines, one a column. -/
def loadBuf (mode f : Nat) (lines : List (List Blk)) : WeightBuf :=
  let cols := (List.range lines.length).map (fun c => (c, lines.getD c []))
  let place := fun (m : List (Nat × Int)) (k c code : Nat) => mapSet (fun _ => 0) m (k * 128 + c) (rawEl f code).1
  let b0 : WeightBuf := { valid := true, mode := mode, fmt := f }
  cols.foldl (fun (b : WeightBuf) p =>
    (List.range p.2.length).foldl (fun (w : WeightBuf) i =>
      let blk := p.2.getD i (0, [])
      let es := mapSet (fun _ => 0) w.exps (i * 128 + p.1) blk.1
      (List.range blk.2.length).foldl (fun (v : WeightBuf) e =>
        let k := i * fmtN f + e
        let code := blk.2.getD e 0
        let nx := if (rawEl f code).2 then mapSet (fun _ => false) v.nx (k * 128 + p.1) true else v.nx
        { v with els := place v.els k p.1 code, nx := nx }) { w with exps := es }) b) b0

/-- The K-blocks of column `c` of a weight buffer; an entry whose parity fails makes its block non-finite (04 R110). -/
def Core.wbColumn (k : Core) (n c : Nat) : List KBlk :=
  let b := k.weightBuf n
  let kb := modeKb b.mode
  (List.range (modeK b.mode / kb)).map (fun i =>
    let ks := (List.range kb).map (fun e => i * kb + e)
    let ex := mapGet (fun _ => 0) b.exps (i * kb / fmtN b.fmt * 128 + c)
    let nx := ks.any (fun x => mapGet (fun _ => false) b.nx (x * 128 + c))
    let bad := ks.any (fun x => mapGet (fun _ => false) k.mxe.badWb (n * 8192 + x * 128 + c))
    { pe := ex, e := ex, nx := ex == 255 || (ex != 0 && nx) || bad, m := ks.map (fun x => mapGet (fun _ => 0) b.els (x * 128 + c)) })

/-- Whether a weight buffer holds an entry whose parity fails. -/
def Core.wbBad (k : Core) (n : Nat) : Bool := k.mxe.badWb.any (fun e => e.2 && e.1 / 8192 == n)

/-! ### Commands (04 R111 to R113; 07 Table 7.6) -/

/-- The counters of the MXE's flags (16 Table 16.2). -/
def Job.mxeTally (j : Job) : Job :=
  j.onDev (fun d =>
    let d1 := if j.flags / 4 % 2 = 1 then d.count (j.c * 8 + 1) 6 1 else d
    if j.flags / 2 % 2 = 1 then d1.count (j.c * 8 + 1) 7 1 else d1)

/-- G: 0 in A1C (04 R112). -/
def Job.guard (j : Job) (i : Nat) : Nat := if j.cmd.a1c then 0 else j.op i

/-- MLOAD: SHAPE cannot arise, as every tile is a multiple of every block. -/
def mloadRun (j : Job) : Job :=
  let n := j.op 0
  let mode := j.op 1
  let f := j.op 2
  let j1 := (j.onCore (fun k => k.dropWb n)).check [(!modeTakes mode f, 2)]
  j1.go (fun e =>
    let p := e.operand f (j.op 3) (modeN mode) (modeK mode) (j.dpa (2 * j.op 4)) (j.dpa (2 * j.op 4 + 1))
    p.2.go (fun x => (x.onCore (fun k => { k with mxe := { k.mxe with wb := mapSet (fun _ => {}) k.mxe.wb n (loadBuf mode f (p.1.map (fun l => l.map (fun b => b.2)))) } })).mxeTally))

/-- MINV. -/
def minvRun (j : Job) : Job := j.onCore (fun k => k.dropWb (j.op 0))

/-- MCLR. -/
def mclrRun (j : Job) : Job := j.onCore (fun k => k.zeroAc (j.op 0))

/-- The checks of an MMUL of M rows in their order of code (04 R85, R90, R91, R107; 03 R460). -/
def mmulChecks (j : Job) (m : Nat) (b : WeightBuf) : List (Bool × Nat) :=
  let f := j.op 2
  let mode := if b.valid then mxeMode b.fmt f else none
  [(m = 0 || decide (64 < m) || (turnReblocks (j.op 3) && fmtStored f && m % fmtN f != 0), 1),
   (!fmtStored f || (b.valid && mode.isNone), 2),
   (!b.valid || mode != some b.mode, 3),
   ((mode == some 0 && j.op 0 % 2 == 1) || (mode != some 3 && j.op 5 == 1), 4)]

/-- MMUL (04 R88, R90, R98 to R100). -/
def mmulRun (j : Job) : Job :=
  let m := j.num (j.op 8) 6
  let n := j.op 1
  let b := j.core.weightBuf n
  let f := j.op 2
  (j.check (mmulChecks j m b)).go (fun e =>
    let mode := b.mode
    let kb := modeKb mode
    let p := e.operand f (j.op 3) m (modeK mode) (j.dpa (2 * j.op 7)) (j.dpa (2 * j.op 7 + 1))
    p.2.go (fun x =>
      let a := p.1.map (kBlocks f kb)
      let cols := (List.range (modeN mode)).map (fun c => x.core.wbColumn n c)
      let bias := fmtBias f + fmtBias b.fmt
      let x1 := (x.mxeParity (x.core.wbBad n)).onDev (fun d => d.count (j.c * 8 + 1) 1 m)
      let go := fun (y : Job) ac col0 cs => y.product ac (j.op 4 == 1) (j.guard 6) (modeW mode) bias (modeK mode / kb) col0 a cs
      let r :=
        if mode = 0 then go (go x1 (j.op 0) 0 (cols.take 64)) (j.op 0 + 1) 0 (cols.drop 64)
        else go x1 (j.op 0) (if mode = 3 then 32 * j.op 5 else 0) cols
      r.mxeTally))

/-- MMULO (04 R89, R98 to R100). -/
def mmuloRun (j : Job) : Job :=
  let m := j.num (j.op 9) 8
  let fa := j.op 1
  let fb := j.op 2
  let mode := mxeMode fa fb
  (j.check [(m % 32 != 0 || m < 32 || 256 < m, 1), (!(mode == some 1 || mode == some 2), 2)]).go (fun e =>
    let md := mode.getD 1
    let kb := modeKb md
    let p := e.operand fa (j.op 3) 64 m (j.dpa (2 * j.op 7)) (j.dpa (2 * j.op 7 + 1))
    p.2.go (fun x =>
      let r := x.operand fb (j.op 4) 64 m (j.dpa (2 * j.op 8)) (j.dpa (2 * j.op 8 + 1))
      r.2.go (fun y =>
        ((y.onDev (fun d => d.count (j.c * 8 + 1) 1 m)).product (j.op 0) (j.op 5 == 1) (j.guard 6) (modeW md)
          (fmtBias fa + fmtBias fb) (m / kb) 0 (p.1.map (kBlocks fa kb)) (r.1.map (kBlocks fb kb))).mxeTally)))

/-- The output blocks of MTURN: requantized along the contraction when TURN re-blocks or the format changes (04 R111). The
row of the SR index (02 R46) is an element's position along the contraction, its column the line (DESIGN CHOICE, assumption
log 54). -/
def turnOut (j : Job) (fi fo turn : Nat) (bs : List Blk) : List QBlock :=
  let rnd := j.rnd (j.op 3) (j.num (j.op 6) 31)
  (List.range 64).flatMap (fun l => requantLine fo rnd (fun r => r * 64 + l) (lineVals fi turn 64 64 bs l))

/-- MTURN: a pure movement keeps every block as stored (02 R40). -/
def mturnRun (j : Job) : Job :=
  let fi := j.op 0
  let fo := j.op 1
  let turn := j.op 2
  (j.check [(!fmtStored fi || !fmtStored fo, 2)]).go (fun e =>
    let p := e.blocks fi (j.dpa (2 * j.op 4)) (j.dpa (2 * j.op 4 + 1)) (4096 / fmtN fi)
    p.2.go (fun x =>
      let out : List QBlock :=
        if turnReblocks turn ∨ fi ≠ fo then turnOut j fi fo turn p.1
        else p.1.map (fun b => { e := b.1, codes := b.2, flags := 0 })
      (((x.flag (blkFlags out)).write (j.dpa (2 * j.op 5)) (mantBytes fo out)).write (j.dpa (2 * j.op 5 + 1)) (expBytes out)).mxeTally))

/-- MLOAD (04 R91, R111). -/
def execMload (core : CoreId) (q : EngQueue) (s : State) : Host.Outcome State Fault Refusal :=
  s.run (fun d => d.engineRow core q 0 0 mloadRun)

/-- MINV (04 R107). -/
def execMinv (core : CoreId) (q : EngQueue) (s : State) : Host.Outcome State Fault Refusal :=
  s.run (fun d => d.engineRow core q 0 1 minvRun)

/-- MMUL (04 R88). -/
def execMmul (core : CoreId) (q : EngQueue) (s : State) : Host.Outcome State Fault Refusal :=
  s.run (fun d => d.engineRow core q 0 2 mmulRun)

/-- MMULO (04 R89). -/
def execMmulo (core : CoreId) (q : EngQueue) (s : State) : Host.Outcome State Fault Refusal :=
  s.run (fun d => d.engineRow core q 0 3 mmuloRun)

/-- MCLR (04 R111). -/
def execMclr (core : CoreId) (q : EngQueue) (s : State) : Host.Outcome State Fault Refusal :=
  s.run (fun d => d.engineRow core q 0 4 mclrRun)

/-- MTURN (04 R111). -/
def execMturn (core : CoreId) (q : EngQueue) (s : State) : Host.Outcome State Fault Refusal :=
  s.run (fun d => d.engineRow core q 0 5 mturnRun)

end Sys2Proof.Machine
end

