-- ==== Sys2Proof/Machine/VxeFn.lean ====
section
/-! DEFINITION. Exact arithmetic on values, the rounding F24 (05 R124), and the special functions: the tables that 05 R125
defines, their evaluation, and the outside ranges of R126. -/

namespace Sys2Proof.Machine

/-! ### Exact values m x 2^e -/

/-- A finite value. -/
abbrev Fin2 := Int × Int

/-- The mantissa of a value at an exponent at or below its own. -/
def mantAt (a : Fin2) (e : Int) : Int := a.1 * 2 ^ (a.2 - e).toNat

/-- A sum. -/
def addV (a b : Fin2) : Fin2 :=
  if a.1 = 0 then b else if b.1 = 0 then a else (mantAt a (min a.2 b.2) + mantAt b (min a.2 b.2), min a.2 b.2)

/-- The opposite. -/
def negV (a : Fin2) : Fin2 := (-a.1, a.2)

/-- A difference. -/
def subV (a b : Fin2) : Fin2 := addV a (negV b)

/-- A product. -/
def mulV (a b : Fin2) : Fin2 := (a.1 * b.1, a.2 + b.2)

/-- The sign of a difference decides a comparison. -/
def ltV (a b : Fin2) : Bool := decide ((subV a b).1 < 0)

/-- Comparison by value. -/
def leV (a b : Fin2) : Bool := decide ((subV a b).1 ≤ 0)

/-- Equality by value. -/
def eqV (a b : Fin2) : Bool := (subV a b).1 == 0

/-- The larger. -/
def maxV (a b : Fin2) : Fin2 := if ltV a b then b else a

/-- The smaller. -/
def minV (a b : Fin2) : Fin2 := if ltV b a then b else a

/-- floor of a value times 2^k. -/
def floorV (a : Fin2) (k : Int) : Int := if 0 ≤ a.2 + k then a.1 * 2 ^ (a.2 + k).toNat else a.1.fdiv (2 ^ (-(a.2 + k)).toNat)

/-- The rounding of R124 to `n` + 1 significant bits: F24 for n = 23, F31 for n = 30. -/
def roundSig (n : Nat) (a : Fin2) : Fin2 :=
  let k := log2Floor a.1.natAbs
  if k ≤ n then a else (rneShift a.1 (k - n), a.2 + (k - n : Nat))

/-- F24 (05 R124). -/
def f24 (a : Fin2) : Fin2 := roundSig 23 a

/-! ### Core functions (05 Table 5.2)

The values of a core function at the points that the tables need, as integers at the scale 2^128. A value that is not exact
at this scale is rounded down. -/

/-- The scale of core function values. -/
def fxOne : Nat := 2 ^ 128

/-- A product at the scale. -/
def fxMul (a b : Nat) : Nat := a * b / fxOne

/-- r^(a / 2^k) for a < 2^k, the bits of `a` from the top, each with the square root of the last one's factor. -/
def exp2Go : Nat → Nat → Nat → Nat
  | 0, _, _ => fxOne
  | k + 1, a, r =>
    let r1 := isqrt (r * fxOne)
    let t := exp2Go k (a % 2 ^ k) r1
    if a / 2 ^ k % 2 = 1 then fxMul t r1 else t

/-- 2^u for u = a / 2^9. -/
def core2u (a : Nat) : Nat := if a = 512 then 2 * fxOne else exp2Go 9 a (2 * fxOne)

/-- The first `n` fraction bits of log2 x for x in [1, 2), by repeated squaring. -/
def log2Go : Nat → Nat → Nat → Nat
  | 0, _, acc => acc
  | n + 1, x, acc =>
    let y := fxMul x x
    if 2 * fxOne ≤ y then log2Go n (y / 2) (2 * acc + 1) else log2Go n y (2 * acc)

/-- log2(1 + u) for u = a / 2^9. -/
def coreLog2 (a : Nat) : Nat := if a = 512 then fxOne else log2Go 100 (fxOne + a * (fxOne / 512)) 0 * 2 ^ 28

/-- 1 / (1 + u) for u = a / 2^9. -/
def coreRcp (a : Nat) : Nat := fxOne * 512 / (512 + a)

/-- (1 + u)^-1/2 for u = a / 2^9. -/
def coreRsqA (a : Nat) : Nat := isqrt (fxOne * fxOne * 512 / (512 + a))

/-- (2 + 2u)^-1/2 for u = a / 2^9. -/
def coreRsqB (a : Nat) : Nat := isqrt (fxOne * fxOne * 256 / (512 + a))

/-- The terms x^n / n! of a power series from the `n`-th on, `m` of them, signs alternating, for x = 2^-7. -/
def expTerms : Nat → Nat → Nat → Nat
  | 0, _, _ => 0
  | m + 1, n, t => t - expTerms m (n + 1) (t / 128 / (n + 1))

/-- r^a for a < 2^k, the bits of `a` from the bottom. -/
def expGo : Nat → Nat → Nat → Nat
  | 0, _, _ => fxOne
  | k + 1, a, r =>
    let t := expGo k (a / 2) (fxMul r r)
    if a % 2 = 1 then fxMul t r else t

/-- e^(-16u) for u = a / 2^11. -/
def coreExp (a : Nat) : Nat := expGo 12 a (expTerms 24 0 fxOne)

/-- 1 / (1 + e^(-16u)) for u = a / 2^11. -/
def coreSig (a : Nat) : Nat := fxOne * fxOne / (fxOne + coreExp a)

/-- tanh(8u) for u = a / 2^11. -/
def coreTanh (a : Nat) : Nat := fxOne * (fxOne - coreExp a) / (fxOne + coreExp a)

/-- The core function of a table: EXP2, LOG2, RCP, RSQ table A, SIG, TANH, and 6 for RSQ table B. -/
def coreFn (t a : Nat) : Nat :=
  match t with
  | 0 => core2u a
  | 1 => coreLog2 a
  | 2 => coreRcp a
  | 3 => coreRsqA a
  | 4 => coreSig a
  | 5 => coreTanh a
  | _ => coreRsqB a

/-! ### Tables and evaluation (05 R125) -/

/-- Index bits of a table. -/
def sfBits (t : Nat) : Nat := if t = 4 ∨ t = 5 then 10 else 8

/-- An integer at the scale 2^128 times 2^32, rounded to nearest. -/
def coefOf (v : Int) : Int := rneShift v 96

/-- C0, C1 and C2 of segment `i`. -/
def sfCoef (t i : Nat) : Int × Int × Int :=
  let f0 : Int := coreFn t (2 * i)
  let fm : Int := coreFn t (2 * i + 1)
  let f1 : Int := coreFn t (2 * i + 2)
  (coefOf f0, coefOf (4 * fm - 3 * f0 - f1), coefOf (2 * f0 - 4 * fm + 2 * f1))

/-- q for u = v / 2^(s + 16): `v` holds the index bits above the 16 bits of t16. -/
def sfEval (t v : Nat) : Fin2 :=
  let c := sfCoef t (v / 65536)
  let t16 : Int := (v % 65536 : Nat)
  (c.1 + (c.2.1 * t16).fdiv (2 ^ 16) + (c.2.2 * t16 * t16).fdiv (2 ^ 32), -32)

/-- n and the index and t16 bits of u, for |x| = 2^n x (1 + u). -/
def sfSplit (x : Fin2) : Int × Nat :=
  let k := log2Floor x.1.natAbs
  (x.2 + k, (floorV ((x.1.natAbs : Int) - 2 ^ k, -(k : Int)) 24).toNat)

/-- EXP2 (05 R125, R126), with SAT. -/
def sfExp2 (x : Fin2) : Val × Nat :=
  if leV (512, 0) x then (some (2 ^ 24 - 1, 488), flagSat)
  else if ltV x (-512, 0) then (vzero, 0)
  else
    let v := floorV x 24
    let n := v.fdiv (2 ^ 24)
    (some (f24 (mulV (1, n) (sfEval 0 (v - n * 2 ^ 24).toNat))), 0)

/-- LOG2. -/
def sfLog2 (x : Fin2) : Val × Nat :=
  if x.1 ≤ 0 then (none, flagNf)
  else
    let p := sfSplit x
    (some (f24 (addV (p.1, 0) (sfEval 1 p.2))), 0)

/-- RCP. -/
def sfRcp (x : Fin2) : Val × Nat :=
  if x.1 = 0 then (none, flagNf)
  else
    let p := sfSplit x
    let r := f24 (mulV (1, -p.1) (sfEval 2 p.2))
    (some (if x.1 < 0 then negV r else r), 0)

/-- RSQ: table A for n even, table B for n odd. -/
def sfRsq (x : Fin2) : Val × Nat :=
  if x.1 ≤ 0 then (none, flagNf)
  else
    let p := sfSplit x
    if p.1 % 2 = 0 then (some (f24 (mulV (1, -(p.1 / 2)) (sfEval 3 p.2))), 0)
    else (some (f24 (mulV (1, -((p.1 - 1) / 2)) (sfEval 6 p.2))), 0)

/-- The magnitude of a value. -/
def absV (a : Fin2) : Fin2 := (a.1.natAbs, a.2)

/-- SIG. -/
def sfSig (x : Fin2) : Val × Nat :=
  if leV (16, 0) (absV x) then (if x.1 < 0 then vzero else some (1, 0), 0)
  else
    let q := sfEval 4 (floorV (absV x) 22).toNat
    (some (f24 (if x.1 < 0 then subV (1, 0) q else q)), 0)

/-- TANH. -/
def sfTanh (x : Fin2) : Val × Nat :=
  if leV (8, 0) (absV x) then (some (if x.1 < 0 then -1 else 1, 0), 0)
  else
    let q := sfEval 5 (floorV (absV x) 23).toNat
    (some (f24 (if x.1 < 0 then negV q else q)), 0)

/-- A special function of a finite value, before its group write, and the flags of R126 (05 Table 5.2). -/
def sfApply (fn : Nat) (x : Fin2) : Val × Nat :=
  match fn with
  | 0 => sfExp2 x
  | 1 => sfLog2 x
  | 2 => sfRcp x
  | 3 => sfRsq x
  | 4 => sfSig x
  | _ => sfTanh x

end Sys2Proof.Machine
end

