-- ==== Sys2Proof/Machine/Vxe.lean ====
section
/-! DEFINITION. The vector engine (05): the working form, masks and rectangles, and its commands. -/

namespace Sys2Proof.Machine

/-! ### The working form (05 R116, R117) -/

/-- The working-form NX code. -/
def wfNx : Int := -(2 ^ 31)
/-- The largest mantissa of the working form. -/
def wfMax : Nat := 2 ^ 31 - 1

/-- The key of row `row` of a TR operand: a V register's single row stands for every row (05 R120). -/
def rowKey (tr row : Nat) : Nat := if 32 ≤ tr then 256 + tr % 32 else tr % 4 * 64 + row

/-- The row at a key. -/
def Core.vrow (k : Core) (key : Nat) : VRow := mapGet (fun _ => {}) k.vxe.rows key

/-- The mantissa of lane `i`. -/
def VRow.mant (r : VRow) (i : Nat) : Int := mapGet (fun _ => 0) r.m i

/-- The group exponent X of lane `i`. -/
def VRow.exp (r : VRow) (i : Nat) : Nat := mapGet (fun _ => 0) r.x (i / 16)

/-- The value of lane `i`. -/
def VRow.val (r : VRow) (i : Nat) : Val :=
  let t := r.mant i
  if t = wfNx then none else if t = 0 then vzero else some (t, (r.exp i : Int) - 512)

/-- Whether the parity of a lane fails. -/
def Core.laneBad (k : Core) (key i : Nat) : Bool := mapGet (fun _ => false) k.vxe.badRow (key * 64 + i)

/-- The 64 values of a row; an element whose parity fails is NX (05 R143). -/
def Core.rowVals (k : Core) (key : Nat) : List Val :=
  let r := k.vrow key
  (List.range 64).map (fun i => if k.laneBad key i then none else r.val i)

/-- Whether lane `i` is in a mask. -/
def inMask (mask i : Nat) : Bool := mask / 2 ^ i % 2 == 1

/-- The exponent X for the value of largest magnitude: the smallest of 1 to 1023 that holds it, else 1023. -/
def chooseX (m : Fin2) : Nat :=
  if m.1 = 0 then 1
  else
    let x := (m.2 + log2Floor m.1.natAbs + 482).toNat
    if x = 0 then 1
    else if 1023 < x then 1023
    else if magLe m.1 m.2 wfMax ((x : Int) - 512) then x else min 1023 (x + 1)

/-- A group of values in working form: mantissas, X, and whether one saturated. -/
def wfGroup (vs : List Val) : List Int × Nat × Bool :=
  let m := maxMag vs
  let anyNx := vs.any (fun v => v.isNone)
  if m.1 = 0 ∧ !anyNx then (List.replicate vs.length 0, 0, false)
  else if vs.all (fun v => v.isNone) then (List.replicate vs.length wfNx, 0, false)
  else
    let x := chooseX m
    let qs := vs.map (fun v => match v with
      | none => (wfNx, false)
      | some a => quantEl none 0 a wfMax ((x : Int) - 512))
    let sat := qs.any (fun q => q.2)
    if !anyNx ∧ qs.all (fun q => q.1 = 0) then (List.replicate vs.length 0, 0, sat)
    else (qs.map (fun q => q.1), x, sat)

/-- The lanes of a row that one exponent governs: 16, or all 64 of a V register in A1C mode (05 R144). -/
def groupsOf (a1c : Bool) (key : Nat) : List (Nat × Nat) :=
  if a1c ∧ 256 ≤ key then [(0, 64)] else [(0, 16), (16, 16), (32, 16), (48, 16)]

/-- A row with the lanes from `lo` on written with one exponent. -/
def VRow.setGroup (r : VRow) (lo x : Nat) (ms : List Int) : VRow :=
  { m := mapWrite (fun _ => 0) r.m lo ms, x := mapWrite (fun _ => 0) r.x (lo / 16) (List.replicate (ms.length / 16) x) }

/-- A row is replaced; the lanes from `lo` to `hi` have right parity. -/
def Core.setRow (k : Core) (key lo n : Nat) (r : VRow) : Core :=
  let bad := mapDrop (fun i => decide (key * 64 + lo ≤ i ∧ i < key * 64 + lo + n)) k.vxe.badRow
  { k with vxe := { k.vxe with rows := mapSet (fun _ => {}) k.vxe.rows key r, badRow := bad } }

/-- The group write of R117 to lanes lo to lo + n - 1 of a row: lanes in the mask take their values, others keep theirs, or
become 0 under MZ. A group that the command does not write is left alone. -/
def Core.putGroup (key : Nat) (vals : List Val) (mask : Nat) (mz : Bool) (k : Core × Nat) (g : Nat × Nat) : Core × Nat :=
  let lanes := (List.range g.2).map (fun i => g.1 + i)
  if !mz && !lanes.any (inMask mask) then k
  else
    let old := k.1.rowVals key
    let w := wfGroup (lanes.map (fun i =>
      if inMask mask i then vals.getD i vzero else if mz then vzero else old.getD i vzero))
    let nf := lanes.any (fun i => inMask mask i && (vals.getD i vzero).isNone)
    let fl := (if nf then flagNf else 0) + (if w.2.2 then flagSat else 0)
    (k.1.setRow key g.1 g.2 ((k.1.vrow key).setGroup g.1 w.2.1 w.1), orFlags k.2 fl)

/-- A row is written under R117, with the flags it sets. -/
def Core.putRow (k : Core) (a1c : Bool) (key : Nat) (vals : List Val) (mask : Nat) (mz : Bool) : Core × Nat :=
  (groupsOf a1c key).foldl (Core.putGroup key vals mask mz) (k, 0)

/-- A parity error in an engine's own state or in what it reads is reported and sets NF (05 R143). -/
def Job.parity (j : Job) (eng : Nat) (bad : Bool) : Job :=
  if bad then (j.onDev (fun d => d.pathParity j.c eng)).flag flagNf else j

/-- Whether the groups that a write touches keep a lane whose parity fails: the choice of X reads that lane (05 R117). -/
def Core.keptBad (k : Core) (a1c : Bool) (key mask : Nat) (mz : Bool) : Bool :=
  !mz && (groupsOf a1c key).any (fun g =>
    let lanes := (List.range g.2).map (fun i => g.1 + i)
    lanes.any (inMask mask) && lanes.any (fun i => !inMask mask i && k.laneBad key i))

/-- A row is written by the command; a kept lane whose parity fails is read as NX (05 R143). -/
def Job.putRow (j : Job) (key : Nat) (vals : List Val) (mask : Nat) (mz : Bool) : Job :=
  let j1 := j.parity (j.q / 4) (j.core.keptBad j.cmd.a1c key mask mz)
  let r := j1.core.putRow j.cmd.a1c key vals mask mz
  (j1.onCore (fun _ => r.1)).flag r.2

/-! ### Shapes, masks and operands (05 R119, R120, R143) -/

/-- A rectangle: VL, NR and R0. -/
structure Shape where
  vl : Nat
  nr : Nat
  r0 : Nat
  deriving DecidableEq, Repr

/-- The shape word in scalar register `n`. -/
def Job.shapeWord (j : Job) (n : Nat) : W64 := j.cmd.sreg n

/-- Whether a shape word is outside R119. -/
def shapeBad (w : W64) : Bool :=
  let vl := bits w 6 0
  let nr := bits w 14 8
  vl == 0 || decide (64 < vl) || nr == 0 || decide (64 < nr) || decide (64 < bits w 21 16 + nr) || bit w 7 || bit w 15 ||
    bits w 63 22 != 0

/-- The rectangle of a shape word; a V register takes NR = 1 and R0 = 0 (05 R120). -/
def Job.rect (j : Job) (n tr : Nat) : Shape :=
  let w := j.shapeWord n
  if 32 ≤ tr then { vl := bits w 6 0, nr := 1, r0 := 0 } else { vl := bits w 6 0, nr := bits w 14 8, r0 := bits w 21 16 }

/-- The rows of a rectangle. -/
def Shape.rows (s : Shape) : List Nat := (List.range s.nr).map (fun i => s.r0 + i)

/-- Whether a DPA lies in the stacks, which the VXE and the RDU do not reach (05 R141). -/
def inStacks (a : Nat) : Bool := a < 8 * stackSize

/-- The check of MEMLVL on a list of DPAs. -/
def memLvl (as : List Nat) : Bool := as.any inStacks

/-- The DPA of a mask plane, where the operand names one. -/
def Job.maskAddr (j : Job) (pm : Nat) : List Nat := if 32 ≤ pm then [j.dpa (pm % 32)] else []

/-- The mask of all lanes below VL. -/
def laneMask (vl : Nat) : Nat := 2 ^ vl - 1

/-- Predicate `n`: P0 reads as all ones (05 R115). -/
def Core.pred (k : Core) (n : Nat) : Nat := if n % 8 = 0 then 2 ^ 64 - 1 else (mapGet (fun _ => 0) k.vxe.p (n % 8)).toNat

/-- Whether the parity of predicate `n` fails. -/
def Core.predBad (k : Core) (n : Nat) : Bool := n % 8 != 0 && mapGet (fun _ => false) k.vxe.badP (n % 8)

/-- A predicate is written; writes to P0 are ignored (05 R115). -/
def Core.setPred (k : Core) (n v : Nat) : Core :=
  if n % 8 = 0 then k
  else
    let k1 := k.zeroP (n % 8)
    { k1 with vxe := { k1.vxe with p := mapSet (fun _ => 0) k1.vxe.p (n % 8) (BitVec.ofNat 64 v) } }

/-- The active lanes of a row: the mask, and whether they are NX inputs because the predicate or the row of the mask plane
that governs them fails parity (05 R119, R143). -/
abbrev Lanes := Nat × Bool

/-- The active lanes of each row of a rectangle. -/
def Job.lanes (j : Job) (eng pm : Nat) (s : Shape) : List Lanes × Job :=
  let all := laneMask s.vl
  if 32 ≤ pm then
    let r := j.read (j.dpa (pm % 32) + 8 * s.r0) (8 * s.nr)
    let one := fun (i : Nat) =>
      if r.2.1.any (fun b => b / 8 == i) then (all, true) else (fieldBytes r.1 (8 * i) 8 &&& all, false)
    ((List.range s.nr).map one, if r.2.1.isEmpty then r.2.2 else r.2.2.flag flagNf)
  else if j.core.predBad pm then (List.replicate s.nr (all, true), j.parity eng true)
  else (List.replicate s.nr (j.core.pred pm &&& all, false), j)

/-- Parity errors in active lanes of a source row are reported. -/
def Job.noteLanes (j : Job) (eng key mask : Nat) : Job :=
  j.parity eng ((List.range 64).any (fun i => inMask mask i && j.core.laneBad key i))

/-- Counters of the VXE (16 Table 16.2): rows, with the flags of the command. -/
def Job.vxeTally (j : Job) (rows : Nat) : Job :=
  j.onDev (fun d =>
    let s := j.c * 8 + 2
    let d1 := d.count s 1 rows
    let d2 := if j.flags / 2 % 2 = 1 then d1.count s 6 1 else d1
    if j.flags % 2 = 1 then d2.count s 7 1 else d2)

/-! ### Element-wise commands (05 R123, R125) -/

/-- One row of an element-wise command: each active lane takes `f` of its inputs, or NX where one of them is. -/
def Job.ewRow (dst : Nat) (srcs : List Nat) (mz : Bool) (f : List Fin2 → Val × Nat) (j : Job) (p : Nat × Lanes) : Job :=
  let ins := srcs.map (fun t => j.core.rowVals (rowKey t p.1))
  let out := (List.range 64).map (fun i =>
    let vs := ins.map (fun r => r.getD i vzero)
    if !inMask p.2.1 i then (vzero, 0) else if p.2.2 || vs.any (fun v => v.isNone) then (none, 0) else f (vs.filterMap id))
  let j1 := srcs.foldl (fun (e : Job) t => e.noteLanes 1 (rowKey t p.1) p.2.1) j
  (j1.putRow (rowKey dst p.1) (out.map (fun o => o.1)) p.2.1 mz).flag (out.foldl (fun m o => orFlags m o.2) 0)

/-- An element-wise command over a rectangle. -/
def Job.ew (j : Job) (dst : Nat) (srcs : List Nat) (pm : Nat) (mz : Bool) (sh : Nat) (f : List Fin2 → Val × Nat) : Job :=
  (j.check [(shapeBad (j.shapeWord sh), 1), (memLvl (j.maskAddr pm), 5)]).go (fun e =>
    let s := e.rect sh dst
    let m := e.lanes 1 pm s
    m.2.go (fun x => ((s.rows.zip m.1).foldl (Job.ewRow dst srcs mz f) x).vxeTally s.nr))

/-- The result of a VOP1 operation but SCALE. -/
def vop1Fn (op : Nat) (a : Fin2) : Fin2 := match op with | 0 => absV a | 1 => negV a | _ => a

/-- The result of a VOP2 operation. -/
def vop2Fn (op : Nat) (a b : Fin2) : Fin2 :=
  match op with
  | 0 => addV a b
  | 1 => subV a b
  | 2 => mulV a b
  | 3 => maxV a b
  | _ => minV a b

/-- The power of two of SCALE: beyond 2^2000 every nonzero value saturates, and below 2^-2000 it rounds to 0, whatever k. -/
def scaleExp (w : W64) : Int := max (-2000) (min 2000 w.toInt)

/-- VOP1 (05 R123). -/
def vop1Run (j : Job) : Job :=
  let op := j.op 0
  j.ew (j.op 1) [j.op 2] (j.op 4) (j.op 5 == 1) (j.op 6) (fun vs =>
    let a := vs.headD (0, 0)
    (some (if op = 3 then mulV a (1, scaleExp (j.cmd.sreg (j.op 3))) else vop1Fn op a), 0))

/-- VOP2 (05 R123). -/
def vop2Run (j : Job) : Job :=
  j.ew (j.op 1) [j.op 2, j.op 3] (j.op 4) (j.op 5 == 1) (j.op 6) (fun vs =>
    (some (vop2Fn (j.op 0) (vs.headD (0, 0)) (vs.getD 1 (0, 0))), 0))

/-- VSF (05 R125, R126). -/
def vsfRun (j : Job) : Job :=
  let r := j.ew (j.op 1) [j.op 2] (j.op 3) (j.op 4 == 1) (j.op 5) (fun vs => sfApply (j.op 0) (vs.headD (0, 0)))
  r.go (fun x => x.onDev (fun d => d.count (j.c * 8 + 2) 3 (j.rect (j.op 5) (j.op 1)).nr))

/-! ### Comparisons, predicates and permutes (05 R121, R122) -/

/-- A condition of VCMP. -/
def cmpFn (cond : Nat) (a b : Fin2) : Bool :=
  match cond with
  | 0 => eqV a b
  | 1 => !eqV a b
  | 2 => ltV a b
  | _ => leV a b

/-- A number with the bits of a list, lowest first. -/
def ofBits : List Bool → Nat
  | [] => 0
  | b :: bs => b2n b + 2 * ofBits bs

/-- VCMP: row R0 of the rectangle. -/
def vcmpRun (j : Job) : Job :=
  let w := j.shapeWord (j.op 5)
  (j.check [(shapeBad w, 1), (memLvl (j.maskAddr (j.op 4)), 5)]).go (fun e =>
    let r0 := bits w 21 16
    let m := e.lanes 1 (j.op 4) { vl := bits w 6 0, nr := 1, r0 := r0 }
    m.2.go (fun x =>
      let ln := m.1.headD (0, false)
      let ka := rowKey (j.op 2) r0
      let kb := rowKey (j.op 3) r0
      let a := x.core.rowVals ka
      let b := x.core.rowVals kb
      let res := (List.range 64).map (fun i =>
        if !inMask ln.1 i then (false, false)
        else match a.getD i vzero, b.getD i vzero with
          | some u, some v => if ln.2 then (false, true) else (cmpFn (j.op 0) u v, false)
          | _, _ => (false, true))
      let x1 := (x.noteLanes 1 ka ln.1).noteLanes 1 kb ln.1
      let x2 := if res.any (fun r => r.2) then x1.flag flagNf else x1
      (x2.onCore (fun k => k.setPred (j.op 1) (ofBits (res.map (fun r => r.1))))).vxeTally 1))

/-- An operation of PLOGIC. -/
def plogicFn (op a b : Nat) : Nat :=
  match op with
  | 0 => a &&& b
  | 1 => a ||| b
  | 2 => a ^^^ b
  | _ => a &&& (2 ^ 64 - 1 - b)

/-- PLOGIC: what a predicate whose parity fails gives is a free value (05 R143; assumption log 2). -/
def plogicRun (j : Job) : Job :=
  let k := j.core
  let bad := k.predBad (j.op 2) || k.predBad (j.op 3)
  let v := if bad then j.d.free.toNat else plogicFn (j.op 0) (k.pred (j.op 2)) (k.pred (j.op 3))
  ((((j.parity 1 bad).onCore (fun e => e.setPred (j.op 1) v))).onDev (fun d => d.useFree (b2n bad))).vxeTally 1

/-- PSET. -/
def psetRun (j : Job) : Job :=
  let n := min 64 (j.num (j.op 1) 6)
  (j.onCore (fun k => k.setPred (j.op 0) (laneMask n))).vxeTally 1

/-- The source lane that a lane control selects; none for c[7:6] ≠ 0 and for a lane at or beyond VL. -/
def permLane (vl : Nat) (t : Int) : Option Nat :=
  let c := (t % 256).toNat
  if 64 ≤ c ∨ vl ≤ c then none else some c

/-- The value that lane control `t` selects: 0 where it selects no lane. -/
def permVal (src : List Val) (vl : Nat) (t : Int) : Val :=
  match permLane vl t with
  | none => vzero
  | some c => src.getD c vzero

/-- VPERM: Vs and Vc are read in full before the write. -/
def vpermRun (j : Job) : Job :=
  let w := j.shapeWord (j.op 4)
  (j.check [(shapeBad w, 1)]).go (fun e =>
    let vl := bits w 6 0
    let m := e.lanes 1 (j.op 3) { vl := vl, nr := 1, r0 := 0 }
    m.2.go (fun x =>
      let ln := m.1.headD (0, false)
      let ks := 256 + j.op 1
      let kc := 256 + j.op 2
      let src := x.core.rowVals ks
      let ctl := x.core.vrow kc
      let out := (List.range 64).map (fun i => if ln.2 || x.core.laneBad kc i then none else permVal src vl (ctl.mant i))
      let used := (List.range 64).filter (fun i => inMask ln.1 i)
      let bad := used.any (fun i =>
        x.core.laneBad kc i || (match permLane vl (ctl.mant i) with | none => false | some c => x.core.laneBad ks c))
      ((x.parity 1 bad).putRow (256 + j.op 0) out ln.1 false).vxeTally 1))

/-- VCLR. -/
def vclrRun (j : Job) : Job :=
  (j.onCore (fun k => k.zeroTr (j.op 0))).vxeTally (if 32 ≤ j.op 0 then 1 else 64)

/-! ### Loads and stores (05 R461, R132) -/

/-- The values of a [nr][64] tensor blocked along its rows of 64: VLD's two layouts put the blocks of a row in the same
order (05 R461). -/
def rowTensor (f : Nat) (bs : List Blk) (i : Nat) : List Val :=
  (List.range (64 / fmtN f)).flatMap (fun b => blkVals f (bs.getD (i * (64 / fmtN f) + b) (0, [])))

/-- VLD. -/
def vldRun (j : Job) : Job :=
  let f := j.op 1
  let mb := j.dpa (2 * j.op 3)
  let eb := j.dpa (2 * j.op 3 + 1)
  (j.check [(shapeBad (j.shapeWord (j.op 4)), 1), (!fmtStored f, 2), (memLvl [mb, eb], 5)]).go (fun e =>
    let s := e.rect (j.op 4) (j.op 0)
    let p := e.blocks f mb eb (s.nr * 64 / fmtN f)
    p.2.go (fun x =>
      ((List.range s.nr).foldl (fun (y : Job) i =>
        y.putRow (rowKey (j.op 0) (s.r0 + i)) (rowTensor f p.1 i) (laneMask s.vl) false) x).vxeTally s.nr))

/-- VLDI: a word whose parity fails makes its lane NX (05 R143). -/
def vldiRun (j : Job) : Job :=
  let a := j.dpa (j.op 1)
  (j.check [(memLvl [a], 5)]).go (fun e =>
    let r := e.read a 256
    r.2.2.go (fun x =>
      let bad := fun (i : Nat) => r.2.1.any (fun b => b / 4 == i)
      let ms := (List.range 64).map (fun i => if bad i then wfNx else sext 32 (fieldBytes r.1 (4 * i) 4))
      let key := 256 + j.op 0
      let x1 := if r.2.1.isEmpty then x else x.flag flagNf
      (x1.onCore (fun k => k.setRow key 0 64 (VRow.setGroup {} 0 512 ms))).vxeTally 1))

/-- Rows of values are stored as a [nr][64] tensor along an axis: the mantissas, then the exponents (05 R132, R133). -/
def Job.store (j : Job) (f axis mb eb : Nat) (rnd : Rnd) (base stride : Nat) (rows : List (List Val)) : Job :=
  let nr := rows.length
  let n := fmtN f
  let out := (List.range (nr * 64 / n)).map (fun b =>
    requant f rnd ((List.range n).map (fun i =>
      let p := blockEl n axis nr 64 b i
      ((rows.getD p.1 []).getD p.2 vzero, base + p.1 * stride + p.2))))
  (((j.flag (blkFlags out)).write mb (mantBytes f out)).write eb (expBytes out))

/-- VST. -/
def vstRun (j : Job) : Job :=
  let f := j.op 1
  let mb := j.dpa (2 * j.op 4)
  let eb := j.dpa (2 * j.op 4 + 1)
  let s := j.rect (j.op 5) (j.op 0)
  let across := fmtStored f && j.op 2 == 1 && s.nr % fmtN f != 0
  (j.check [(shapeBad (j.shapeWord (j.op 5)) || across, 1), (!fmtStored f, 2), (memLvl [mb, eb], 5)]).go (fun e =>
    let keys := s.rows.map (rowKey (j.op 0))
    let rows := keys.map (fun k => e.core.rowVals k)
    let e1 := keys.foldl (fun (x : Job) k => x.noteLanes 1 k (laneMask 64)) e
    let w := j.cmd.sreg (j.op 6 + 1)
    (e1.store f (j.op 2) mb eb (j.rnd (j.op 3) (j.num (j.op 6) 31)) (bits w 31 0) (bits w 63 32) rows).vxeTally s.nr)

/-! ### Soft maximum (05 R128, R129) -/

/-- The value of a bound word, where it is well formed (05 R131). -/
def boundVal (w : W64) : Option Fin2 :=
  let m := sext 32 (bits w 31 0)
  if bits w 63 42 ≠ 0 ∨ m = wfNx then none else some (m, (bits w 41 32 : Int) - 512)

/-- The outputs of a row of finite active inputs, in their order (05 R128). -/
def softMax (c : Fin2) (xs : List Fin2) : List Fin2 :=
  match xs with
  | [] => []
  | x :: r =>
    let m := r.foldl maxV x
    let es := xs.map (fun x =>
      let d := mulV (subV x m) c
      if ltV d (-64, 0) then (0, 0) else ((sfExp2 d).1.getD (0, 0)))
    let q := ((sfRcp (es.foldl addV (0, 0))).1).getD (0, 0)
    es.map (fun e => f24 (mulV e q))

/-- The values of a list put at the active positions in turn. -/
def scatterVals : List Bool → List Val → List Val
  | [], _ => []
  | b :: bs, vs => if b then vs.headD vzero :: scatterVals bs (vs.drop 1) else vzero :: scatterVals bs vs

/-- One row of a soft maximum. -/
def Job.smaxRow (dst src span : Nat) (c : Fin2) (mz : Bool) (j : Job) (p : Nat × Lanes) : Job :=
  let keys := (List.range span).map (fun i => rowKey (src + i) p.1)
  let xs := keys.flatMap (fun k => j.core.rowVals k)
  let act := (List.range (64 * span)).map (fun i => inMask p.2.1 (i % 64))
  let ins := ((List.range (64 * span)).filter (fun i => inMask p.2.1 (i % 64))).map (fun i => xs.getD i vzero)
  let out : List Val :=
    if p.2.2 || ins.any (fun v => v.isNone) then ins.map (fun _ => none) else (softMax c (ins.filterMap id)).map some
  let vals := scatterVals act out
  let j1 := keys.foldl (fun (e : Job) k => e.noteLanes 1 k p.2.1) j
  (List.range span).foldl (fun (e : Job) i =>
    e.putRow (rowKey (dst + i) p.1) ((vals.drop (64 * i)).take 64) p.2.1 mz) j1

/-- Whether a TR operand of a soft maximum is outside R128. -/
def spanBad (tr span : Nat) : Bool := if 32 ≤ tr then span != 1 else decide (4 < tr % 4 + span)

/-- VSMAX. -/
def vsmaxRun (j : Job) : Job :=
  let span := j.op 2
  let c := boundVal (j.cmd.sreg (j.op 3))
  let badSpan := (span != 1 && span != 2 && span != 4) || spanBad (j.op 0) span || spanBad (j.op 1) span
  let badC := match c with | none => true | some v => decide (v.1 < 0)
  (j.check [(shapeBad (j.shapeWord (j.op 6)) || badSpan, 1), (badC, 3), (memLvl (j.maskAddr (j.op 4)), 5)]).go (fun e =>
    let s := e.rect (j.op 6) (j.op 0)
    let m := e.lanes 1 (j.op 4) s
    m.2.go (fun x =>
      let r := (s.rows.zip m.1).foldl (Job.smaxRow (j.op 0) (j.op 1) span (c.getD (0, 0)) (j.op 5 == 1)) x
      (r.vxeTally s.nr).onDev (fun d => d.count (j.c * 8 + 2) 3 s.nr)))

/-! ### The fused epilogue (04 R102; 05 R131 to R133) -/

/-- Operand `i` of the EXT word. -/
def Job.ext (j : Job) (i : Nat) : Nat := extOpnd j.cmd.ext i

/-- The rows of u that the rectangle covers: whole blocks that hold a column below VL (05 R131). -/
def Job.epiRows (j : Job) (f mb eb nr vl : Nat) : List (List Val) × Job :=
  let per := 64 / fmtN f
  let nb := ceilDiv vl (fmtN f)
  if nb = per then
    let p := j.blocks f mb eb (nr * per)
    ((List.range nr).map (rowTensor f p.1), p.2)
  else
    (List.range nr).foldl (fun (a : List (List Val) × Job) i =>
      let p := a.2.blocks f (mb + i * per * fmtBytes f) (eb + i * per) nb
      (a.1 ++ [p.1.flatMap (blkVals f)], p.2)) ([], j)

/-- Steps 2 and 3 of R102. -/
def epiVal (op : Nat) (clamp : Option (Fin2 × Fin2)) (v u : Val) : Val :=
  let w : Val := match op, v, u with
    | 0, a, _ => a
    | 1, some a, some b => some (addV a b)
    | _, some a, some b => some (mulV a b)
    | _, _, _ => none
  match w, clamp with
  | some a, some b => some (minV (maxV a b.1) b.2)
  | a, _ => a

/-- Element (r, c) of an accumulator as a value (04 R102). -/
def AcTile.val (t : AcTile) (r c : Nat) : Val :=
  let a := mapGet (fun _ => 0) t.els (r * 64 + c)
  if a = accNx then none else if a = 0 then vzero else some (a, (t.t : Int) - 512)

/-- The clamp bounds of a VEPI: none without a clamp, and whether they are malformed. -/
def Job.epiClamp (j : Job) : Option (Fin2 × Fin2) × Bool :=
  if j.op 4 = 1 then
    match boundVal (j.cmd.sreg (j.op 5)), boundVal (j.cmd.sreg (j.op 5 + 1)) with
    | some lo, some hi => (some (lo, hi), ltV hi lo)
    | _, _ => (none, true)
  else (none, false)

/-- The DPAs that a VEPI names. -/
def Job.epiAddrs (j : Job) : List Nat :=
  let b := 2 * j.ext 2
  (if j.op 1 = 0 then [] else [j.dpa (2 * j.op 3), j.dpa (2 * j.op 3 + 1)]) ++
  (if j.op 6 = 1 then [] else [j.dpa b, j.dpa (b + 1)] ++ (if j.ext 3 = 1 then [j.dpa (b + 2), j.dpa (b + 3)] else []))

/-- The checks of a VEPI in their order of code. -/
def Job.epiChecks (j : Job) : List (Bool × Nat) :=
  let s := j.rect (j.op 8) 0
  let mem := j.op 6 == 0
  let f := j.ext 0
  let across := mem && fmtStored f && (j.ext 1 == 1 || j.ext 3 == 1) && s.nr % fmtN f != 0
  [(shapeBad (j.shapeWord (j.op 8)) || across, 1),
   ((j.op 1 != 0 && !fmtStored (j.op 2)) || (mem && !fmtStored f), 2),
   (j.epiClamp.2, 3), (memLvl j.epiAddrs, 5)]

/-- VEPI's output: a tile buffer, or one or two copies in memory. -/
def Job.epiOut (j : Job) (s : Shape) (rows : List (List Val)) : Job :=
  if j.op 6 = 1 then
    (List.range s.nr).foldl (fun (e : Job) i =>
      e.putRow (rowKey (j.op 7) (s.r0 + i)) (rows.getD i []) (laneMask s.vl) false) j
  else
    let b := 2 * j.ext 2
    let w := j.cmd.sreg (j.ext 5 + 1)
    let tid := j.num (j.ext 5) 31
    let one := fun (e : Job) axis k t =>
      e.store (j.ext 0) axis (j.dpa (b + k)) (j.dpa (b + k + 1)) (j.rnd (j.ext 4) t) (bits w 31 0) (bits w 63 32) rows
    let j1 := one j (j.ext 1) 0 tid
    if j.ext 3 = 1 then j1.go (fun e => one e (1 - j.ext 1) 2 (tid + 1)) else j1

/-- VEPI. -/
def vepiRun (j : Job) : Job :=
  (j.check j.epiChecks).go (fun e =>
    let s := e.rect (j.op 8) 0
    let u := if j.op 1 = 0 then ([], e) else e.epiRows (j.op 2) (j.dpa (2 * j.op 3)) (j.dpa (2 * j.op 3 + 1)) s.nr s.vl
    u.2.go (fun x =>
      let t := x.core.acRead (j.op 0)
      let bad := x.core.mxe.badAc.any (fun p => p.2 && p.1 / 4096 == j.op 0 && s.rows.contains (p.1 % 4096 / 64) &&
        decide (p.1 % 64 < s.vl))
      let rows := (List.range s.nr).map (fun i => (List.range 64).map (fun c =>
        if s.vl ≤ c then vzero
        else epiVal (j.op 1) j.epiClamp.1 (t.val (s.r0 + i) c) ((u.1.getD i []).getD c vzero)))
      (((x.parity 1 bad).epiOut s rows).vxeTally s.nr).onDev (fun d => d.count (j.c * 8 + 2) 2 s.nr)))

/-! ### The commands -/

/-- VLD (05 R461). -/
def execVld (core : CoreId) (q : EngQueue) (s : State) : Host.Outcome State Fault Refusal :=
  s.run (fun d => d.engineRow core q 1 0 vldRun)

/-- VLDI (05 R461). -/
def execVldi (core : CoreId) (q : EngQueue) (s : State) : Host.Outcome State Fault Refusal :=
  s.run (fun d => d.engineRow core q 1 1 vldiRun)

/-- VST (05 R461). -/
def execVst (core : CoreId) (q : EngQueue) (s : State) : Host.Outcome State Fault Refusal :=
  s.run (fun d => d.engineRow core q 1 2 vstRun)

/-- VOP1 (05 R123). -/
def execVop1 (core : CoreId) (q : EngQueue) (s : State) : Host.Outcome State Fault Refusal :=
  s.run (fun d => d.engineRow core q 1 3 vop1Run)

/-- VOP2 (05 R123). -/
def execVop2 (core : CoreId) (q : EngQueue) (s : State) : Host.Outcome State Fault Refusal :=
  s.run (fun d => d.engineRow core q 1 4 vop2Run)

/-- VCMP (05 R122). -/
def execVcmp (core : CoreId) (q : EngQueue) (s : State) : Host.Outcome State Fault Refusal :=
  s.run (fun d => d.engineRow core q 1 5 vcmpRun)

/-- PLOGIC (05 R122). -/
def execPlogic (core : CoreId) (q : EngQueue) (s : State) : Host.Outcome State Fault Refusal :=
  s.run (fun d => d.engineRow core q 1 6 plogicRun)

/-- PSET (05 R122). -/
def execPset (core : CoreId) (q : EngQueue) (s : State) : Host.Outcome State Fault Refusal :=
  s.run (fun d => d.engineRow core q 1 7 psetRun)

/-- VPERM (05 R121). -/
def execVperm (core : CoreId) (q : EngQueue) (s : State) : Host.Outcome State Fault Refusal :=
  s.run (fun d => d.engineRow core q 1 8 vpermRun)

/-- VSF (05 R125). -/
def execVsf (core : CoreId) (q : EngQueue) (s : State) : Host.Outcome State Fault Refusal :=
  s.run (fun d => d.engineRow core q 1 9 vsfRun)

/-- VSMAX (05 R128). -/
def execVsmax (core : CoreId) (q : EngQueue) (s : State) : Host.Outcome State Fault Refusal :=
  s.run (fun d => d.engineRow core q 1 10 vsmaxRun)

/-- VEPI (05 R131). -/
def execVepi (core : CoreId) (q : EngQueue) (s : State) : Host.Outcome State Fault Refusal :=
  s.run (fun d => d.engineRow core q 1 11 vepiRun)

/-- VCLR (05 R145). -/
def execVclr (core : CoreId) (q : EngQueue) (s : State) : Host.Outcome State Fault Refusal :=
  s.run (fun d => d.engineRow core q 1 12 vclrRun)

end Sys2Proof.Machine
end

