-- ==== Sys2Proof/Machine/Rdu.lean ====
section
/-! DEFINITION. The reduction unit (05 R134 to R138): the accumulation rule, records, and its commands but RTX. -/

namespace Sys2Proof.Machine

/-! ### The accumulation rule (05 R134, R135) -/

/-- A contribution (q, e), worth q x 2^(e - 2048); none is NX. -/
abbrev Term := Option (Int × Int)

/-- The largest magnitude of s. -/
def r64Max : Nat := 2 ^ 63 - 1

/-- A sum in progress: s, X, and whether a nonzero bit was dropped. -/
structure Sum64 where
  s : Int
  x : Int
  lost : Bool
  deriving DecidableEq, Repr

/-- X is raised by the least k for which the rounded sum fits (R135, step 3). -/
def raiseSum (a : Sum64) : Sum64 :=
  if a.s.natAbs ≤ r64Max then a
  else
    let k := log2Floor a.s.natAbs - 62
    let k1 := if (rneShift a.s k).natAbs ≤ r64Max then k else k + 1
    { s := rneShift a.s k1, x := a.x + k1, lost := a.lost || dropsBits a.s k1 }

/-- One finite contribution is added (R135, steps 2 to 4). -/
def addTerm (a : Sum64) (t : Int × Int) : Sum64 :=
  if t.1 = 0 then a
  else if a.x ≤ t.2 then raiseSum { a with s := a.s + t.1 * 2 ^ (t.2 - a.x).toNat }
  else
    let k := (a.x - t.2).toNat
    raiseSum { a with s := a.s + rneShift t.1 k, lost := a.lost || dropsBits t.1 k }

/-- The sum of finite contributions in their order (R135). -/
def sumTerms (ts : List (Int × Int)) : Sum64 :=
  match ((ts.filter (fun t => t.1 ≠ 0)).map (fun t => t.2)).min? with
  | none => { s := 0, x := 0, lost := false }
  | some x => ts.foldl addTerm { s := 0, x := x, lost := false }

/-- The square of a contribution. -/
def sqTerm (t : Int × Int) : Int × Int := (t.1 * t.1, 2 * t.2 - 2048)

/-- A contribution as a value. -/
def termVal (t : Int × Int) : Fin2 := (t.1, t.2 - 2048)

/-- A sum as a value. -/
def Sum64.val (a : Sum64) : Val := if a.s = 0 then vzero else some (a.s, a.x - 2048)

/-! ### Partials and records (05 R134) -/

/-- RAn. -/
def Core.ra (k : Core) (n : Nat) : RaPart := mapGet (fun _ => {}) k.vxe.ra n

/-- Whether the parity of RAn fails. -/
def Core.raBad (k : Core) (n : Nat) : Bool := mapGet (fun _ => false) k.vxe.badRa n

/-- RAn as a command reads it: a partial whose parity fails is NX (05 R143). -/
def Core.raRead (k : Core) (n : Nat) : RaPart :=
  let r := k.ra n
  { r with nx := r.nx || k.raBad n }

/-- RAn is written. -/
def Core.setRa (k : Core) (n : Nat) (r : RaPart) : Core :=
  let k1 := k.zeroRa n
  { k1 with vxe := { k1.vxe with ra := mapSet (fun _ => {}) k1.vxe.ra n r } }

/-- The flags byte of a record. -/
def RaPart.flagBits (r : RaPart) : Nat := b2n r.nx + 2 * b2n r.empty + 4 * b2n r.inexact

/-- The 16 bytes of a record. -/
def RaPart.record (r : RaPart) : List Byte :=
  toBytes 8 (r.s % 2 ^ 64).toNat ++ toBytes 2 (r.x % 4096) ++ toBytes 1 r.flagBits ++ toBytes 1 0 ++ toBytes 4 r.cnt.toNat

/-- A record read back. -/
def RaPart.ofRecord (bs : List Byte) : RaPart :=
  let f := fieldBytes bs 10 1
  let s := sext 64 (fieldBytes bs 0 8)
  let x := fieldBytes bs 8 2 % 4096
  { s := s, x := x, nx := f % 2 == 1, empty := f / 2 % 2 == 1, inexact := f / 4 % 2 == 1, cnt := BitVec.ofNat 32 (fieldBytes bs 12 4) }

/-- A nonzero bit was dropped: RDU_STATUS.INEXACT, with the context (05 R135, R147). -/
def Job.inexact (j : Job) (b : Bool) : Job :=
  if b then j.onDev (fun d => (d.setRbit (.rduStatus j.c) 8 true).setRbits (.rduStatus j.c) 15 9 j.cmd.ctx) else j

/-- Counters of the RDU (16 Table 16.2). -/
def Job.rduTally (j : Job) (els : Nat) (lost : Bool) : Job :=
  j.onDev (fun d =>
    let d1 := d.count (j.c * 8 + 3) 1 els
    if lost then d1.count (j.c * 8 + 3) 4 1 else d1)

/-- A result of free value: what s, and for an extreme X too, hold beside NX has no meaning (05 R135; assumption log 2). -/
def Dev.freeSum (d : Dev) : Int := d.free.toInt

/-! ### Sources (05 R134, R136, R191) -/

/-- The contribution of lane `i` of a row. -/
def Core.laneTerm (k : Core) (key i : Nat) : Term :=
  let r := k.vrow key
  let t := r.mant i
  if k.laneBad key i ∨ t = wfNx then none else some (t, (r.exp i : Int) + 1536)

/-- The contributions of a stored block at its stored scale. -/
def blkTerms (f : Nat) (b : Blk) : List Term :=
  b.2.map (fun code =>
    let e : Int := (b.1 : Int) - fmtBias f + 2048
    if b.1 = 0 then some (0, e)
    else if b.1 = 255 then none
    else
      let m := rawEl f code
      if m.2 then none else some (m.1, e))

/-- A source's elements, row by row: position and contribution. -/
abbrev Elems := List (List (Nat × Term))

/-- The active elements of a row of a rectangle. -/
def Job.rowElems (j : Job) (tr : Nat) (p : Nat × Lanes) : List (Nat × Term) :=
  let key := rowKey tr p.1
  let pos := if 32 ≤ tr then 0 else p.1 * 64
  ((List.range 64).filter (fun i => inMask p.2.1 i)).map (fun i =>
    (pos + i, if p.2.2 then none else j.core.laneTerm key i))

/-- The active elements of a rectangle, a V register standing for every row. -/
def Job.rectElems (j : Job) (tr pm : Nat) (s : Shape) : Elems × Job :=
  let m := j.lanes 2 pm s
  let rows := s.rows.zip m.1
  let seen := rows.foldl (fun (e : Job) p => e.noteLanes 2 (rowKey tr p.1) p.2.1) m.2
  (rows.map (j.rowElems tr), if m.2.fin.isSome then m.2 else seen)

/-- The elements of a tensor of n elements: one row. -/
def Job.tensorElems (j : Job) (f mb eb n : Nat) : Elems × Job :=
  let p := j.blocks f mb eb (n / fmtN f)
  let ts := p.1.flatMap (blkTerms f)
  ([(List.range ts.length).zip ts], p.2)

/-! ### RSUM, RMAX, RMIN, RSSQ (05 R136) -/

/-- The pair number of a memory source. -/
def Job.rduPair (j : Job) : Nat := 2 * (j.op 1 % 16)

/-- n of a memory source. -/
def Job.rduLen (j : Job) : Nat := (j.cmd.sreg (j.rduPair + 2)).toNat

/-- The checks of a reduction in their order of code. -/
def Job.reduceChecks (j : Job) : List (Bool × Nat) :=
  let f := j.op 2
  let out := if j.op 4 = 1 ∧ j.op 3 = 0 then [j.dpa (j.op 5)] else []
  if j.op 0 = 1 then
    [(j.rduLen == 0 || (fmtStored f && j.rduLen % fmtN f != 0), 1), (!fmtStored f, 2),
     (memLvl ([j.dpa j.rduPair, j.dpa (j.rduPair + 1)] ++ out), 5)]
  else [(shapeBad (j.shapeWord (j.op 8)), 1), (memLvl (j.maskAddr (j.op 7) ++ out), 5)]

/-- The source's elements and the first row of the rectangle. A V register source keeps the rows that the shape word names
(05 R120). -/
def Job.reduceSource (j : Job) : Elems × Nat × Job :=
  if j.op 0 = 1 then
    let r := j.tensorElems (j.op 2) (j.dpa j.rduPair) (j.dpa (j.rduPair + 1)) j.rduLen
    (r.1, 0, r.2)
  else
    let s := j.rect (j.op 8) 0
    let r := j.rectElems (j.op 1) (j.op 7) s
    (r.1, s.r0, r.2)

/-- The partial that a command with ACC = 1 combines with: RAn, or the record at the DPA in S t. -/
def Job.oldPart (j : Job) : Option RaPart × Job :=
  if j.op 6 = 0 then (none, j)
  else if j.op 4 = 1 then
    let r := j.read (j.dpa (j.op 5)) 16
    if r.2.1.isEmpty then (some (RaPart.ofRecord r.1), r.2.2)
    else (some { RaPart.ofRecord r.1 with nx := true }, r.2.2.flag flagNf)
  else (some (j.core.raRead (j.op 5 % 8)), j.parity 2 (j.core.raBad (j.op 5 % 8)))

/-- RSUM and RSSQ of contributions with a partial: the result, and whether the command itself dropped bits. -/
def sumPart (free : Int) (sq : Bool) (ts : List Term) (old : Option RaPart) : RaPart × Bool :=
  let fin := (ts.filterMap id).map (fun t => if sq then sqTerm t else t)
  let r := sumTerms ((match old with | some o => [(o.s, (o.x : Int))] | none => []) ++ fin)
  let o := old.getD {}
  let nx := ts.any (fun t => t.isNone) || o.nx
  let s := if nx then free else r.s
  ({ s := s, x := r.x.toNat, nx := nx, inexact := r.lost || o.inexact, cnt := o.cnt + BitVec.ofNat 32 fin.length }, r.lost)

/-- The element of extreme value and lowest position. -/
def extremeOf (mx : Bool) (ts : List (Nat × Int × Int)) : Option (Nat × Int × Int) :=
  ts.foldl (fun best t =>
    match best with
    | none => some t
    | some b =>
      let a := termVal t.2
      let c := termVal b.2
      if (if mx then ltV c a else ltV a c) then some t else some b) none

/-- RMAX and RMIN of elements with a partial. A partial that is beaten leaves nothing of itself, its INEXACT bit included
(DEDUCED, assumption log 39). -/
def extremePart (free : Int) (freeX : Nat) (mx : Bool) (ts : List (Nat × Term)) (old : Option RaPart) : RaPart :=
  let held := (old.map (fun o => o.nx)).getD false
  match ts.find? (fun t => t.2.isNone) with
  | some t => if held then old.getD {} else { s := free, x := freeX, nx := true, cnt := BitVec.ofNat 32 t.1 }
  | none =>
    if held then old.getD {}
    else
      let best := extremeOf mx (ts.filterMap (fun t => t.2.map (fun v => (t.1, v))))
      let mine : RaPart := match best with
        | none => { empty := true, cnt := 0xFFFFFFFF#32 }
        | some b => { s := b.2.1, x := b.2.2.toNat, cnt := BitVec.ofNat 32 b.1 }
      match old with
      | none => mine
      | some o =>
        if o.empty then mine
        else
          let v : Fin2 := (o.s, (o.x : Int) - 2048)
          match best with
          | none => o
          | some b => if (if mx then ltV v (termVal b.2) else ltV (termVal b.2) v) then mine else o

/-- The result of a reduction goes to RAn or to memory. -/
def Job.putPart (j : Job) (r : RaPart) : Job :=
  if j.op 4 = 1 then j.write (j.dpa (j.op 5)) r.record else j.onCore (fun k => k.setRa (j.op 5 % 8) r)

/-- AXIS = ALL: sums (op 0 and 3) and extremes (1 and 2). -/
def Job.reduceAll (j : Job) (op : Nat) (els : Elems) : Job :=
  let o := j.oldPart
  o.2.go (fun x =>
    let all := els.flatten
    let p : RaPart × Bool :=
      if op = 1 ∨ op = 2 then (extremePart x.d.freeSum (x.d.free.toNat % 4096) (op == 1) all o.1, false)
      else sumPart x.d.freeSum (op == 3) (all.map (fun e => e.2)) o.1
    let x1 := if p.1.nx then (x.flag flagNf).onDev (fun d => d.useFree 1) else x
    ((x1.inexact p.2).putPart p.1).rduTally all.length p.2)

/-- AXIS = LANES: the sum of row R0 + i goes to lane R0 + i of Vd under R117, the old lane first with ACC = 1. -/
def Job.reduceLanes (j : Job) (els : Elems) (r0 : Nat) : Job :=
  let key := 256 + j.op 5
  let acc := j.op 6 == 1
  let rows := (List.range els.length).map (fun i =>
    let ts := (if acc then [j.core.laneTerm key (r0 + i)] else []) ++ (els.getD i []).map (fun e => e.2)
    let r := sumTerms (ts.filterMap id)
    (if ts.any (fun t => t.isNone) then none else r.val, r.lost))
  let mask := laneMask els.length * 2 ^ r0
  let lost := rows.any (fun r => r.2)
  let j1 := if acc then j.noteLanes 2 key mask else j
  let vals := List.replicate r0 vzero ++ rows.map (fun r => r.1)
  ((j1.putRow key vals mask false).inexact lost).rduTally els.flatten.length lost

/-- RSUM, RMAX, RMIN and RSSQ. -/
def reduceRun (op : Nat) (j : Job) : Job :=
  (j.check j.reduceChecks).go (fun e =>
    let s := e.reduceSource
    s.2.2.go (fun x => if j.op 3 = 1 then x.reduceLanes s.1 s.2.1 else x.reduceAll op s.1))

/-! ### RSEG (05 R137) -/

/-- The value of a segment's lane: zero for no rows. -/
def segVal (op : Nat) (ts : List Term) : Val × Bool :=
  if ts.any (fun t => t.isNone) then (none, false)
  else
    let fin := ts.filterMap id
    if op = 0 then
      let r := sumTerms fin
      (r.val, r.lost)
    else
      match fin.map termVal with
      | [] => (vzero, false)
      | v :: vs => (some (vs.foldl (if op = 1 then maxV else minV) v), false)

/-- Whether segment IDs break R137. -/
def segOrderBad (ids : List Nat) : Bool :=
  (ids.zip (ids.drop 1)).any (fun p => decide (p.2 < p.1)) || decide (63 < ids.getLastD 0 - ids.headD 0)

/-- RSEG. -/
def rsegRun (j : Job) : Job :=
  let a := j.dpa (j.op 3)
  (j.check [(shapeBad (j.shapeWord (j.op 4)), 1), (memLvl [a], 5)]).go (fun e =>
    let s := e.rect (j.op 4) 0
    let r := e.read a (4 * s.nr)
    r.2.2.go (fun x =>
      let ids := (List.range s.nr).map (fun i => fieldBytes r.1 (4 * i) 4)
      (x.check [(r.2.1.isEmpty && segOrderBad ids, 4), (!r.2.1.isEmpty, 7)]).go (fun y =>
        let id0 := ids.headD 0
        let mask := laneMask s.vl
        let keys := s.rows.map (rowKey (j.op 2))
        let src := keys.map (fun k => (List.range s.vl).map (y.core.laneTerm k))
        let y1 := keys.foldl (fun (z : Job) k => z.noteLanes 2 k mask) y
        let segs := (List.range (ids.getLastD 0 - id0 + 1)).map (fun k =>
          let rows := ((ids.zip src).filter (fun p => p.1 - id0 == k)).map (fun p => p.2)
          (List.range s.vl).map (fun i => segVal (j.op 0) (rows.map (fun r => r.getD i (some (0, 0))))))
        let lost := segs.any (fun g => g.any (fun v => v.2))
        let y2 := (List.range segs.length).foldl (fun (z : Job) k =>
          z.putRow (rowKey (j.op 1) k) ((segs.getD k []).map (fun v => v.1)) mask false) y1
        (y2.inexact lost).rduTally (s.nr * s.vl) lost)))

/-! ### RNOISE (05 R138) -/

/-- A value at 31 significant bits as a contribution: mantissa at the step 2^(k - 30) of R124 (assumption log 39). -/
def f31Term (a : Fin2) : Int × Int :=
  if a.1 = 0 then (0, 0)
  else
    let k := a.2 + log2Floor a.1.natAbs
    let r := roundSig 30 a
    (if k - 30 ≤ r.2 then r.1 * 2 ^ (r.2 - (k - 30)).toNat else r.1, 2048 + (min (k - 30) r.2))

/-- The gradients' contributions, microbatch by microbatch. -/
def Job.gradients (j : Job) (f n : Nat) : List (List Term) × Job :=
  let stride := (j.cmd.sreg (j.op 3)).toNat
  (List.range (j.op 1)).foldl (fun (a : List (List Term) × Job) b =>
    let place := fun r => (j.dpa r + b * stride) % 2 ^ 48
    let p := a.2.tensorElems f (place (2 * j.op 2)) (place (2 * j.op 2 + 1)) n
    (a.1 ++ [p.1.flatten.map (fun e => e.2)], p.2)) ([], j)

/-- Element k's sum over the microbatches, rounded by F31; NX where one of them is. -/
def noiseTerm (gs : List (List Term)) (k : Nat) : Term :=
  let ts := gs.map (fun g => g.getD k (some (0, 0)))
  if ts.any (fun t => t.isNone) then none
  else some (f31Term (((ts.filterMap id).map termVal).foldl addV (0, 0)))

/-- A record of squared contributions; the spec states no count for it, so it is a free value (assumption log 39). -/
def noiseRecord (ctr : Nat) (ts : List Term) : RaPart × Bool :=
  let p := sumPart (Config.freeWord ctr).toInt true ts none
  ({ p.1 with cnt := (Config.freeWord (ctr + 1)).setWidth 32 }, p.2)

/-- RNOISE. -/
def rnoiseRun (j : Job) : Job :=
  let f := j.op 0
  let b := j.op 1
  let n := (j.cmd.sreg (j.op 3 + 1)).toNat
  let out := j.dpa (j.op 4)
  let stride := (j.cmd.sreg (j.op 3)).toNat
  let srcs := (List.range b).flatMap (fun i =>
    [(j.dpa (2 * j.op 2) + i * stride) % 2 ^ 48, (j.dpa (2 * j.op 2 + 1) + i * stride) % 2 ^ 48])
  let badLen := b < 2 || 64 < b || n == 0 || (fmtStored f && n % fmtN f != 0)
  (j.check [(badLen, 1), (f != fG16 && f != fBG8, 2), (memLvl (srcs ++ [out]), 5)]).go (fun e =>
    let g := e.gradients f n
    g.2.go (fun x =>
      let sets := g.1 ++ [(List.range n).map (noiseTerm g.1)]
      let recs := (List.range sets.length).map (fun i => noiseRecord (x.d.freeCtr + 2 * i) (sets.getD i []))
      let lost := recs.any (fun r => r.2)
      let x1 := x.onDev (fun d => d.useFree (2 * sets.length))
      let x2 := if recs.any (fun r => r.1.nx) then x1.flag flagNf else x1
      ((x2.inexact lost).write out (recs.flatMap (fun r => r.1.record))).rduTally (b * n) lost))

/-! ### RST, RCLR -/

/-- RST. -/
def rstRun (j : Job) : Job :=
  let a := j.dpa (j.op 1)
  (j.check [(memLvl [a], 5)]).go (fun e =>
    let r := e.core.raRead (j.op 0)
    (e.parity 2 (e.core.raBad (j.op 0))).write a r.record)

/-- RCLR. -/
def rclrRun (j : Job) : Job := j.onCore (fun k => k.zeroRa (j.op 0))

/-! ### The commands -/

/-- RSUM (05 R136). -/
def execRsum (core : CoreId) (q : EngQueue) (s : State) : Host.Outcome State Fault Refusal :=
  s.run (fun d => d.engineRow core q 2 0 (reduceRun 0))

/-- RMAX (05 R136). -/
def execRmax (core : CoreId) (q : EngQueue) (s : State) : Host.Outcome State Fault Refusal :=
  s.run (fun d => d.engineRow core q 2 1 (reduceRun 1))

/-- RMIN (05 R136). -/
def execRmin (core : CoreId) (q : EngQueue) (s : State) : Host.Outcome State Fault Refusal :=
  s.run (fun d => d.engineRow core q 2 2 (reduceRun 2))

/-- RSSQ (05 R136). -/
def execRssq (core : CoreId) (q : EngQueue) (s : State) : Host.Outcome State Fault Refusal :=
  s.run (fun d => d.engineRow core q 2 3 (reduceRun 3))

/-- RSEG (05 R137). -/
def execRseg (core : CoreId) (q : EngQueue) (s : State) : Host.Outcome State Fault Refusal :=
  s.run (fun d => d.engineRow core q 2 4 rsegRun)

/-- RNOISE (05 R138). -/
def execRnoise (core : CoreId) (q : EngQueue) (s : State) : Host.Outcome State Fault Refusal :=
  s.run (fun d => d.engineRow core q 2 5 rnoiseRun)

/-- RST (05 R145). -/
def execRst (core : CoreId) (q : EngQueue) (s : State) : Host.Outcome State Fault Refusal :=
  s.run (fun d => d.engineRow core q 2 7 rstRun)

/-- RCLR (05 R145). -/
def execRclr (core : CoreId) (q : EngQueue) (s : State) : Host.Outcome State Fault Refusal :=
  s.run (fun d => d.engineRow core q 2 8 rclrRun)

end Sys2Proof.Machine
end

