-- ==== Sys2Proof/Machine/Gse.lean ====
section
/-! DEFINITION. The gather-scatter engine (06): row tables, index streams, local and remote rows, the ordered combine, ragged
sequences, sets, and its commands. -/

namespace Sys2Proof.Machine

/-! ### Row tables (06 R148 to R150) -/

/-- A loaded table descriptor (06 Table 6.1). -/
structure GTab where
  remote : Bool
  dev : Nat
  mbase : Nat
  ebase : Nat
  rows : Nat
  rb : Nat
  kind : Bool
  fmt : Nat
  deriving DecidableEq, Repr

/-- The fields of a descriptor's 32 bytes. -/
def tabOf (bs : List Byte) : GTab :=
  let q := fieldBytes bs 0 8
  let f := fieldBytes bs 21 1
  let rb := (fieldBytes bs 20 1 % 32 + 1) * 32
  { remote := q / 2 ^ 57 % 2 == 1, dev := q / 2 ^ 48 % 512, mbase := q % 2 ^ 48, ebase := fieldBytes bs 8 8 % 2 ^ 48,
    rows := fieldBytes bs 16 4, rb := rb, kind := f / 8 % 2 == 1, fmt := f % 8 }

/-- Whether R149 refuses a descriptor. -/
def tabBad (bs : List Byte) : Bool :=
  let t := tabOf bs
  let q := fieldBytes bs 0 8
  q / 2 ^ 58 != 0 || fieldBytes bs 8 8 / 2 ^ 48 != 0 || fieldBytes bs 20 1 / 32 != 0 || fieldBytes bs 21 1 / 16 != 0 ||
    fieldBytes bs 22 10 != 0 || t.rows == 0 || t.mbase % 32 != 0 ||
    (t.kind && (!fmtStored t.fmt || t.rb % fmtBytes t.fmt != 0))

/-- Blocks per row: none in a raw table. -/
def GTab.bpr (t : GTab) : Nat := if t.kind then t.rb / fmtBytes t.fmt else 0

/-- The DPAs of row `i`: mantissas or bytes, and exponents (06 R150). -/
def GTab.addr (t : GTab) (i : Nat) : Nat × Nat := ((t.mbase + i * t.rb) % 2 ^ 48, (t.ebase + i * t.bpr) % 2 ^ 48)

/-- The DPAs of row `i` of a contiguous region of the table's geometry. -/
def GTab.region (t : GTab) (mb eb i : Nat) : Nat × Nat := ((mb + i * t.rb) % 2 ^ 48, (eb + i * t.bpr) % 2 ^ 48)

/-- A row: its mantissas or bytes, and its exponents. -/
abbrev Row := List Byte × List Byte

/-- A zero row (06 R151). -/
def GTab.zeroRow (t : GTab) : Row := (List.replicate t.rb 0, List.replicate t.bpr 0)

/-- The poisoned block's mantissa bytes. -/
def poisonBytes (f : Nat) : List Byte := codeBytes f (poisonBlock f (fmtN f)).codes

/-- A row of poisoned blocks (06 R172). -/
def GTab.poisonRow (t : GTab) : Row := ((List.range t.bpr).flatMap (fun _ => poisonBytes t.fmt), List.replicate t.bpr 255)

/-- The blocks of a row. -/
def GTab.blocks (t : GTab) (r : Row) : List Blk :=
  (List.range t.bpr).map (fun k =>
    ((r.2.getD k 0).toNat, blkCodes t.fmt (sliceBytes r.1 (k * fmtBytes t.fmt) (fmtBytes t.fmt))))

/-- Slot `n`, where it is loaded. -/
def Core.tab (k : Core) (n : Nat) : Option GTab :=
  let bs := mapGet (fun _ => []) k.gse.tabs n
  if bs.isEmpty then none else some (tabOf bs)

/-- Slot `n` takes a descriptor; no bytes leave it unloaded. -/
def Core.setTab (k : Core) (n : Nat) (bs : List Byte) : Core :=
  { k with gse := { k.gse with tabs := mapSet (fun _ => []) k.gse.tabs n bs } }

/-! ### Flags, positions and counters -/

/-- A flag of GSE_STATUS is set, with the context (06). -/
def Job.gseFlag (j : Job) (i : Nat) (b : Bool) : Job :=
  if b then j.onDev (fun d => (d.setRbit (.gseStatus j.c) i true).setRbits (.gseStatus j.c) 23 17 j.cmd.ctx) else j

/-- The position and the index of a failure (06 R158); an index that could not be read is a free value (assumption
log 40). -/
def Job.notePos (j : Job) (p : Nat) (idx : Option Nat) : Job :=
  let j1 := j.onDev (fun d => d.setRegN (.gseErrpos j.c) (p % 2 ^ 24))
  match idx with
  | some i => j1.onDev (fun d => d.setRegN (.gseErridx j.c) (i % 2 ^ 32))
  | none => j1.onDev (fun d => (d.setRegN (.gseErridx j.c) (d.free.toNat % 2 ^ 32)).useFree 1)

/-- A failure of the step from `old` to `j` is noted with its position. -/
def Job.noteFail (j : Job) (old : Job) (p : Nat) (idx : Option Nat) : Job :=
  if j.fin.isSome && old.fin.isNone then j.notePos p idx else j

/-- A counter of the GSE (16 Table 16.2). -/
def Job.gseCount (j : Job) (i n : Nat) : Job := j.onDev (fun d => d.count (j.c * 8 + 4) i n)

/-! ### Rows (06 R150, R172) -/

/-- A local row of the table's geometry is read: a block with a wrong byte arrives poisoned, a raw row ends the command. -/
def Job.readRow (j : Job) (t : GTab) (a : Nat × Nat) : Row × Job :=
  let j0 := (j.gseCount 1 1).gseCount 2 t.rb
  if t.kind then
    let e := j0.read a.2 t.bpr
    let m := e.2.2.read a.1 t.rb
    let w := fmtBytes t.fmt
    let bad := fun (k : Nat) => e.2.1.contains k || m.2.1.any (fun i => i / w == k)
    let mants := (List.range t.bpr).flatMap (fun k => if bad k then poisonBytes t.fmt else sliceBytes m.1 (k * w) w)
    ((mants, (List.range t.bpr).map (fun k => if bad k then (255 : Byte) else e.1.getD k 0)), m.2.2)
  else
    let r := j0.read a.1 t.rb
    ((r.1, []), if r.2.1.isEmpty then r.2.2 else r.2.2.err 9)

/-- A row is written whole or not at all (06 R158, R171), with other parts of its unit. -/
def Job.writeRow (j : Job) (a : Nat × Nat) (r : Row) (more : List (Nat × List Byte)) : Job :=
  ((j.writeAll ([(a.1, r.1), (a.2, r.2)] ++ more)).go (fun e => e.gseCount 6 1))

/-! ### Index streams and offsets (06 R151, R152) -/

/-- The null index. -/
def nullIdx : Nat := 0xFFFFFFFF

/-- A word read from an array, with the failure that met it. -/
abbrev GWord := Nat × Option CmdEnd

/-- The `n` words at `a`, each with the failure that met it; the run goes on. -/
def Job.words (j : Job) (a n : Nat) : List GWord × Job :=
  if (j.accessEnd 0 a (4 * n)).isNone then
    let r := j.read a (4 * n)
    ((List.range n).map (fun i =>
      (fieldBytes r.1 (4 * i) 4, if r.2.1.any (fun b => b / 4 == i) then some (.cmderr 9) else none)), r.2.2)
  else
    (List.range n).foldl (fun (p : List GWord × Job) i =>
      match p.2.accessEnd 0 (a + 4 * i) 4 with
      | some e => (p.1 ++ [(0, some e)], p.2)
      | none =>
        let r := p.2.read (a + 4 * i) 4
        (p.1 ++ [(fieldBytes r.1 0 4, if r.2.1.isEmpty then none else some (.cmderr 9))], r.2.2)) ([], j)

/-- The first failed word: its position and how it ends the command. -/
def firstFail (ws : List GWord) : Option (Nat × CmdEnd) :=
  ((List.range ws.length).zip ws).findSome? (fun p => p.2.2.map (fun e => (p.1, e)))

/-- The run ends at the first failed word of an array that is neither an index stream nor offsets nor keys. -/
def Job.needWords (j : Job) (ws : List GWord) : Job :=
  match firstFail ws with
  | some (_, e) => j.stop e
  | none => j

/-- The run ends at the first failed offset, key or payload, at its position in its array (06 R158, R172). -/
def Job.needKeys (j : Job) (ws : List GWord) : Job :=
  match firstFail ws with
  | some (p, e) => (j.stop e).noteFail j p none
  | none => j

/-- Whether a word is an index out of range of a table. -/
def GTab.outside (t : GTab) (w : GWord) : Bool := w.2.isNone && w.1 != nullIdx && decide (t.rows ≤ w.1)

/-- The row that a word names; none for a null or skipped index. -/
def GTab.rowOf (t : GTab) (w : GWord) : Option Nat := if w.2.isNone && decide (w.1 < t.rows) then some w.1 else none

/-- The index known at a position. -/
def idxAt (ws : List GWord) (p : Nat) : Option Nat :=
  match ws[p]? with
  | some (w, none) => some w
  | _ => none

/-- The range check of every index (06 R151, R158): an index out of range ends the command, or is skipped with OOB = 1. -/
def Job.checkIndex (j : Job) (t : GTab) (oob : Bool) (ws : List GWord) : Job :=
  match ws.findIdx? t.outside with
  | none => j
  | some p => if oob then j else (j.err 4).noteFail j p (idxAt ws p)

/-- Skipped indices are counted. -/
def Job.skipIndex (j : Job) (t : GTab) (ws : List GWord) : Job :=
  let n := (ws.filter t.outside).length
  if n = 0 then j
  else
    ((j.gseFlag 10 true).gseCount 5 n).onDev (fun d =>
      d.setRegN (.gseOobcnt j.c) (min (2 ^ 32 - 1) (d.regN (.gseOobcnt j.c) + n)))

/-- Whether numbers decrease somewhere. -/
def decreases (l : List Nat) : Bool := (l.zip (l.drop 1)).any (fun p => decide (p.2 < p.1))

/-- Whether n lies outside 1 to 2^24 (06 R151). -/
def lenBad (n : Nat) : Bool := n == 0 || decide (2 ^ 24 < n)

/-! ### Fetched rows: local at once, remote over the fabric (06 R153 to R155) -/

/-- A fetched row, or how its failure ends the command. -/
abbrev Fetched := Option CmdEnd × Row

/-- The wanted rows of a local table, as position and row, up to the first that fails. -/
def Job.fetchLocal (j : Job) (t : GTab) (wants : List (Nat × Nat)) : List (Nat × Fetched) × Job :=
  wants.foldl (fun (p : List (Nat × Fetched) × Job) w =>
    if p.1.any (fun e => e.2.1.isSome) then p
    else
      let r := p.2.readRow t (t.addr w.2)
      match r.2.fin with
      | some e => (p.1 ++ [(w.1, (some e, ([], [])))], { r.2 with fin := none })
      | none => (p.1 ++ [(w.1, (none, r.1))], r.2)) ([], j)

/-- The row fetched for a position. -/
def fetchedAt (got : List (Nat × Fetched)) (p : Nat) : Fetched := mapGet (fun _ => (none, ([], []))) got p

/-- The plan of a queue. -/
def Core.plan (k : Core) (q : Nat) : Option GsePlan := mapGet (fun _ => none) k.gse.plans q

/-- The plan of a queue is set. -/
def Core.setPlan (k : Core) (q : Nat) (p : Option GsePlan) : Core :=
  { k with gse := { k.gse with plans := mapSet (fun _ => none) k.gse.plans q p } }

/-- The remote reads of a queue. -/
def Core.reads (k : Core) (q : Nat) : List RemoteRead := mapGet (fun _ => []) k.gse.reads q

/-- The remote reads of a queue are set. -/
def Core.setReads (k : Core) (q : Nat) (rs : List RemoteRead) : Core :=
  { k with gse := { k.gse with reads := mapSet (fun _ => []) k.gse.reads q rs } }

/-- The row filed under a position. -/
def Core.filed (k : Core) (q p : Nat) : Option (Nat × List Byte) :=
  (k.gse.rows.find? (fun e => e.1 == q * 2 ^ 32 + p)).map (fun e => e.2)

/-- A row is filed under its position, and its reads are done. -/
def Core.file (k : Core) (q p : Nat) (v : Nat × List Byte) : Core :=
  let k1 := k.setReads q ((k.reads q).filter (fun r => r.pos ≠ p))
  { k1 with gse := { k1.gse with rows := mapInsert k1.gse.rows (q * 2 ^ 32 + p) v } }

/-- The rows that are being read, those of stopped commands among them. -/
def Core.openRows (k : Core) (q : Nat) : Nat :=
  ((k.reads q).map (fun r => r.pos)).eraseDups.length + (k.gse.stopped.map (fun r => r.2.pos)).eraseDups.length

/-- Whether a failed row is filed. -/
def Core.anyFailed (k : Core) (q : Nat) : Bool := k.gse.rows.any (fun e => e.1 / 2 ^ 32 == q && e.2.1 != 0)

/-- The spans of a remote row: its bytes, and in KIND 1 the aligned span around its exponents (06 R153). -/
def GTab.spans (t : GTab) (i : Nat) : List (Nat × Nat) :=
  let a := t.addr i
  if t.kind then
    let lo := a.2 / 32 * 32
    [(a.1, t.rb), (lo, ceilDiv (a.2 + t.bpr - lo) 32 * 32)]
  else [(a.1, t.rb)]

/-- A remote read leaves as an RDREQ. -/
def Dev.remoteRead (d : Dev) (c q dev pos : Nat) (sp : Nat × Nat) : Dev :=
  let k := d.core c
  let tag := gseTag c q k.gse.serial
  let k1 := k.setReads q (k.reads q ++ [{ tag := tag, pos := pos }])
  let d1 := d.setCore c { k1 with gse := { k1.gse with serial := k1.gse.serial + 1 } }
  let f := d1.mkFrame 2 2 dev (BitVec.ofNat 32 tag) (BitVec.ofNat 32 sp.2) []
  d1.sendRouted none { f with addr := BitVec.ofNat 48 sp.1 }

/-- The next wanted row is requested: at once a failure where the device is absent (06 R155). -/
def Dev.requestRow (d : Dev) (c q : Nat) (t : GTab) (w : Nat × Nat) : Dev :=
  if d.isAbsent t.dev then d.onCore c (fun k => k.file q w.1 (3, []))
  else (t.spans w.2).foldl (fun e sp => e.remoteRead c q t.dev w.1 sp) (d.count (c * 8 + 4) 4 1)

/-- Rows are requested while fewer than the cap are outstanding and none has failed (06 R154; 15 R402, R409). -/
def Dev.issueReads : Nat → Dev → Nat → Nat → GTab → Dev
  | 0, d, _, _, _ => d
  | n + 1, d, c, q, t =>
    let k := d.core c
    match k.plan q with
    | some p =>
      match p.todo with
      | w :: ws =>
        if d.gseCap c ≤ k.openRows q ∨ k.anyFailed q then d
        else Dev.issueReads n ((d.setCore c (k.setPlan q (some { p with todo := ws }))).requestRow c q t w) c q t
      | [] => d
    | none => d

/-- A row put together from its answers (06 R153, R155, R172). -/
def GTab.assemble (t : GTab) (i : Nat) (rs : List (Nat × List Byte)) : Nat × List Byte :=
  if rs.any (fun r => r.1 == 1) then (1, [])
  else if rs.any (fun r => r.1 == 2) then
    if t.kind then (0, t.poisonRow.1 ++ t.poisonRow.2) else (4, [])
  else
    let m := sliceBytes (rs.getD 0 (0, [])).2 0 t.rb
    if t.kind then (0, m ++ sliceBytes (rs.getD 1 (0, [])).2 ((t.addr i).2 % 32) t.bpr) else (0, m)

/-- A filed row as a fetched one. -/
def GTab.fetched (t : GTab) (v : Nat × List Byte) : Fetched :=
  if v.1 = 0 then (none, (sliceBytes v.2 0 t.rb, sliceBytes v.2 t.rb t.bpr))
  else (some (.cmderr (if v.1 = 4 then 9 else 8 + 256 * v.1)), ([], []))

/-! ### GGATH, GSEG and GPACK: which rows, and what is written -/

/-- The rows that an index stream names, up to its first failed word. -/
def streamWants (t : GTab) (ws : List GWord) : List (Nat × Nat) :=
  let n := match firstFail ws with | some (p, _) => p | none => ws.length
  ((List.range n).zip ws).filterMap (fun p => (t.rowOf p.2).map (fun i => (p.1, i)))

/-- The lengths and first rows of sequences (06 R164). -/
def seqOf (offs : List Nat) (s : Nat) : Nat × Nat := (offs.getD s 0, offs.getD (s + 1) 0 - offs.getD s 0)

/-- The rows that a GPACK reads, under their padded position. -/
def packWants (offs : List Nat) (l : Nat) : List (Nat × Nat) :=
  (List.range (offs.length - 1)).flatMap (fun s =>
    let q := seqOf offs s
    (List.range (min q.2 l)).map (fun k => (s * l + k, q.1 + k)))

/-- GGATH's writes in ascending position (06 R156, R158). -/
def ggathDone (t : GTab) (p : GsePlan) (got : List (Nat × Fetched)) (j : Job) : Job :=
  let mb := j.dpa (2 * j.op 2)
  let eb := j.dpa (2 * j.op 2 + 1)
  ((List.range p.words.length).zip p.words).foldl (fun (e : Job) w =>
    e.go (fun x =>
      let row : Fetched := match w.2.2 with
        | some f => (some f, ([], []))
        | none => match t.rowOf w.2 with
          | some _ => fetchedAt got w.1
          | none => (none, t.zeroRow)
      let y := match row.1 with
        | some f => x.stop f
        | none => x.writeRow (t.region mb eb w.1) row.2 []
      y.noteFail x w.1 (idxAt p.words w.1))) j

/-- GPACK's writes in ascending padded position (06 R164); the index noted for a failure is the table's row. -/
def gpackDone (t : GTab) (p : GsePlan) (got : List (Nat × Fetched)) (j : Job) : Job :=
  let l := j.num (j.op 1 + 2) 63
  let mb := j.dpa (2 * j.op 2)
  let eb := j.dpa (2 * j.op 2 + 1)
  (List.range ((p.offs.length - 1) * l)).foldl (fun (e : Job) n =>
    e.go (fun x =>
      let q := seqOf p.offs (n / l)
      let row : Fetched := if n % l < q.2 then fetchedAt got n else (none, t.zeroRow)
      let y := match row.1 with
        | some f => x.stop f
        | none => x.writeRow (t.region mb eb n) row.2 []
      y.noteFail x n (some (q.1 + n % l)))) j

/-! ### The ordered combine (06 R160) -/

/-- One destination element: SUM under R135, MAX and MIN by value; whether a bit was dropped. -/
def combineEl (op : Nat) (ts : List Term) : Val × Bool := segVal op ts

/-- A destination row combined from rows in their order and requantized once; its flags, and whether a bit was dropped. -/
def Job.combine (j : Job) (t : GTab) (op rnd tid row : Nat) (rows : List Row) : Row × Nat × Bool :=
  let els := rows.map (fun r => (t.blocks r).flatMap (blkTerms t.fmt))
  let n := fmtN t.fmt
  let vals := (List.range (t.bpr * n)).map (fun i => combineEl op (els.map (fun e => e.getD i (some (0, 0)))))
  let out := (List.range t.bpr).map (fun b =>
    requant t.fmt (j.rnd rnd tid) ((List.range n).map (fun i =>
      ((vals.getD (b * n + i) (vzero, false)).1, row * (t.bpr * n) + b * n + i))))
  ((mantBytes t.fmt out, expBytes out), blkFlags out, vals.any (fun v => v.2))

/-- GSEG's segments in ascending order (06 R163). After a failure at position p a segment is written where its positions all
lie below p; an empty one whose offset lies beyond p is not (DESIGN CHOICE, assumption log 40). -/
def gsegDone (t : GTab) (p : GsePlan) (got : List (Nat × Fetched)) (j : Job) : Job :=
  let mb := j.dpa (2 * j.op 3)
  let eb := j.dpa (2 * j.op 3 + 1)
  let cnt := j.dpa (j.op 7 + 1)
  let gotFail := (got.find? (fun e => e.2.1.isSome)).bind (fun e => e.2.1.map (fun f => (e.1, f)))
  let fail := match gotFail with
    | some f => some f
    | none => firstFail p.words
  let one := fun (e : Job) s => e.go (fun x =>
    let a := p.offs.getD s 0
    let z := p.offs.getD (s + 1) 0
    let reach := match fail with | some f => decide (z ≤ f.1) | none => true
    if !reach then x
    else
      let at1 := t.region mb eb s
      let o := if j.op 4 = 1 then x.readRow t at1 else (([], []), x)
      let y := o.2.go (fun y =>
        let ps := (List.range (z - a)).filterMap (fun i =>
          ((p.words[a + i]?).bind t.rowOf).map (fun _ => (fetchedAt got (a + i)).2))
        let r := if ps.isEmpty && j.op 4 == 0 then (t.zeroRow, 0, false)
          else y.combine t (j.op 0) (j.op 5) (j.num (j.op 7) 31) s ((if j.op 4 = 1 then [o.1] else []) ++ ps)
        let more := if j.num (j.op 7 + 1) 63 = 0 then [] else [((cnt + 4 * s) % 2 ^ 48, toBytes 4 ps.length)]
        ((y.writeRow at1 r.1 more).go (fun v => v.flag r.2.1)).gseFlag 12 r.2.2)
      y.noteFail x a (idxAt p.words a))
  let j1 := (List.range (p.offs.length - 1)).foldl one j
  match fail with
  | some f => if j1.fin.isSome then j1 else (j1.stop f.2).noteFail j1 f.1 (idxAt p.words f.1)
  | none => j1

/-- What a command that gathers does with its fetched rows. -/
def gatherDone (t : GTab) (p : GsePlan) (got : List (Nat × Fetched)) (j : Job) : Job :=
  match opOf j.cmd.word with
  | 1 => ggathDone t p got j
  | 4 => gsegDone t p got j
  | _ => gpackDone t p got j

/-- A command that gathers starts its row reads: local rows are read at once; remote ones are requested, and the command
goes on until they have returned. -/
def Job.gather (j : Job) (t : GTab) (p : GsePlan) : Job :=
  if t.remote then
    let n := p.todo.length
    let j1 := (j.onCore (fun k => k.setPlan j.q (some p))).onDev (fun d => Dev.issueReads (n + 1) d j.c j.q t)
    { j1 with fin := some .going }
  else
    let g := j.fetchLocal t p.todo
    gatherDone t p g.1 g.2

/-! ### The commands' starts -/

/-- GTAB (06 R148, R149, R172). -/
def gtabRun (j : Job) : Job :=
  let j1 := j.onCore (fun k => k.setTab (j.op 0) [])
  let r := j1.read (j.dpa (j.op 1)) 32
  r.2.2.go (fun e =>
    (e.check [(r.2.1.isEmpty && tabBad r.1, 3), (!r.2.1.isEmpty, 9)]).go (fun x => x.onCore (fun k => k.setTab (j.op 0) r.1)))

/-- The slot of an operand, and a stand-in for one that is not loaded: the checks refuse it. -/
def Job.slot (j : Job) (n : Nat) : GTab := (j.core.tab n).getD (tabOf [])

/-- Whether a slot is not loaded. -/
def Job.noSlot (j : Job) (n : Nat) : Bool := (j.core.tab n).isNone

/-- GGATH (06 R156). An index array in the stacks ends it with MEMLVL before a word of it is read, so a lower code that its
words would give is never reached (03 R460; DEDUCED, assumption log 40). -/
def ggathRun (j : Job) : Job :=
  let n := j.num (j.op 1 + 1) 63
  let a := j.dpa (j.op 1)
  let t := j.slot (j.op 0)
  (j.check [(lenBad n, 1), (j.noSlot (j.op 0), 3), (inStacks a, 7)]).go (fun e =>
    let w := e.words a n
    (w.2.checkIndex t (j.op 3 == 1) w.1).go (fun x =>
      (x.skipIndex t w.1).gather t { words := w.1, todo := streamWants t w.1 }))

/-- Keys of a list with the last position of each, in ascending position (06 R157). -/
def lastOf (t : GTab) (ws : List GWord) : List (Nat × Nat) :=
  let named := ((List.range ws.length).zip ws).filterMap (fun p => (t.rowOf p.2).map (fun i => (p.1, i)))
  named.filter (fun p => !named.any (fun r => r.2 == p.2 && decide (p.1 < r.1)))

/-- GSCAT (06 R157, R158). -/
def gscatRun (j : Job) : Job :=
  let n := j.num (j.op 1 + 1) 63
  let a := j.dpa (j.op 1)
  let t := j.slot (j.op 0)
  (j.check [(lenBad n, 1), (j.noSlot (j.op 0), 3), (inStacks a, 7)]).go (fun e =>
    let w := e.words a n
    ((w.2.checkIndex t (j.op 3 == 1) w.1).check [(t.remote, 7)]).go (fun x =>
      let stop := firstFail w.1
      let upTo := match stop with | some f => f.1 | none => n
      let mb := j.dpa (2 * j.op 2)
      let eb := j.dpa (2 * j.op 2 + 1)
      let done := ((lastOf t w.1).filter (fun p => decide (p.1 < upTo))).foldl (fun (y : Job) p =>
        y.go (fun z =>
          let r := z.readRow t (t.region mb eb p.1)
          (r.2.go (fun v => v.writeRow (t.addr p.2) r.1 [])).noteFail z p.1 (some p.2))) (x.skipIndex t w.1)
      match stop with
      | some f => if done.fin.isSome then done else (done.stop f.2).noteFail done f.1 none
      | none => done))

/-- A scratch area is used: its content afterwards is left open (06 R171; assumption log 40). -/
def Job.scratch (j : Job) (a n : Nat) : Job :=
  ((j.checkAccess 0 a (8 * n)).write a (freeBytes j.d.freeCtr (8 * n))).onDev (fun d => d.useFree n)

/-- The indices of a list in ascending order, each once. -/
def ascending (l : List Nat) : List Nat := (l.mergeSort (fun a b => a ≤ b)).eraseDups

/-- GSCADD (06 R160 to R162). -/
def gscaddRun (j : Job) : Job :=
  let n := j.num (j.op 2 + 1) 63
  let a := j.dpa (j.op 2)
  let scr := j.dpa (j.op 2 + 2)
  let sorted := j.op 6 == 1
  let t := j.slot (j.op 1)
  let no := j.noSlot (j.op 1)
  (j.check [(lenBad n, 1), (!no && !t.kind, 2), (no, 3), (inStacks a || (!sorted && inStacks scr), 7)]).go (fun e =>
    let w := e.words a n
    let unordered := sorted && decreases ((w.1.filter (fun x => x.2.isNone)).map (fun x => x.1))
    ((w.2.checkIndex t (j.op 7 == 1) w.1).check [(unordered, 5), (t.remote, 7)]).go (fun x =>
      match firstFail w.1 with
      | some f => (x.stop f.2).noteFail x f.1 none
      | none =>
        let x1 := if sorted then x else x.scratch scr n
        let named := streamWants t w.1
        let mb := j.dpa (2 * j.op 3)
        let eb := j.dpa (2 * j.op 3 + 1)
        x1.go (fun y0 => (ascending (named.map (fun p => p.2))).foldl (fun (y : Job) i => y.go (fun z =>
          let ps := (named.filter (fun p => p.2 == i)).map (fun p => p.1)
          let o := if j.op 4 = 1 then z.readRow t (t.addr i) else (([], []), z)
          let o1 := o.2.noteFail z (ps.headD 0) (some i)
          let rows := ps.foldl (fun (r : List Row × Job) p =>
            if r.2.fin.isSome then r
            else
              let v := r.2.readRow t (t.region mb eb p)
              (r.1 ++ [v.1], v.2.noteFail r.2 p (some i))) ((if j.op 4 = 1 then [o.1] else []), o1)
          rows.2.go (fun v =>
            let r := v.combine t (j.op 0) (j.op 5) (j.num (j.op 8) 31) i rows.1
            (((v.writeRow (t.addr i) r.1 []).go (fun u => u.flag r.2.1)).gseFlag 12 r.2.2).noteFail v (ps.headD 0) (some i))))
          (y0.skipIndex t w.1))))

/-- GSEG (06 R163). -/
def gsegRun (j : Job) : Job :=
  let n := j.num (j.op 2 + 1) 63
  let m := j.num (j.op 2 + 3) 63
  let a := j.dpa (j.op 2)
  let o := j.dpa (j.op 2 + 2)
  let t := j.slot (j.op 1)
  let no := j.noSlot (j.op 1)
  (j.check [(lenBad n || decide (2 ^ 24 < m), 1), (!no && !t.kind, 2), (no, 3), (inStacks a || inStacks o, 7)]).go (fun e =>
    let f := e.words o (m + 1)
    let w := f.2.words a n
    let offs := f.1.map (fun x => x.1)
    let known := (firstFail f.1).isNone
    ((w.2.checkIndex t (j.op 6 == 1) w.1).check [(known && (decreases offs || decide (n < offs.getLastD 0)), 5)]).go (fun x =>
      (x.needKeys f.1).go (fun y =>
        (y.skipIndex t w.1).gather t { words := w.1, offs := offs, todo := streamWants t w.1 })))

/-- The checks of GPACK and GUNPK, the offsets, and whether rows are dropped (06 R164, R165). The spec gives nseq no range;
it is taken as that of GSEG's segment count (assumption log 40). -/
def Job.ragged (j : Job) (write : Bool) (f : Job → List Nat → Job) : Job :=
  let nseq := j.num (j.op 1 + 1) 63
  let l := j.num (j.op 1 + 2) 63
  let o := j.dpa (j.op 1)
  let t := j.slot (j.op 0)
  let badLen := decide (2 ^ 24 < nseq) || l == 0 || decide (2 ^ 16 < l)
  (j.check [(badLen, 1), (j.noSlot (j.op 0), 3), (inStacks o, 7)]).go (fun e =>
    let w := e.words o (nseq + 1)
    let offs := w.1.map (fun x => x.1)
    let known := (firstFail w.1).isNone
    let order := decreases offs || decide (t.rows < offs.getLastD 0)
    let long := (List.range nseq).any (fun s => decide (l < (seqOf offs s).2))
    (w.2.check [(known && order, 5), (known && !order && long && j.op 3 == 0, 6), (write && t.remote, 7)]).go (fun x =>
      (x.needKeys w.1).go (fun y => f (y.gseFlag 11 long) offs)))

/-- GPACK (06 R164). -/
def gpackRun (j : Job) : Job :=
  j.ragged false (fun e offs =>
    e.gather (j.slot (j.op 0)) { offs := offs, todo := packWants offs (j.num (j.op 1 + 2) 63) })

/-- GUNPK (06 R165). -/
def gunpkRun (j : Job) : Job :=
  let t := j.slot (j.op 0)
  let mb := j.dpa (2 * j.op 2)
  let eb := j.dpa (2 * j.op 2 + 1)
  j.ragged true (fun e offs =>
    (packWants offs (j.num (j.op 1 + 2) 63)).foldl (fun (x : Job) p => x.go (fun y =>
      let r := y.readRow t (t.region mb eb p.1)
      (r.2.go (fun z => z.writeRow (t.addr p.2) r.1 [])).noteFail y p.1 (some p.2))) e)

/-! ### Sets (06 R166 to R169) -/

/-- A key as it is ordered. -/
def keyVal (signed : Bool) (k : Nat) : Int := if signed then sext 32 k else k

/-- Whether key `a` may stand before key `b`. -/
def keyLe (signed desc : Bool) (a b : Nat) : Bool :=
  if desc then decide (keyVal signed b ≤ keyVal signed a) else decide (keyVal signed a ≤ keyVal signed b)

/-- The bytes of 32-bit words. -/
def wordBytes (l : List Nat) : List Byte := l.flatMap (toBytes 4)

/-- GSORT (06 R166). -/
def gsortRun (j : Job) : Job :=
  let n := j.num (j.op 2 + 1) 63
  let keys := j.dpa (j.op 2)
  let pay := j.dpa (j.op 2 + 2)
  let has := j.num (j.op 2 + 2) 63 != 0
  let scr := j.dpa (j.op 2 + 3)
  let ok := j.dpa (2 * j.op 3)
  let op := j.dpa (2 * j.op 3 + 1)
  (j.check [(lenBad n, 1), (memLvl ([keys, scr, ok] ++ (if has then [pay, op] else [])), 7)]).go (fun e =>
    let k := e.words keys n
    let p := if has then k.2.words pay n else (List.replicate n (0, none), k.2)
    ((p.2.needKeys k.1).needKeys p.1).go (fun x =>
      let pairs := (k.1.zip p.1).map (fun r => (r.1.1, r.2.1))
      let out := pairs.mergeSort (fun a b => keyLe (j.op 0 == 1) (j.op 1 == 1) a.1 b.1)
      ((x.scratch scr n).write ok (wordBytes (out.map (fun r => r.1)))).go (fun y =>
        if has then y.write op (wordBytes (out.map (fun r => r.2))) else y)))

/-- The distinct keys of a sorted list with their counts, in order. -/
def runsOf : List Nat → List (Nat × Nat)
  | [] => []
  | k :: ks =>
    match runsOf ks with
    | (a, n) :: r => if a = k then (a, n + 1) :: r else (k, 1) :: (a, n) :: r
    | [] => [(k, 1)]

/-- GUNIQ (06 R167). -/
def guniqRun (j : Job) : Job :=
  let n := j.num (j.op 2 + 1) 63
  let keys := j.dpa (j.op 2)
  let ordered := fun (l : List Nat) => (l.zip (l.drop 1)).all (fun p => keyLe (j.op 0 == 1) (j.op 1 == 1) p.1 p.2)
  (j.check [(lenBad n, 1), (inStacks keys, 7)]).go (fun e =>
    let k := e.words keys n
    let good := (firstFail k.1).isNone
    let ks := k.1.map (fun w => w.1)
    (k.2.check [(good && !ordered ks, 5)]).go (fun x0 => (x0.needKeys k.1).go (fun x =>
      let rs := runsOf ks
      let ranks := ((List.range rs.length).zip rs).flatMap (fun r => List.replicate r.2.2 r.1)
      let x1 := (x.write (j.dpa (j.op 3)) (wordBytes (rs.map (fun r => r.1)))).go (fun y =>
        y.write (j.dpa (j.op 3 + 1)) (wordBytes (rs.map (fun r => r.2))))
      let x2 := if j.num (j.op 3 + 2) 63 = 0 then x1 else x1.go (fun y => y.write (j.dpa (j.op 3 + 2)) (wordBytes ranks))
      x2.go (fun y => y.write (j.dpa (j.op 3 + 3)) (toBytes 4 rs.length)))))

/-- The columns of a row in rank order: finite elements only, by value, ties lowest column first. -/
def ranked (least : Bool) (vs : List Val) : List (Nat × Fin2) :=
  let fin := ((List.range vs.length).zip vs).filterMap (fun p => p.2.map (fun v => (p.1, v)))
  fin.mergeSort (fun a b => if least then leV a.2 b.2 else leV b.2 a.2)

/-- GTOPK (06 R168). -/
def gtopkRun (j : Job) : Job :=
  let f := j.op 1
  let s := j.cmd.sreg (j.op 4)
  let rows := bits s 63 32
  let cols := bits s 31 0
  let k := j.num (j.op 4 + 1) 63
  let n := fmtN f
  let badShape := k == 0 || decide (1024 < k) || decide (cols < k) || (fmtStored f && cols % n != 0)
  let mb := j.dpa (2 * j.op 2)
  let eb := j.dpa (2 * j.op 2 + 1)
  let vb := j.dpa (2 * j.op 3)
  let xb := j.dpa (2 * j.op 3 + 1)
  let ib := j.dpa (2 * j.op 3 + 2)
  (j.check [(badShape, 1), (!fmtStored f, 2)]).go (fun e =>
    let kk := ceilDiv k n * n
    let per := cols / n
    (List.range rows).foldl (fun (x : Job) r => x.go (fun y =>
      let p := y.blocks f ((mb + r * per * fmtBytes f) % 2 ^ 48) ((eb + r * per) % 2 ^ 48) per
      p.2.go (fun z =>
        let vs := p.1.flatMap (blkVals f)
        let top := (ranked (j.op 0 == 1) vs).take k
        let idx := top.map (fun t => t.1) ++ List.replicate (kk - top.length) 0xFFFFFFFF
        let vals := top.map (fun t => some t.2) ++ List.replicate (kk - top.length) vzero
        let out := requantLine f none id vals
        let z1 := (((z.gseCount 1 1).flag (nfOf vs)).writeAll
          [((ib + r * kk * 4) % 2 ^ 48, wordBytes idx), ((vb + r * (kk / n) * fmtBytes f) % 2 ^ 48, mantBytes f out),
           ((xb + r * (kk / n)) % 2 ^ 48, expBytes out)])
        z1.go (fun v => v.flag (blkFlags out))))) e)

/-- The bin of a key: bins 0 to NB - 1, NB for underflow, NB + 1 for overflow (06 R169). -/
def histBin (base shift nb x : Nat) : Nat :=
  if x < base then nb else if (x - base) / 2 ^ shift < nb then (x - base) / 2 ^ shift else nb + 1

/-- GHIST (06 R169). -/
def ghistRun (j : Job) : Job :=
  let n := j.num (j.op 1 + 1) 63
  let keys := j.dpa (j.op 1)
  let base := j.num (j.op 1 + 2) 63
  let w := j.cmd.sreg (j.op 1 + 3)
  let nb := bits w 43 32 + 1
  let out := j.dpa (j.op 2)
  (j.check [(lenBad n, 1), (inStacks keys, 7)]).go (fun e =>
    let k := e.words keys n
    (k.2.needKeys k.1).go (fun x =>
      let o := if j.op 0 = 1 then x.words out (nb + 2) else (List.replicate (nb + 2) (0, none), x)
      (o.2.needWords o.1).go (fun y =>
        let old := (List.range (nb + 2)).zip (o.1.map (fun v => v.1))
        let bins := k.1.foldl (fun (m : List (Nat × Nat)) v =>
          let b := histBin base (bits w 4 0) nb v.1
          mapInsert m b (mapGet (fun _ => 0) m b + 1)) old
        let sat := bins.any (fun b => decide (2 ^ 32 ≤ b.2))
        ((y.write out (wordBytes (bins.map (fun b => min b.2 (2 ^ 32 - 1))))).go (fun z =>
          if sat then z.flag flagSat else z)))))

/-! ### Remote rows return (06 R154, R155) -/

/-- A running command's effect is finished: its run ends and its flags reach CSTATUS. -/
def Dev.finishRun (d : Dev) (c q : Nat) (r : Run) (run : Job → Job) : Dev :=
  let j := run { d := d, c := c, q := q, cmd := r.cmd }
  let d1 := j.d.onCore c (fun k => k.setRun q (some { cmd := r.cmd, fin := j.fin.getD .ok }))
  d1.onCtx c r.cmd.ctx (fun k => k.setFlags j.flags)

/-- The table slot operand of a command that gathers. -/
def gatherSlot (w : W64) : Nat := if opOf w = 4 then opnd w 1 else opnd w 0

/-- The rows that a running command wants. -/
def planWants (t : GTab) (w : W64) (p : GsePlan) (l : Nat) : List (Nat × Nat) :=
  if opOf w = 5 then packWants p.offs l else streamWants t p.words

/-- The filed rows of a queue, as far as the command needs them: all that it wants, or those up to the lowest that
failed. -/
def Core.ready (k : Core) (q : Nat) (t : GTab) (wants : List (Nat × Nat)) : Option (List (Nat × Fetched)) :=
  let got := wants.map (fun w => (w.1, (k.filed q w.1).map t.fetched))
  let upTo := got.takeWhile (fun g => match g.2 with | some f => f.1.isNone | none => false)
  let full := upTo.filterMap (fun g => g.2.map (fun f => (g.1, f)))
  match (got.drop upTo.length).head? with
  | none => some full
  | some (p, some f) => some (full ++ [(p, f)])
  | some (_, none) => none

/-- After a row has been filed: more rows are requested, or the command finishes. -/
def Dev.gseStep (d : Dev) (c q : Nat) : Dev :=
  let k := d.core c
  match k.run q, k.plan q with
  | some r, some p =>
    let j : Job := { d := d, c := c, q := q, cmd := r.cmd }
    let t := j.slot (gatherSlot r.cmd.word)
    let wants := planWants t r.cmd.word p (j.num (opnd r.cmd.word 1 + 2) 63)
    match k.ready q t wants with
    | some got => (d.finishRun c q r (gatherDone t p got)).onCore c (fun e => e.clearReads q)
    | none =>
      let d1 := Dev.issueReads (p.todo.length + 1) d c q t
      match (d1.core c).ready q t wants with
      | some got => (d1.finishRun c q r (gatherDone t p got)).onCore c (fun e => e.clearReads q)
      | none => d1
  | _, _ => d

/-- The row of a position, where its answers have come or its device is absent, is filed. A memory error that an answer tells of
is reported here too, as a parity error of the engine's path (06 R172; DESIGN CHOICE, assumption log 40). -/
def Dev.rowReturn (d : Dev) (c q pos : Nat) : Dev :=
  let k := d.core c
  match k.run q with
  | none => d
  | some r =>
    let rs := (k.reads q).filter (fun x => x.pos == pos)
    let j : Job := { d := d, c := c, q := q, cmd := r.cmd }
    let t := j.slot (gatherSlot r.cmd.word)
    if rs.isEmpty then d
    else if rs.all (fun x => x.answer.isSome) then
      let p := (k.plan q).getD {}
      let wants := planWants t r.cmd.word p (j.num (opnd r.cmd.word 1 + 2) 63)
      let i := ((wants.find? (fun w => w.1 == pos)).map (fun w => w.2)).getD 0
      let v := t.assemble i (rs.filterMap (fun x => x.answer))
      let e0 := if (rs.filterMap (fun x => x.answer)).any (fun r => r.1 == 2) then d.faultAt 0x0202 (unitEngine c 3) 0 else d
      ((((e0.onCore c (fun e => e.file q pos v)).count (c * 8 + 4) 1 1).count (c * 8 + 4) 2 t.rb)).gseStep c q
    else if d.isAbsent t.dev then (d.onCore c (fun e => e.file q pos (3, []))).gseStep c q
    else d

/-- The queue of a read tag. -/
def tagQueue (tag : Nat) : Nat := 12 + tag / 2 ^ 20 % 4

/-- The oldest read without an answer times out: that of a stopped command first. -/
def Dev.rowTimeout (d : Dev) (c q : Nat) : Dev :=
  let k := d.core c
  match k.gse.stopped.find? (fun r => tagQueue r.2.tag == q) with
  | some o => d.setCore c { k with gse := { k.gse with stopped := k.gse.stopped.filter (fun r => r.2.tag ≠ o.2.tag) } }
  | none =>
  match k.run q, (k.reads q).find? (fun x => x.answer.isNone) with
  | some r, some x =>
    let j : Job := { d := d, c := c, q := q, cmd := r.cmd }
    let t := j.slot (gatherSlot r.cmd.word)
    (d.onCore c (fun e => e.file q x.pos (if d.isAbsent t.dev then 3 else 2, []))).gseStep c q
  | _, _ => d

/-- A queue of the GSE. -/
def gseQueue (q : EngQueue) : Nat := 12 + q.val

/-- After the start of a command that fetches remote rows: rows of an absent device have failed already. -/
def Dev.gatherRow (d : Dev) (c : Nat) (q : EngQueue) (op : Nat) (run : Job → Job) : Dev :=
  if ((d.core c).plan (gseQueue q)).isSome then d else (d.engineRow c q 3 op run).gseStep c (gseQueue q)

/-! ### The commands -/

/-- GTAB (06 R148). -/
def execGtab (core : CoreId) (q : EngQueue) (s : State) : Host.Outcome State Fault Refusal :=
  s.run (fun d => d.engineRow core q 3 0 gtabRun)

/-- GGATH (06 R156). -/
def execGgath (core : CoreId) (q : EngQueue) (s : State) : Host.Outcome State Fault Refusal :=
  s.run (fun d => d.gatherRow core q 1 ggathRun)

/-- GSCAT (06 R157). -/
def execGscat (core : CoreId) (q : EngQueue) (s : State) : Host.Outcome State Fault Refusal :=
  s.run (fun d => d.engineRow core q 3 2 gscatRun)

/-- GSCADD (06 R162). -/
def execGscadd (core : CoreId) (q : EngQueue) (s : State) : Host.Outcome State Fault Refusal :=
  s.run (fun d => d.engineRow core q 3 3 gscaddRun)

/-- GSEG (06 R163). -/
def execGseg (core : CoreId) (q : EngQueue) (s : State) : Host.Outcome State Fault Refusal :=
  s.run (fun d => d.gatherRow core q 4 gsegRun)

/-- GPACK (06 R164). -/
def execGpack (core : CoreId) (q : EngQueue) (s : State) : Host.Outcome State Fault Refusal :=
  s.run (fun d => d.gatherRow core q 5 gpackRun)

/-- GUNPK (06 R165). -/
def execGunpk (core : CoreId) (q : EngQueue) (s : State) : Host.Outcome State Fault Refusal :=
  s.run (fun d => d.engineRow core q 3 6 gunpkRun)

/-- GSORT (06 R166). -/
def execGsort (core : CoreId) (q : EngQueue) (s : State) : Host.Outcome State Fault Refusal :=
  s.run (fun d => d.engineRow core q 3 7 gsortRun)

/-- GUNIQ (06 R167). -/
def execGuniq (core : CoreId) (q : EngQueue) (s : State) : Host.Outcome State Fault Refusal :=
  s.run (fun d => d.engineRow core q 3 8 guniqRun)

/-- GTOPK (06 R168). -/
def execGtopk (core : CoreId) (q : EngQueue) (s : State) : Host.Outcome State Fault Refusal :=
  s.run (fun d => d.engineRow core q 3 9 gtopkRun)

/-- GHIST (06 R169). -/
def execGhist (core : CoreId) (q : EngQueue) (s : State) : Host.Outcome State Fault Refusal :=
  s.run (fun d => d.engineRow core q 3 10 ghistRun)

/-- GSE_ROW_RETURN (06 R154). -/
def execGseRowReturn (core : CoreId) (q : EngQueue) (pos : W32) (s : State) : Host.Outcome State Fault Refusal :=
  s.run (fun d => d.rowReturn core (gseQueue q) pos.toNat)

/-- GSE_REMOTE_TIMEOUT (06 R155). -/
def execGseRemoteTimeout (core : CoreId) (q : EngQueue) (s : State) : Host.Outcome State Fault Refusal :=
  s.run (fun d => d.rowTimeout core (gseQueue q))

end Sys2Proof.Machine
end

