-- ==== Sys2Proof/Machine/Codec.lean ====
section
/-! DEFINITION. The compressed formats of the codecs (08 R213 to R226): FR4, FR2 and TC, one block at a time. -/

namespace Sys2Proof.Machine

/-- A block's bytes with their CRC-16 (08 R214, R217). -/
def sealBytes (bs : List Byte) : List Byte := bs ++ toBytes 2 (crc16 bs).toNat

/-- Whether the CRC-16 at the end of a block of `n` bytes is right. -/
def sealOk (bs : List Byte) (n : Nat) : Bool := fieldBytes bs (n - 2) 2 == (crc16 (bs.take (n - 2))).toNat

/-- A value with its SR index. -/
abbrev Indexed := Val × Nat

/-! ### FR4 (08 R214 to R216) -/

/-- Dh of a half whose largest magnitude is `m`. -/
def fr4Shift (m : Fin2) (e : Nat) : Nat :=
  if m.1 = 0 then 0
  else (((List.range (min 15 (e - 1) + 1)).reverse).find? (fun (d : Nat) => magLe m.1 m.2 7 ((e : Int) - d - 130))).getD 0

/-- The codes of a half at exponent E - Dh. -/
def fr4Half (rnd : Rnd) (e d : Nat) (vs : List Indexed) : List (QEl × Bool) :=
  vs.map (fun v => match v.1 with
    | none => ((none, 0), false)
    | some x => let q := quantEl rnd v.2 x 7 ((e : Int) - d - 130); ((some q.1, 0), q.2))

/-- FR4 ENCODE of 64 values: the 36 bytes and the flags (08 R215). -/
def fr4Encode (rnd : Rnd) (vs : List Indexed) : List Byte × Nat :=
  let vals := vs.map (fun v => v.1)
  let m := maxMag vals
  let nx := vals.any (fun v => v.isNone)
  let zero := sealBytes (List.replicate 34 0)
  if m.1 = 0 ∧ !nx then (zero, 0)
  else if vals.all (fun v => v.isNone) then (sealBytes (List.replicate 32 0x88 ++ [255, 0]), flagNf)
  else
    let e := chooseE m 7 130
    let d0 := fr4Shift (maxMag (vals.take 32)) e
    let d1 := fr4Shift (maxMag (vals.drop 32)) e
    let qs := fr4Half rnd e d0 (vs.take 32) ++ fr4Half rnd e d1 (vs.drop 32)
    let fl := (if qs.any (fun q => q.2) then flagSat else 0) + (if nx then flagNf else 0)
    if !nx ∧ qs.all (fun q => q.1.1 = some 0) then (zero, fl)
    else (sealBytes (codeBytes fBI4 (qs.map (fun q => qCode fBI4 q.1)) ++ [BitVec.ofNat 8 e, BitVec.ofNat 8 (d1 * 16 + d0)]), fl)

/-- FR4 DECODE: the 64 values, or none where the block fails its CRC or is malformed (08 R216, R225). -/
def fr4Decode (bs : List Byte) : Option (List Val) :=
  let e := fieldBytes bs 32 1
  let mode := fieldBytes bs 33 1
  let d := fun h => if h = 0 then mode % 16 else mode / 16
  let special := e == 0 || e == 255
  if !sealOk bs 36 || (special && mode != 0) || (!special && decide (e - 1 < max (d 0) (d 1))) then none
  else if e = 0 then some (List.replicate 64 vzero)
  else if e = 255 then some (List.replicate 64 none)
  else some ((List.range 64).map (fun i =>
    let m := sext 4 (elCode fBI4 bs i)
    if m = -8 then none else if m = 0 then vzero else some (m, (e : Int) - d (i / 32) - 130)))

/-! ### FR2 (08 R217 to R219) -/

/-- k and μ of the largest magnitude. -/
def fr2Scale (m : Fin2) : Int × Nat :=
  let l := log2Floor m.1.natAbs
  let mu := if l ≤ 6 then m.1.natAbs * 2 ^ (6 - l) else rneShiftNat m.1.natAbs (l - 6)
  if mu = 128 then (m.2 + l + 1, 64) else (m.2 + l, mu)

/-- floor(|x| / A x 65536). -/
def fr2Frac (x a : Fin2) : Nat :=
  let s := x.2 - a.2
  if 0 ≤ s then x.1.natAbs * 65536 * 2 ^ s.toNat / a.1.natAbs else x.1.natAbs * 65536 / (a.1.natAbs * 2 ^ (-s).toNat)

/-- The code of a finite value: whether it is ±1 by the rounding mode (08 R219, step 5). -/
def fr2Code (rnd : Rnd) (a : Fin2) (x : Fin2) (index : Nat) : Nat :=
  let one := match rnd with
    | none => !magLe x.1 x.2 a.1.natAbs (a.2 - 1)
    | some r => leV a (absV x) || decide (srBits r.1 r.2.1 r.2.2 (BitVec.ofNat 32 index) < fr2Frac x a)
  if !one then 0 else if x.1 < 0 then 3 else 1

/-- The 16 payload bytes of 64 codes. -/
def fr2Bytes (codes : List Nat) : List Byte :=
  (List.range 16).map (fun j => BitVec.ofNat 8 ((List.range 4).foldl (fun n q => n + codes.getD (4 * j + q) 0 * 4 ^ q) 0))

/-- FR2 ENCODE of 64 values: the 20 bytes and the flags. Where the finite values beside an NX are all 0, no log2 exists and
the block of step 3 is written (DEDUCED, assumption log 41). -/
def fr2Encode (rnd : Rnd) (vs : List Indexed) : List Byte × Nat :=
  let vals := vs.map (fun v => v.1)
  let m := maxMag vals
  let nx := vals.any (fun v => v.isNone)
  let nf := if nx then flagNf else 0
  let zero := sealBytes (List.replicate 18 0)
  let small := sealBytes (fr2Bytes (vals.map (fun v => if v.isNone then 2 else 0)) ++ [1, 0])
  if m.1 = 0 ∧ !nx then (zero, 0)
  else if vals.all (fun v => v.isNone) then (sealBytes (List.replicate 16 0xAA ++ [255, 0]), flagNf)
  else if m.1 = 0 then (small, nf)
  else
    let s := fr2Scale m
    let e := s.1 + 133
    if e < 1 then (if nx then (small, nf) else (zero, 0))
    else
      let big := decide (254 < e)
      let e1 : Nat := if big then 254 else e.toNat
      let scl := if big then 63 else s.2 - 64
      let codes := vs.map (fun v => match v.1 with
        | none => 2
        | some x => if x.1 = 0 then 0 else fr2Code rnd (64 + scl, (e1 : Int) - 139) x v.2)
      let fl := nf + (if big then flagSat else 0)
      if !nx ∧ codes.all (fun c => c = 0) then (zero, fl)
      else (sealBytes (fr2Bytes codes ++ [BitVec.ofNat 8 e1, BitVec.ofNat 8 scl]), fl)

/-- FR2 DECODE: the 64 values, or none where the block fails its CRC or is malformed (08 R218, R225). -/
def fr2Decode (bs : List Byte) : Option (List Val) :=
  let e := fieldBytes bs 16 1
  let mode := fieldBytes bs 17 1
  if !sealOk bs 20 || 64 ≤ mode || ((e == 0 || e == 255) && mode != 0) then none
  else if e = 0 then some (List.replicate 64 vzero)
  else if e = 255 then some (List.replicate 64 none)
  else
    let a : Fin2 := (64 + mode, (e : Int) - 139)
    some ((List.range 64).map (fun i =>
      match (bs.getD (i / 4) 0).toNat / 4 ^ (i % 4) % 4 with
      | 0 => vzero
      | 1 => some a
      | 2 => none
      | _ => some (negV a)))

/-! ### TC (08 R221 to R224) -/

/-- The first code of length `l` (08 R222). -/
def tcFirst (lens : List Nat) : Nat → Nat
  | 0 => 0
  | l + 1 => if l = 0 then 0 else (tcFirst lens l + lens.count l) * 2

/-- The symbols of length `l`, ascending. -/
def tcSyms (lens : List Nat) (l : Nat) : List Nat := (List.range 256).filter (fun s => lens.getD s 0 == l)

/-- The code of a symbol: its bits, most significant first. -/
def tcCode (lens : List Nat) (s : Nat) : List Bool :=
  let l := lens.getD s 0
  let c := tcFirst lens l + (tcSyms lens l).idxOf s
  (List.range l).map (fun i => c / 2 ^ (l - 1 - i) % 2 == 1)

/-- Bytes of a bit string, most significant bit first; the last byte is padded with zeros. -/
def bitsToBytes (bs : List Bool) : List Byte :=
  (List.range (ceilDiv bs.length 8)).map (fun i =>
    BitVec.ofNat 8 ((List.range 8).foldl (fun n k => 2 * n + b2n (bs.getD (8 * i + k) false)) 0))

/-- The bits of bytes, most significant first. -/
def bytesToBits (bs : List Byte) : List Bool := bs.flatMap (fun b => (List.range 8).map (fun k => bit b (7 - k)))

/-- The code bits that a table needs for a block; none where a byte has no code. -/
def tcNeed (lens : List Nat) (block : List Byte) : Option Nat :=
  if block.any (fun b => lens.getD b.toNat 0 == 0) then none
  else some ((block.map (fun b => lens.getD b.toNat 0)).sum)

/-- A raw body. -/
def tcRaw (block : List Byte) : List Byte := 0x80 :: block

/-- The body of a block under the considered tables, given as slot, generation and code lengths, slots ascending
(08 R223). -/
def tcEncode (tables : List (Nat × Nat × List Nat)) (block : List Byte) : List Byte :=
  let fits := tables.filterMap (fun t => (tcNeed t.2.2 block).map (fun n => (n, t)))
  let best := fits.foldl (fun (b : Option (Nat × Nat × Nat × List Nat)) f =>
    match b with
    | none => some f
    | some g => if f.1 < g.1 then some f else some g) none
  match best with
  | none => tcRaw block
  | some (n, t, gen, lens) =>
    if 2041 ≤ n then tcRaw block
    else
      let bs := block.flatMap (fun b => tcCode lens b.toNat)
      BitVec.ofNat 8 (t * 32 + (8 - n % 8) % 8 * 4 + gen % 4) :: bitsToBytes bs

/-- An index entry (08 Table 8.8). -/
def tcIndex (body : List Byte) (off : Nat) : List Byte :=
  toBytes 8 ((crc16 body).toNat * 2 ^ 48 + body.length % 512 * 2 ^ 39 + off % 2 ^ 38)

/-- The symbols that a bit string spells; none where its bits form no code or end inside one. -/
def tcSymbols (lens : List Nat) : List Bool → Nat → Nat → Option (List Nat)
  | [], _, len => if len = 0 then some [] else none
  | b :: bs, code, len =>
    let c := 2 * code + b2n b
    let l := len + 1
    let syms := tcSyms lens l
    if tcFirst lens l ≤ c ∧ c - tcFirst lens l < syms.length then
      (tcSymbols lens bs 0 0).map (fun r => syms.getD (c - tcFirst lens l) 0 :: r)
    else if 12 ≤ l then none
    else tcSymbols lens bs c l

/-- The slot that a coded body names; none for a raw body. -/
def tcSlot (body : List Byte) : Option Nat :=
  let h := (body.headD 0x80).toNat
  if 128 ≤ h then none else some (h / 32 % 4)

/-- TC DECODE of a body: the 256 bytes, or the code of Table 8.4. `table` is the image that the block was admitted under,
with its generation (08 R224). -/
def tcDecode (body : List Byte) (crc : Nat) (table : Option (Nat × List Nat)) : List Byte ⊕ Nat :=
  let h := (body.headD 0).toNat
  if (crc16 body).toNat ≠ crc then .inr 5
  else if body.isEmpty then .inr 6
  else if 128 ≤ h then
    if body.length ≠ 257 ∨ h ≠ 128 then .inr 6 else .inl (body.drop 1)
  else
    let pad := h / 4 % 8
    let all := bytesToBits (body.drop 1)
    if 256 < body.length ∨ all.length < pad ∨ (all.drop (all.length - pad)).any id then .inr 6
    else
      match table with
      | none => .inr 7
      | some (gen, lens) =>
        if gen % 4 ≠ h % 4 then .inr 8
        else
          match tcSymbols lens (all.take (all.length - pad)) 0 0 with
          | none => .inr 6
          | some syms => if syms.length = 256 then .inl (syms.map (fun s => BitVec.ofNat 8 s)) else .inr 6

end Sys2Proof.Machine
end

