-- ==== Sys2Proof/Machine/Mve.lean ====
section
/-! DEFINITION. The move engine (08 R208 to R213; 10 R276): descriptor chains, their checks, the moves, and the blocks that
a codec works on. -/

namespace Sys2Proof.Machine

/-! ### Descriptors (08 R209, Tables 8.1 to 8.3) -/

/-- A descriptor. -/
structure MDesc where
  ctl : Nat
  src0 : Nat
  src1 : Nat
  dst0 : Nat
  dst1 : Nat
  n0 : Nat
  n1 : Nat
  n2 : Nat
  n3 : Nat
  tid : Nat
  ibase : Nat
  deriving DecidableEq, Repr

/-- The descriptor in 64 bytes. -/
def MDesc.ofBytes (bs : List Byte) : MDesc :=
  { ctl := fieldBytes bs 0 8, src0 := fieldBytes bs 8 8, src1 := fieldBytes bs 16 8, dst0 := fieldBytes bs 24 8,
    dst1 := fieldBytes bs 32 8, n0 := fieldBytes bs 40 4, n1 := fieldBytes bs 44 4, n2 := fieldBytes bs 48 2,
    n3 := fieldBytes bs 50 2, tid := fieldBytes bs 52 4, ibase := fieldBytes bs 60 4 }

/-- Bits [hi:lo] of CTL. -/
def MDesc.bits (m : MDesc) (hi lo : Nat) : Nat := m.ctl / 2 ^ lo % 2 ^ (hi + 1 - lo)

/-- OP. -/
def MDesc.op (m : MDesc) : Nat := m.bits 3 0
/-- LAST. -/
def MDesc.last (m : MDesc) : Bool := m.bits 63 63 == 1
/-- SFMT. -/
def MDesc.sfmt (m : MDesc) : Nat := m.bits 32 30
/-- DFMT. -/
def MDesc.dfmt (m : MDesc) : Nat := m.bits 35 33
/-- SAXIS. -/
def MDesc.saxis (m : MDesc) : Nat := m.bits 36 36
/-- DAXIS. -/
def MDesc.daxis (m : MDesc) : Nat := m.bits 37 37
/-- RND. -/
def MDesc.rnd (m : MDesc) : Nat := m.bits 39 38
/-- CFMT. -/
def MDesc.cfmt (m : MDesc) : Nat := m.bits 41 40
/-- TAUTO. -/
def MDesc.tauto (m : MDesc) : Bool := m.bits 42 42 == 1
/-- TSLOT. -/
def MDesc.tslot (m : MDesc) : Nat := m.bits 44 43
/-- CODEC. -/
def MDesc.codec (m : MDesc) : Nat := m.bits 47 45

/-- The rows of the two-dimensional view (08 R210). -/
def MDesc.rows (m : MDesc) : Nat := m.n3 * m.n2 * m.n1

/-- What a descriptor does, the coded operations by their format; a reserved CFMT counts as FR. -/
inductive MKind where
  | copy | convert | fill | frEnc | tcEnc | frDec | tcDec | fabric
  deriving DecidableEq, Repr

/-- The kind of a descriptor whose OP is not reserved. -/
def MDesc.kind (m : MDesc) : MKind :=
  match m.op with
  | 0 => .copy
  | 1 => .convert
  | 2 => .fill
  | 3 => if m.cfmt = 2 then .tcEnc else .frEnc
  | 4 => if m.cfmt = 2 then .tcDec else .frDec
  | _ => .fabric

/-- The CTL bits that a kind may set: LAST and OP, and its fields (08 Table 8.3). -/
def MDesc.ctlMask (m : MDesc) : Nat :=
  let fields : List (Nat × Nat) := match m.kind with
    | .convert => [(39, 38), (37, 37), (36, 36), (35, 33), (32, 30)]
    | .frEnc => [(47, 45), (41, 40), (39, 38), (37, 37), (36, 36), (32, 30)]
    | .frDec => [(47, 45), (41, 40), (39, 38), (37, 37), (36, 36), (35, 33)]
    | .tcEnc => [(47, 45), (42, 42), (41, 40)] ++ (if m.tauto then [] else [(44, 43)])
    | .tcDec => [(47, 45), (41, 40)]
    | _ => []
  (fields ++ [(63, 63), (3, 0)]).foldl (fun v (f : Nat × Nat) => v + maskBits f.1 f.2) 0

/-- 48 bits. -/
def mask48 : Nat := 2 ^ 48 - 1

/-- The bits that a kind may set in SRC0, SRC1, DST0, DST1, TID and IBASE (08 Tables 8.1, 8.3; 10 Table 10.5). -/
def MKind.masks (k : MKind) : List Nat :=
  let w := 2 ^ 32 - 1
  match k with
  | .copy => [mask48, mask48, mask48, mask48, 0, 0]
  | .convert => [mask48, mask48, mask48, mask48, w, w]
  | .fill => [2 ^ 64 - 1, 0, mask48, mask48, 0, 0]
  | .frEnc => [mask48, mask48, mask48, 0, w, w]
  | .tcEnc => [mask48, 0, mask48, mask48, 0, 0]
  | .frDec => [mask48, 0, mask48, mask48, w, w]
  | .tcDec => [mask48, mask48, mask48, 0, 0, 0]
  | .fabric => [mask48, 31, mask48, 2 ^ 27 - 1, w, 0]

/-- Whether a number has a bit outside a mask. -/
def outsideMask (v m : Nat) : Bool := (v &&& m) != v

/-- Whether a kind names SFMT. -/
def MKind.usesSfmt (k : MKind) : Bool := k == .convert || k == .frEnc
/-- Whether a kind names DFMT. -/
def MKind.usesDfmt (k : MKind) : Bool := k == .convert || k == .frDec
/-- Whether a kind names RND. -/
def MKind.usesRnd (k : MKind) : Bool := k == .convert || k == .frEnc || k == .frDec

/-- The port, device, core, token and TV of a FABRIC descriptor (10 Table 10.5). -/
def MDesc.port (m : MDesc) : Nat := m.src1 % 32
/-- The destination device. -/
def MDesc.dev (m : MDesc) : Nat := m.dst1 % 512

/-- Whether a port carries no DATA that starts at this device: its slot order is empty, or Shade has stopped it (10 R276). -/
def Dev.noDataPort (d : Dev) (p : Nat) : Bool := d.rbits (.portSocnt (d.linkOf p)) 23 0 == 0 || d.portOff p

/-- DESC: a reserved OP, a reserved bit or unused field that is nonzero, a chain without LAST, and what a FABRIC descriptor
may not name (08 R208, R209; 10 R276). A reserved RND, and a FABRIC address that is no multiple of 32, count here (DEDUCED,
assumption log 41). -/
def MDesc.badDesc (m : MDesc) (d : Dev) (idx : Nat) : Bool :=
  let fab := m.kind == .fabric
  decide (5 < m.op) || (idx == 4095 && !m.last) || outsideMask m.ctl m.ctlMask ||
    (([m.src0, m.src1, m.dst0, m.dst1, m.tid, m.ibase].zip m.kind.masks).any (fun p => outsideMask p.1 p.2)) ||
    (m.kind.usesRnd && decide (1 < m.rnd)) ||
    (fab && (m.n1 != 1 || m.n2 != 1 || m.n3 != 1 || decide (23 < m.port) || m.src0 % 32 != 0 || m.dst0 % 32 != 0 || m.dev == d.me ||
      d.noDataPort m.port))

/-- A1C: BG8, G16 or SR in A1C mode (08 R211). -/
def MDesc.badA1c (m : MDesc) : Bool :=
  let native := fun (f : Nat) => f == fBG8 || f == fG16
  (m.kind.usesSfmt && native m.sfmt) || (m.kind.usesDfmt && native m.dfmt) || (m.kind.usesRnd && m.rnd == 1)

/-- FORMAT (08 Table 8.3). -/
def MDesc.badFormat (m : MDesc) : Bool :=
  ((m.op == 3 || m.op == 4) && m.cfmt == 3) || (m.kind.usesSfmt && !fmtStored m.sfmt) || (m.kind.usesDfmt && !fmtStored m.dfmt)

/-- Whether the axis of a block of `n` elements is no whole number of blocks (02 R28). -/
def MDesc.axisBad (m : MDesc) (axis n : Nat) : Bool := (if axis = 0 then m.n0 else m.rows) % n != 0

/-- SHAPE (08 R210, Table 8.3); LEN of a FABRIC descriptor is a multiple of 32 (10 Table 10.4). -/
def MDesc.badShape (m : MDesc) : Bool :=
  m.n0 == 0 || m.n1 == 0 || m.n2 == 0 || m.n3 == 0 || decide (2 ^ 32 ≤ m.rows) ||
  (match m.kind with
   | .copy => false
   | .convert => m.axisBad m.saxis (fmtN m.sfmt) || m.axisBad m.daxis (fmtN m.dfmt)
   | .fill => m.n0 % 8 != 0
   | .frEnc => m.axisBad m.daxis 64 || m.axisBad m.saxis (fmtN m.sfmt)
   | .frDec => m.axisBad m.saxis 64 || m.axisBad m.daxis (fmtN m.dfmt)
   | .tcEnc | .tcDec => m.rows * m.n0 % 256 != 0
   | .fabric => m.n0 % 32 != 0)

/-- The first check that fails, in the order of 03 R460. -/
def MDesc.check (m : MDesc) (d : Dev) (idx : Nat) (a1c : Bool) : Option Nat :=
  if m.badDesc d idx then some 3
  else if a1c && m.badA1c then some 9
  else if m.badFormat then some 2
  else if m.badShape then some 1
  else none

/-! ### Chains -/

/-- A counter of the MVE (16 Table 16.2). -/
def Job.mveCount (j : Job) (i n : Nat) : Job := j.onDev (fun d => d.count (j.c * 8 + 5) i n)

/-- The running chain of a queue with its command as a job, while it goes on. -/
def Dev.chainJob (d : Dev) (c q : Nat) : Option (Chain × Job) :=
  match (d.core c).chain q, (d.core c).run q with
  | some ch, some r =>
    if r.fin = .going ∧ !ch.stopping then some (ch, { d := d, c := c, q := q, cmd := r.cmd }) else none
  | _, _ => none

/-- References of admitted blocks to table images are dropped. -/
def Dev.dropRefs (d : Dev) (n : Nat) (as : List Admitted) : Dev :=
  as.foldl (fun e a =>
    let e1 := a.tables.foldl (fun f t => f.tabUnref n t.1 t.2.1) e
    e1.setRbits (.cdcStatus n) 31 16 (e1.rbits (.cdcStatus n) 31 16 - 1)) d

/-- What a failed descriptor leaves: STATUS, MVE_ERRDESC and MVE_ERRBLK (08 R211). A WINDOW or ADDRESS failure has no code
in Table 8.4, so the code in STATUS is then a free value (assumption log 41). -/
def Job.failDesc (j : Job) (desc unit : Nat) : Job :=
  match j.fin with
  | none => j
  | some e =>
    let j0 := { j with fin := none }
    let code := match e with | .cmderr k => k % 256 | _ => j.d.free.toNat % 256
    let w := j0.write ((desc + 56) % 2 ^ 48) (toBytes 4 (3 * 2 ^ 30 + code * 2 ^ 16))
    let j1 := if w.fin.isSome then j0 else w
    let j2 := j1.onDev (fun d =>
      ((d.useFree 1).setRegN (.mveErrdesc j.c) desc).setRegN (.mveErrblk j.c) (unit % 2 ^ 40))
    { j2 with fin := some e }

/-- The chain's command has ended. -/
def Dev.endChain (j : Job) (ch : Chain) (n : Nat) (e : CmdEnd) : Dev :=
  ((j.d.dropRefs n ch.admitted).onCore j.c (fun k => (k.setChain j.q none).setRun j.q (some { cmd := j.cmd, fin := e })))

/-- A descriptor's work has ended, at unit `unit` where it failed: STATUS is written, and the chain goes on or ends. -/
def Dev.descDone (j : Job) (ch : Chain) (m : MDesc) (unit : Nat) : Dev :=
  let flagged := fun (d : Dev) => d.onCtx j.c j.cmd.ctx (fun k => k.setFlags j.flags)
  match j.fin with
  | some e => flagged (Dev.endChain (j.failDesc ch.desc unit) ch m.codec e)
  | none =>
    let w := j.write ((ch.desc + 56) % 2 ^ 48) (toBytes 4 (2 ^ 31))
    match w.fin with
    | some e => flagged (Dev.endChain (w.failDesc ch.desc unit) ch m.codec e)
    | none =>
      if m.last then flagged (Dev.endChain w ch m.codec .ok)
      else
        let next : Chain := { cmd := ch.cmd, desc := (ch.desc + 64) % 2 ^ 48, count := ch.count }
        flagged (w.d.onCore j.c (fun k => k.setChain j.q (some next)))

/-- MVX: the chain begins; its descriptors start by rows of their own (08 R208). -/
def mvxRun (j : Job) : Job :=
  let ch : Chain := { cmd := j.cmd, desc := j.dpa (j.op 0) }
  { j.onCore (fun k => k.setChain j.q (some ch)) with fin := some .going }

/-- The next descriptor starts: it is fetched and every field is checked before anything moves. A misaligned descriptor
counts as DESC, and one whose bytes fail parity as PARITY (DEDUCED, assumption log 41). -/
def Dev.descStart (d : Dev) (c q : Nat) : Dev :=
  match d.chainJob c q with
  | none => d
  | some (ch, j) =>
    if !ch.bytes.isEmpty || !d.waitingWrites.isEmpty || d.engHold c 4 || !d.coreRuns c || d.inEngineReset c 4 then d
    else
      let j0 := j.mveCount 0 1
      let bad := j0.check [(ch.desc % 64 != 0, 3)]
      let r := bad.read ch.desc 64
      let j1 := if bad.fin.isSome then bad else r.2.2.check [(!r.2.1.isEmpty, 4)]
      let m := MDesc.ofBytes r.1
      let j2 := j1.go (fun e => match m.check d ch.count j.cmd.a1c with | some code => e.err code | none => e)
      if j2.fin.isSome then Dev.descDone j2 ch (MDesc.ofBytes []) 0
      else j2.d.onCore c (fun k => k.setChain q (some { ch with count := ch.count + 1, bytes := r.1 }))

/-- The rest of a row of the table that runs the current descriptor whole: `f` gives the run and the unit it stopped at. -/
def Dev.moveRow (d : Dev) (c q : Nat) (kind : MKind) (f : MDesc → Job → Job × Nat) : Dev :=
  match d.chainJob c q with
  | none => d
  | some (ch, j) =>
    let m := MDesc.ofBytes ch.bytes
    if ch.bytes.isEmpty || m.kind != kind then d
    else
      let r := f m j
      Dev.descDone r.1 ch m r.2

/-- Units in turn until one fails; the unit reached. -/
def Job.units (j : Job) (n : Nat) (f : Job → Nat → Job) : Job × Nat :=
  (List.range n).foldl (fun (p : Job × Nat) u => if p.1.fin.isSome then p else (f p.1 u, u)) (j, 0)

/-! ### COPY, FILL, CONVERT (08 R210, R211) -/

/-- The 64 B lines that `n` bytes at `a` touch. -/
def linesOf (a n : Nat) : Nat := (a % 64 + n + 63) / 64

/-- COPY. A parity error stops at its source line: the lines of the row before it are written; lines count through the
descriptor. -/
def copyRun (m : MDesc) (j : Job) : Job × Nat :=
  let src := fun (r : Nat) => (m.src0 + r * m.src1) % 2 ^ 48
  let dst := fun (r : Nat) => (m.dst0 + r * m.dst1) % 2 ^ 48
  let step := fun (p : Job × Nat × Nat) (r : Nat) =>
    if p.1.fin.isSome then p
    else
      let j1 := (p.1.checkAccess 0 (src r) m.n0).checkAccess 1 (dst r) m.n0
      if j1.fin.isSome then (j1, r, p.2.2)
      else
        let b := j1.read (src r) m.n0
        match b.2.1.head? with
        | none => (((b.2.2.put (dst r) b.1).mveCount 1 m.n0).mveCount 2 m.n0, r, p.2.2 + linesOf (src r) m.n0)
        | some o =>
          let line := (src r % 64 + o) / 64
          let keep := if line = 0 then 0 else line * 64 - src r % 64
          ((b.2.2.put (dst r) (b.1.take keep)).err 4, p.2.2 + line, 0)
  let r := (List.range m.rows).foldl step (j, 0, 0)
  (r.1, r.2.1)

/-- FILL. -/
def fillRun (m : MDesc) (j : Job) : Job × Nat :=
  let row := (List.range (m.n0 / 8)).flatMap (fun _ => toBytes 8 m.src0)
  j.units m.rows (fun e r => (e.write ((m.dst0 + r * m.dst1) % 2 ^ 48) row).mveCount 2 m.n0)

/-- Source blocks read so far. -/
abbrev BlkCache := List (Nat × Blk)

/-- Source block `k` of the descriptor, read when it is first needed. -/
def Job.srcBlock (m : MDesc) (p : BlkCache × Job) (k : Nat) : BlkCache × Job :=
  if p.2.fin.isSome || p.1.any (fun e => e.1 == k) then p
  else
    let b := p.2.blocks m.sfmt ((m.src0 + k * fmtBytes m.sfmt) % 2 ^ 48) ((m.src1 + k) % 2 ^ 48) 1
    (mapInsert p.1 k (b.1.headD (0, [])), b.2.mveCount 1 (fmtBytes m.sfmt + 1))

/-- The value of element (r, c) of the source among the blocks read. -/
def MDesc.srcVal (m : MDesc) (cache : BlkCache) (r c : Nat) : Val :=
  let p := blockOf (fmtN m.sfmt) m.saxis m.rows m.n0 r c
  let b := mapGet (fun _ => (0, [])) cache p.1
  elVal m.sfmt b.1 (b.2.getD p.2 0)

/-- The elements of block `k` of `n` elements along an axis. -/
def MDesc.els (m : MDesc) (n axis k : Nat) : List (Nat × Nat) :=
  (List.range n).map (fun i => blockEl n axis m.rows m.n0 k i)

/-- The blocks of source values that a list of elements needs. -/
def MDesc.need (m : MDesc) (els : List (Nat × Nat)) : List Nat :=
  (els.map (fun e => (blockOf (fmtN m.sfmt) m.saxis m.rows m.n0 e.1 e.2).1)).eraseDups

/-- How a descriptor rounds, and the SR index of an element (08 R210). -/
def Job.descRnd (j : Job) (m : MDesc) : Rnd := j.rnd m.rnd m.tid
/-- The SR index of an element. -/
def MDesc.index (m : MDesc) (e : Nat × Nat) : Nat := (m.ibase + e.1 * m.n0 + e.2) % 2 ^ 32

/-- Destination block `k` is written, its mantissas and its exponent together. -/
def Job.putBlock (j : Job) (m : MDesc) (k : Nat) (b : QBlock) : Job :=
  let w := fmtBytes m.dfmt
  (j.writeAll [((m.dst0 + k * w) % 2 ^ 48, mantBytes m.dfmt [b]), ((m.dst1 + k) % 2 ^ 48, expBytes [b])]).go (fun e =>
    (e.flag b.flags).mveCount 2 (w + 1))

/-- CONVERT. -/
def convertRun (m : MDesc) (j : Job) : Job × Nat :=
  let n := fmtN m.dfmt
  let step := fun (p : BlkCache × Job × Nat) (k : Nat) =>
    if p.2.1.fin.isSome then p
    else
      let els := m.els n m.daxis k
      let s := (m.need els).foldl (Job.srcBlock m) (p.1, p.2.1)
      let j1 := s.2.go (fun e =>
        e.putBlock m k (requant m.dfmt (j.descRnd m) (els.map (fun x => (m.srcVal s.1 x.1 x.2, m.index x)))))
      (s.1, j1, k)
  let r := (List.range (m.rows * m.n0 / n)).foldl step ([], j, 0)
  r.2

/-! ### ENCODE and DECODE: blocks through a codec (08 R211 to R225, R230, R231) -/

/-- Bytes of an FR block. -/
def MDesc.frBytes (m : MDesc) : Nat := if m.cfmt = 0 then 36 else 20

/-- The blocks that a coded descriptor hands to its codec. -/
def MDesc.codecBlocks (m : MDesc) : Nat :=
  match m.kind with
  | .tcEnc | .tcDec => m.rows * m.n0 / 256
  | _ => m.rows * m.n0 / 64

/-- ENCODE and DECODE start: their blocks are admitted and finished by rows of their own. -/
def Dev.codedStart (d : Dev) (c q op : Nat) : Dev :=
  match d.chainJob c q with
  | none => d
  | some (ch, _) =>
    let m := MDesc.ofBytes ch.bytes
    if ch.bytes.isEmpty || m.op != op || ch.unit.isSome then d
    else d.onCore c (fun k => k.setChain q (some { ch with unit := some 0 }))

/-- The DPA, length and CRC of a TC block's body, by its index entry. -/
def tcEntry (bs : List Byte) : Nat × Nat × Nat :=
  let w := fieldBytes bs 0 8
  (w % 2 ^ 38, w / 2 ^ 39 % 512, w / 2 ^ 48)

/-- The slots that block `k` would reference: those that a TC ENCODE considers, or the one that a coded body names
(08 R223, R230). -/
def Dev.blockSlots (d : Dev) (m : MDesc) (k : Nat) : List Nat :=
  match m.kind with
  | .tcEnc => if m.tauto then (List.range 4).filter (fun t => d.tabState m.codec t == 2) else [m.tslot]
  | .tcDec =>
    let a := (m.src1 + 8 * k) % 2 ^ 48
    if d.memOk a 8 then
      let e := tcEntry (d.bytesAt a 8)
      let b := (m.src0 + e.1) % 2 ^ 48
      if e.2.1 ≠ 0 ∧ d.memOk b 1 then (match tcSlot (d.bytesAt b 1) with | some t => [t] | none => []) else []
    else []
  | _ => []

/-- A block is admitted, under the slot state as it stands; one that references a LOADING slot is held (08 R230, R231). -/
def Dev.takeBlock (d : Dev) (n c q : Nat) : Dev :=
  match d.chainJob c q with
  | none => d
  | some (ch, _) =>
    let m := MDesc.ofBytes ch.bytes
    match ch.unit with
    | none => d
    | some k =>
      let slots := d.blockSlots m k
      if m.codec ≠ n ∨ m.codecBlocks ≤ k ∨ slots.any (fun t => d.tabState n t == 1) then d
      else
        let ready := slots.filter (fun t => d.tabState n t == 2)
        let tabs := ready.map (fun t => (t, d.tabGen n t, (d.tab n t).active))
        let d1 := ready.foldl (fun e t => e.tabRef n t) d
        let d2 := d1.setRbits (.cdcStatus n) 31 16 (stick 16 (d1.rbits (.cdcStatus n) 31 16 + 1))
        let ch1 := { ch with unit := some (k + 1), admitted := ch.admitted ++ [{ unit := k, tables := tabs }] }
        (d2.onCore c (fun e => e.setChain q (some ch1))).count (c * 8 + 5) 6 1

/-- A codec's failure is reported (08 R224, R225; 14 Table 14.2, CDCERR). -/
def Job.codecFault (j : Job) (n code desc : Nat) : Job :=
  j.onDev (fun d => d.faultAt 0x0303 (unitCodec n) (code + desc * 2 ^ 8))

/-- A block failed its CRC. -/
def Job.crcErr (j : Job) (n : Nat) : Job :=
  j.onDev (fun d => d.setRegN (.cdcCrcerr n) (stick 32 (d.regN (.cdcCrcerr n) + 1)))

/-- FR ENCODE of block `k`. -/
def frEncBlock (m : MDesc) (k : Nat) (j : Job) : Job :=
  let els := m.els 64 m.daxis k
  let s := (m.need els).foldl (Job.srcBlock m) ([], j)
  s.2.go (fun e =>
    let vs := els.map (fun x => (m.srcVal s.1 x.1 x.2, m.index x))
    let b := if m.cfmt = 0 then fr4Encode (j.descRnd m) vs else fr2Encode (j.descRnd m) vs
    (e.write ((m.dst0 + k * m.frBytes) % 2 ^ 48) b.1).go (fun x => (x.flag b.2).mveCount 2 m.frBytes))

/-- The values of FR block `k` as memory holds it; none where it fails. -/
def Dev.frVals (d : Dev) (m : MDesc) (k : Nat) : Option (List Val) :=
  let a := (m.src0 + k * m.frBytes) % 2 ^ 48
  if !d.memOk a m.frBytes || d.badAt a m.frBytes then none
  else if m.cfmt = 0 then fr4Decode (d.bytesAt a 36) else fr2Decode (d.bytesAt a 20)

/-- The destination blocks whose last FR block is `k`. -/
def MDesc.frDests (m : MDesc) (k : Nat) : List Nat :=
  let n := fmtN m.dfmt
  let ds := ((m.els 64 m.saxis k).map (fun e => (blockOf n m.daxis m.rows m.n0 e.1 e.2).1)).eraseDups
  (ds.filter (fun b => (m.els n m.daxis b).all (fun e => decide ((blockOf 64 m.saxis m.rows m.n0 e.1 e.2).1 ≤ k)))).mergeSort

/-- The destination block of an FR DECODE: poisoned where it holds an element of a block that failed (08 R225). -/
def Dev.frDest (d : Dev) (m : MDesc) (rnd : Rnd) (b : Nat) : QBlock :=
  let n := fmtN m.dfmt
  let els := m.els n m.daxis b
  let need := (els.map (fun e => (blockOf 64 m.saxis m.rows m.n0 e.1 e.2).1)).eraseDups
  let got := need.map (fun k => (k, d.frVals m k))
  if got.any (fun g => g.2.isNone) then poisonBlock m.dfmt n
  else
    requant m.dfmt rnd (els.map (fun e =>
      let p := blockOf 64 m.saxis m.rows m.n0 e.1 e.2
      let vs := ((got.find? (fun g => g.1 == p.1)).bind (fun g => g.2)).getD []
      (vs.getD p.2 vzero, m.index e)))

/-- FR DECODE of block `k`: a failed block sets NF and is reported, and does not end the descriptor. -/
def frDecBlock (m : MDesc) (k : Nat) (j : Job) : Job :=
  let r := j.read ((m.src0 + k * m.frBytes) % 2 ^ 48) m.frBytes
  r.2.2.go (fun e =>
    let crcBad := !sealOk r.1 m.frBytes
    let bad := (e.d.frVals m k).isNone
    let e1 := if r.2.1.isEmpty && crcBad then e.crcErr m.codec else e
    let e2 := if bad then (e1.codecFault m.codec 5 0).flag flagNf else e1
    (m.frDests k).foldl (fun (x : Job) b => x.go (fun y => y.putBlock m b (y.d.frDest m (j.descRnd m) b)))
      (e2.mveCount 1 m.frBytes))

/-- A TC block's failure ends the descriptor, and is reported. -/
def Job.tcFail (j : Job) (n code desc : Nat) : Job :=
  (((if code = 5 then j.crcErr n else j).codecFault n code desc)).err code

/-- TC ENCODE of block `k`; `off` is where its body goes. A source byte that fails parity ends the descriptor with PARITY
(DEDUCED, assumption log 41). -/
def tcEncBlock (m : MDesc) (desc k off : Nat) (a : Admitted) (j : Job) : Job × Nat :=
  let r := j.read ((m.src0 + 256 * k) % 2 ^ 48) 256
  if r.2.2.fin.isSome then (r.2.2, off)
  else if !r.2.1.isEmpty then (r.2.2.err 4, off)
  else if !m.tauto && a.tables.isEmpty then (r.2.2.tcFail m.codec 7 desc, off)
  else
    let body := tcEncode (a.tables.map (fun t => (t.1, t.2.1, codeLens t.2.2))) r.1
    let w := r.2.2.writeAll [((m.dst0 + off) % 2 ^ 48, body), ((m.dst1 + 8 * k) % 2 ^ 48, tcIndex body off)]
    (w.go (fun e => (e.mveCount 1 256).mveCount 2 (body.length + 8)), off + body.length)

/-- TC DECODE of block `k`. -/
def tcDecBlock (m : MDesc) (desc k : Nat) (a : Admitted) (j : Job) : Job :=
  let x := j.read ((m.src1 + 8 * k) % 2 ^ 48) 8
  x.2.2.go (fun e0 => (e0.check [(!x.2.1.isEmpty, 4)]).go (fun e =>
    let t := tcEntry x.1
    let b := e.read ((m.src0 + t.1) % 2 ^ 48) t.2.1
    b.2.2.go (fun f => (f.check [(!b.2.1.isEmpty, 4)]).go (fun g =>
      let table := (a.tables.head?).map (fun s => (s.2.1, codeLens s.2.2))
      match tcDecode b.1 t.2.2 table with
      | .inr code => g.tcFail m.codec code desc
      | .inl out => (g.write ((m.dst0 + 256 * k) % 2 ^ 48) out).go (fun h => (h.mveCount 1 (t.2.1 + 8)).mveCount 2 256)))))

/-- One admitted block runs: the job, and the body bytes written so far. -/
def runBlock (m : MDesc) (ch : Chain) (a : Admitted) (j : Job) : Job × Nat :=
  match m.kind with
  | .tcEnc => tcEncBlock m ch.desc a.unit ch.bodyOff a j
  | .tcDec => (tcDecBlock m ch.desc a.unit a j, ch.bodyOff)
  | .frEnc => (frEncBlock m a.unit j, ch.bodyOff)
  | _ => (frDecBlock m a.unit j, ch.bodyOff)

/-- The oldest admitted block of a chain finishes: its writes are made and its references go. The last block of the
descriptor ends it; a block of a stopped chain only finishes (08 R212, R230). -/
def Dev.blockDone (d : Dev) (n c q : Nat) : Dev :=
  match (d.core c).chain q with
  | none => d
  | some ch =>
    let m := MDesc.ofBytes ch.bytes
    match ch.admitted with
    | [] => d
    | a :: rest =>
      if m.codec ≠ n ∨ !d.waitingWrites.isEmpty then d
      else
        let r := runBlock m ch a { d := d, c := c, q := q, cmd := ch.cmd }
        let d1 := r.1.d.dropRefs n [a]
        let ch1 := { ch with admitted := rest, bodyOff := r.2 }
        let j1 := { r.1 with d := d1 }
        if ch.stopping then
          let more := if r.1.fin.isSome then [] else rest
          let d2 := if r.1.fin.isSome then d1.dropRefs n rest else d1
          d2.onCore c (fun k => k.setChain q (if more.isEmpty then none else some ch1))
        else if r.1.fin.isSome ∨ a.unit + 1 = m.codecBlocks then Dev.descDone j1 ch1 m a.unit
        else (j1.d.onCore c (fun k => k.setChain q (some ch1))).onCtx c ch.cmd.ctx (fun k => k.setFlags r.1.flags)

/-! ### FABRIC (10 R276) -/

/-- A FABRIC descriptor is posted, once its port's post queue has room. -/
def Dev.fabricPost (d : Dev) (c q : Nat) : Dev :=
  match d.chainJob c q with
  | none => d
  | some (ch, j) =>
    let m := MDesc.ofBytes ch.bytes
    if ch.bytes.isEmpty || m.kind != .fabric || ch.unit.isSome then d
    else
      let p := d.linkOf m.port
      let j1 := (j.check [(d.noDataPort m.port, 3)]).checkAccess 0 m.src0 m.n0
      if j1.fin.isSome then Dev.descDone j1 ch m 0
      else
        let k := d.link p
        if 16 ≤ k.posts.length then d
        else
          let x : Post := {
            core := c, q := q, xid := BitVec.ofNat 32 m.tid, len := m.n0, src := m.src0, dst := m.dst0, dev := m.dev,
            tv := m.dst1 / 2 ^ 26 % 2 == 1, tcore := m.dst1 / 2 ^ 9 % 512, token := m.dst1 / 2 ^ 18 % 256 }
          (d.setLink p { k with posts := k.posts ++ [x] }).onCore c (fun e => e.setChain q (some { ch with unit := some 0 }))

/-- A posted descriptor ends: complete, or with an error code. -/
def Dev.fabricEnd (d : Dev) (x : Post) (code : Option Nat) : Dev :=
  match d.chainJob x.core x.q with
  | none => d
  | some (ch, j) =>
    let j1 := match code with | some k => j.err k | none => j.mveCount 1 x.len
    Dev.descDone j1 ch (MDesc.ofBytes ch.bytes) 0

/-! ### The rows -/

/-- An MVE queue. -/
def mveQueue (q : EngQueue) : Nat := 16 + q.val

/-- MVX (08 R208). A queue whose stopped chain still has blocks in a codec starts none. -/
def execMvx (core : CoreId) (q : EngQueue) (s : State) : Host.Outcome State Fault Refusal :=
  s.run (fun d => if ((d.core core).chain (mveQueue q)).isSome then d else d.engineRow core q 4 0 mvxRun)

/-- MVE_DESCRIPTOR_START (08 R208). -/
def execMveDescriptorStart (core : CoreId) (q : EngQueue) (s : State) : Host.Outcome State Fault Refusal :=
  s.run (fun d => d.descStart core (mveQueue q))

/-- MVE_COPY (08 R210). -/
def execMveCopy (core : CoreId) (q : EngQueue) (s : State) : Host.Outcome State Fault Refusal :=
  s.run (fun d => d.moveRow core (mveQueue q) .copy copyRun)

/-- MVE_CONVERT (08 R210). -/
def execMveConvert (core : CoreId) (q : EngQueue) (s : State) : Host.Outcome State Fault Refusal :=
  s.run (fun d => d.moveRow core (mveQueue q) .convert convertRun)

/-- MVE_FILL (08 R210). -/
def execMveFill (core : CoreId) (q : EngQueue) (s : State) : Host.Outcome State Fault Refusal :=
  s.run (fun d => d.moveRow core (mveQueue q) .fill fillRun)

/-- MVE_ENCODE (08 R210). -/
def execMveEncode (core : CoreId) (q : EngQueue) (s : State) : Host.Outcome State Fault Refusal :=
  s.run (fun d => d.codedStart core (mveQueue q) 3)

/-- MVE_DECODE (08 R210). -/
def execMveDecode (core : CoreId) (q : EngQueue) (s : State) : Host.Outcome State Fault Refusal :=
  s.run (fun d => d.codedStart core (mveQueue q) 4)

/-- MVE_FABRIC (10 R276). -/
def execMveFabric (core : CoreId) (q : EngQueue) (s : State) : Host.Outcome State Fault Refusal :=
  s.run (fun d => d.fabricPost core (mveQueue q))

/-- CODEC_BLOCK_ADMIT (08 R230). -/
def execCodecBlockAdmit (n : StackId) (core : CoreId) (q : EngQueue) (s : State) : Host.Outcome State Fault Refusal :=
  s.run (fun d => d.takeBlock n core (mveQueue q))

/-- CODEC_BLOCK_DONE (08 R213). -/
def execCodecBlockDone (n : StackId) (core : CoreId) (q : EngQueue) (s : State) : Host.Outcome State Fault Refusal :=
  s.run (fun d => d.blockDone n core (mveQueue q))

end Sys2Proof.Machine
end

