-- ==== Sys2Proof/Machine/PathRows.lean ====
section
/-! DEFINITION. Commands that are the write of one register on a path (00 R5; 01 R22; 18 R452): the effect of the register's
own rule, where the path reaches the register. -/

namespace Sys2Proof.Machine

/-- QCFG_WRITE (03 R71). -/
def execQcfgWrite (path : Path) (core : CoreId) (q : QueueId) (v : W32) (s : State) :
    Host.Outcome State Fault Refusal :=
  s.run (fun d => d.via path (.qcfg core q) (fun e => e.qcfgWrite core q v))

/-- TOKEN_WRITE (03 R77). -/
def execTokenWrite (path : Path) (core : CoreId) (n : TokenId) (v : W32) (s : State) :
    Host.Outcome State Fault Refusal :=
  s.run (fun d => d.via path (.token core n) (fun e => e.tokenWrite core n v))

/-- PREG_CFG_WRITE (09 R249). -/
def execPregCfgWrite (path : Path) (u : Fin 72) (n : Fin 32) (v : W64) (s : State) :
    Host.Outcome State Fault Refusal :=
  s.run (fun d => d.via path (.pregCfg u n) (fun e => e.pregWrite u n v))

/-- PORT_CTL_WRITE (10 R270). -/
def execPortCtlWrite (path : Path) (p : PortId) (v : W32) (s : State) : Host.Outcome State Fault Refusal :=
  s.run (fun d => d.via path (.portCtl p) (fun e => e.portCtlWrite p v))

/-- FAB_ABSENT_WRITE (10 R274). -/
def execFabAbsentWrite (path : Path) (k : Fin 16) (v : W32) (s : State) : Host.Outcome State Fault Refusal :=
  s.run (fun d => d.via path (.fabAbsent k) (fun e => e.fabAbsentWrite k v))

/-- LUL_FDONE (12 R317). -/
def execLulFdone (path : Path) (v : W32) (s : State) : Host.Outcome State Fault Refusal :=
  s.run (fun d => d.via path .lulFdone (fun e => e.lulThen (fun e => e.lulFdone v)))

/-- LUL_MDONE (12 R318). -/
def execLulMdone (path : Path) (v : W32) (s : State) : Host.Outcome State Fault Refusal :=
  s.run (fun d => d.via path .lulMdone (fun e => e.lulThen (fun e => e.lulMdone v)))

/-- LUL_DROP (12 R328). -/
def execLulDrop (path : Path) (_v : W32) (s : State) : Host.Outcome State Fault Refusal :=
  s.run (fun d => d.via path .lulCmd (fun e => e.lulThen (fun e => e.lulDrop)))

/-- LUL_JOIN (12 R332). -/
def execLulJoin (path : Path) (v : W32) (s : State) : Host.Outcome State Fault Refusal :=
  s.run (fun d => d.via path .lulCmd (fun e => e.lulThen (fun e => e.lulJoin (bits v 29 24))))

/-- SNP_RESTORE (13 R359 to R361). -/
def execSnpRestore (path : Path) (v : W32) (s : State) : Host.Outcome State Fault Refusal :=
  s.run (fun d => d.via path .snpCmd (fun e => e.snpRestore (ownerOf path) (bits v 4 4) (bit v 8)))

/-- SNP_COMPARE (13 R358). -/
def execSnpCompare (path : Path) (_v : W32) (s : State) : Host.Outcome State Fault Refusal :=
  s.run (fun d => d.via path .snpCmd (fun e => e.snpCompare (ownerOf path)))

/-- SNP_DISCARD (13 R339). -/
def execSnpDiscard (path : Path) (v : W32) (s : State) : Host.Outcome State Fault Refusal :=
  s.run (fun d => d.via path .snpCmd (fun e => e.snpDiscard (bits v 4 4)))

/-- SNP_ESTEV (13 R347, R348). -/
def execSnpEstev (path : Path) (v : W32) (s : State) : Host.Outcome State Fault Refusal :=
  s.run (fun d => d.via path .snpEstev (fun e => if bit v 0 then e.estEvent else e))

/-- FLT_LOCK (14 R387). -/
def execFltLock (path : Path) (_v : W32) (s : State) : Host.Outcome State Fault Refusal :=
  s.run (fun d => d.via path .fltCmd (fun e => e.fltLockCmd (ownerOf path)))

/-- FLT_UNLOCK (14 R387). -/
def execFltUnlock (path : Path) (_v : W32) (s : State) : Host.Outcome State Fault Refusal :=
  s.run (fun d => d.via path .fltCmd (fun e => e.fltUnlockCmd))

/-- FLT_ENGRST (14 R374). -/
def execFltEngrst (path : Path) (_v : W32) (s : State) : Host.Outcome State Fault Refusal :=
  s.run (fun d => d.via path .fltCmd (fun e => e.engrstCmd (ownerOf path)))

/-- FLT_CORESUB (14 R375). -/
def execFltCoresub (path : Path) (_v : W32) (s : State) : Host.Outcome State Fault Refusal :=
  s.run (fun d => d.via path .fltCmd (fun e => e.coresubCmd (ownerOf path)))

/-- FLT_DIERST (14 R376). -/
def execFltDierst (path : Path) (_v : W32) (s : State) : Host.Outcome State Fault Refusal :=
  s.run (fun d => d.via path .fltCmd (fun e => e.dierstCmd (ownerOf path)))

/-- FLT_LANESP (14 R379). -/
def execFltLanesp (path : Path) (_v : W32) (s : State) : Host.Outcome State Fault Refusal :=
  s.run (fun d => d.via path .fltCmd (fun e => e.lanespCmd (ownerOf path)))

/-- FLT_CHMIG (14 R380). -/
def execFltChmig (path : Path) (_v : W32) (s : State) : Host.Outcome State Fault Refusal :=
  s.run (fun d => d.via path .fltCmd (fun e => e.chmigCmd (ownerOf path)))

/-- FLT_ROWSP (14 R381). -/
def execFltRowsp (path : Path) (_v : W32) (s : State) : Host.Outcome State Fault Refusal :=
  s.run (fun d => d.via path .fltCmd (fun e => e.rowspCmd (ownerOf path)))

/-- FLT_RELEASE (14 R377). -/
def execFltRelease (path : Path) (_v : W32) (s : State) : Host.Outcome State Fault Refusal :=
  s.run (fun d => d.via path .fltCmd (fun e => e.fltRelease))

/-- FLT_REVOTE (14 R385). -/
def execFltRevote (path : Path) (_v : W32) (s : State) : Host.Outcome State Fault Refusal :=
  s.run (fun d => d.via path .fltCmd (fun e => e.fltRevote))

/-- FLT_DUMP (14 R391). -/
def execFltDump (path : Path) (_v : W32) (s : State) : Host.Outcome State Fault Refusal :=
  s.run (fun d => d.via path .fltCmd (fun e => e.dumpCmd (ownerOf path)))

/-- MODE_CHANGE_REQUEST (15 R396). -/
def execModeChangeRequest (path : Path) (v : W32) (s : State) : Host.Outcome State Fault Refusal :=
  s.run (fun d => d.via path .pwrMode (fun e => e.modeWrite v))

/-- ISLAND_CLOCK_CHANGE (15 R397). -/
def execIslandClockChange (path : Path) (c : ClusterId) (v : W32) (s : State) : Host.Outcome State Fault Refusal :=
  s.run (fun d => d.via path (.pwrIclk c) (fun e => e.iclkWrite c v))

/-- PWR_WAKE (15 R405). -/
def execPwrWake (path : Path) (s : State) : Host.Outcome State Fault Refusal :=
  s.run (fun d => d.via path .pwrCmd (fun e => e.pwrWake))

/-- PWR_RESUME (15 R405). -/
def execPwrResume (path : Path) (s : State) : Host.Outcome State Fault Refusal :=
  s.run (fun d => d.via path .pwrCmd (fun e => e.pwrResume))

/-- TABLE_LOAD (08 R231). -/
def execTableLoad (path : Path) (n : StackId) (slot : Fin 4) (s : State) : Host.Outcome State Fault Refusal :=
  s.run (fun d => d.via path (.cdcTcmd n) (fun e => e.tableLoad n slot))

/-- TABLE_STAGE (08 R231). -/
def execTableStage (path : Path) (n : StackId) (slot : Fin 4) (s : State) : Host.Outcome State Fault Refusal :=
  s.run (fun d => d.via path (.cdcTcmd n) (fun e => e.tableStage n slot))

/-- TABLE_COMMIT (08 R231). -/
def execTableCommit (path : Path) (n : StackId) (slot : Fin 4) (s : State) : Host.Outcome State Fault Refusal :=
  s.run (fun d => d.via path (.cdcTcmd n) (fun e => e.tableCommit n slot))

/-- TIM_ADJ_WRITE (12 R313). -/
def execTimAdjWrite (path : Path) (v : W64) (s : State) : Host.Outcome State Fault Refusal :=
  s.run (fun d => d.via path .timAdj (fun e => e.timAdj v))

/-- PMC_RESET (16 R420). -/
def execPmcReset (path : Path) (v : W32) (s : State) : Host.Outcome State Fault Refusal :=
  s.run (fun d => d.via path .pmcCmd (fun e => e.pmcCmdWrite v))

/-- DBG_CTL_WRITE (16 R422). -/
def execDbgCtlWrite (path : Path) (v : W32) (s : State) : Host.Outcome State Fault Refusal :=
  s.run (fun d => d.via path .dbgCtl (fun e => e.dbgCtlSet path v))

/-- TRC_CTL_WRITE (16 R423). -/
def execTrcCtlWrite (path : Path) (core : CoreId) (v : W32) (s : State) : Host.Outcome State Fault Refusal :=
  s.run (fun d => d.via path (.trcCtl core) (fun e => e.trcCtlSet path core v))

/-- MGC_BOOTCMD (17 R441). -/
def execMgcBootcmd (path : Path) (v : W32) (s : State) : Host.Outcome State Fault Refusal :=
  s.run (fun d => d.via path .mgcBootcmd (fun e => e.bootCmd v))

/-- BDP_ADDR_WRITE (08 R205, R206). -/
def execBdpAddrWrite (path : Path) (chan : Fin 8) (v : W64) (s : State) : Host.Outcome State Fault Refusal :=
  s.run (fun d => d.via path (.bdpAddr chan) (fun e => e.bdpRegWrite chan (.bdpAddr chan) v))

/-- BDP_CTL_WRITE (08 R206). -/
def execBdpCtlWrite (path : Path) (chan : Fin 8) (v : W32) (s : State) : Host.Outcome State Fault Refusal :=
  s.run (fun d => d.via path (.bdpCtl chan) (fun e => e.bdpRegWrite chan (.bdpCtl chan) (v.setWidth 64)))

end Sys2Proof.Machine
end

