-- ==== Sys2Proof/Machine/Tree.lean ====
section
/-! DEFINITION. Reduction trees: RTX and the TREE frames of the two-pass sum and of the R64 phase (05 R139; 10 R279 to
R287). The byte layouts that the spec leaves open, and when a node combines, are assumption log 42. -/

namespace Sys2Proof.Machine

/-! ### Runs of a tree -/

/-- The run of a tree and phase, new where there is none. -/
def Dev.treeRun (d : Dev) (t ph : Nat) : TreeRun :=
  (d.trees.find? (fun x => x.tree == t && x.phase == ph)).getD { tree := t, phase := ph }

/-- The run of a tree and phase is dropped. -/
def Dev.dropTree (d : Dev) (t ph : Nat) : Dev :=
  { d with trees := d.trees.filter (fun x => !(x.tree == t && x.phase == ph)) }

/-- A run is put back. -/
def Dev.setTree (d : Dev) (x : TreeRun) : Dev :=
  let e := d.dropTree x.tree x.phase
  { e with trees := e.trees ++ [x] }

/-- The formats of a tree: BI4, BI8, BI16, G16 (10 Table 10.6). -/
def treeFmt (f : Nat) : Bool := f == fBI4 || f == fBI8 || f == fBI16 || f == fG16

/-- A reduction tree's descriptor where it is valid (10 R279). -/
def Dev.sumTree (d : Dev) (bs : List Byte) : Option Tree :=
  match d.parseTree bs with
  | none => none
  | some t => if treeFmt t.fmt && treeFmt t.ofmt && decide (1 ≤ t.nblk ∧ t.nblk ≤ 2 ^ 24) then some t else none

/-- The header message of a node (10 R287). -/
def treeHeader (t : Tree) (ph : Nat) : List Byte :=
  toBytes 1 t.id ++ toBytes 1 ph ++ toBytes 1 t.fmt ++ toBytes 1 t.ofmt ++ toBytes 4 t.nblk ++ toBytes 24 0

/-! ### Contributions (10 R282, R283, R286) -/

/-- The word that stands for NX. -/
def nxWord : Nat := 2 ^ 47

/-- A sum element as its 48-bit word. -/
def wordOf (v : Option Int) : Nat :=
  match v with
  | none => nxWord
  | some n => (n % 2 ^ 48).toNat

/-- The sum element at a byte offset. -/
def sumAt (bs : List Byte) (o : Nat) : Option Int :=
  let w := fieldBytes bs o 6
  if w = nxWord then none else some (sext 48 w)

/-- The 32 elements of a block at a byte offset. -/
def sumsAt (bs : List Byte) (o : Nat) : List (Option Int) := (List.range 32).map (fun i => sumAt bs (o + 6 * i))

/-- The 192 bytes of a block's sum elements. -/
def sumBytes (ws : List (Option Int)) : List Byte := ws.flatMap (fun v => toBytes 6 (wordOf v))

/-- Whether the tree sends a block of agreed exponent `e`. -/
def treeSends (e : Nat) : Bool := decide (1 ≤ e ∧ e ≤ 254)

/-- A block's contribution at the agreed exponent: its elements at the step 2^(E' - b - 8), in RNE (05 R139). -/
def blockWords (f e : Nat) (b : Blk) : List (Option Int) :=
  if b.1 = 0 ∨ !treeSends e then List.replicate 32 (some 0)
  else b.2.map (fun code =>
    match elMant f code with
    | none => none
    | some (m, _) => some (roundTo none 0 m ((b.1 : Int) - e + 8)))

/-- Whether an agreed exponent lies below a contributor's own (10 R283). -/
def belowOwn (e : Nat) (b : Blk) : Bool := decide (e < b.1)

/-- A byte plane as read: a byte that fails parity stands for a poisoned block (02 R37). -/
def planeOf (r : List Byte × List Nat × Job) : List Byte :=
  (List.range r.1.length).map (fun i => if r.2.1.contains i then 255 else r.1.getD i 0)

/-- What this core contributes in a phase; none where R283's exponent check fails. -/
def Job.treePart (j : Job) (t : Tree) (ph : Nat) : Option (List Byte) × Job :=
  let k := 2 * j.op 2
  if ph = 0 then
    let r := j.read (j.dpa (k + 1)) t.nblk
    (some (planeOf r), r.2.2)
  else if ph = 1 then
    let p := j.read (j.dpa (k + 4)) t.nblk
    let plane := planeOf p
    let b := p.2.2.blocks t.fmt (j.dpa k) (j.dpa (k + 1)) t.nblk
    let both := (plane.map (fun e => e.toNat)).zip b.1
    let words := both.flatMap (fun q => sumBytes (blockWords t.fmt q.1 q.2))
    (if both.any (fun q => belowOwn q.1 q.2) then none else some (plane ++ words), b.2.rduTally (32 * t.nblk) false)
  else (some (j.core.raRead (j.op 3)).record, j.parity 2 (j.core.raBad (j.op 3)))

/-! ### Combining (10 R280) -/

/-- What a node has combined: the plane of exponents, the sum elements of the blocks it sends, and the record. -/
structure NodeSum where
  plane : List Nat := []
  words : List (List (Option Int)) := []
  part : RaPart := {}
  deriving DecidableEq, Repr

/-- The sum of two elements. -/
def addWord (a b : Option Int) : Option Int :=
  match a, b with
  | some x, some y => some (x + y)
  | _, _ => none

/-- Records combined under R135 in their order; a lone record stays as it is. -/
def combineParts (free : Int) (rs : List RaPart) : RaPart :=
  match rs with
  | [r] => r
  | _ =>
    let s := sumTerms (rs.map (fun r => (r.s, (r.x : Int))))
    let nx := rs.any (fun r => r.nx)
    { s := if nx then free else s.s, x := s.x.toNat, nx := nx, empty := rs.all (fun r => r.empty),
      inexact := s.lost || rs.any (fun r => r.inexact), cnt := rs.foldl (fun n r => n + r.cnt) 0 }

/-- Records of cores combined by the reduction nodes of clusters, of dies and of the device. -/
def combineCores (free : Int) (rs : List (Nat × RaPart)) : RaPart :=
  let one := fun (width : Nat) (xs : List (Nat × RaPart)) =>
    (xs.map (fun x => x.1 / width)).eraseDups.map (fun g =>
      (g, combineParts free ((xs.filter (fun x => x.1 / width == g)).map (fun x => x.2))))
  combineParts free ((one 16 (one 8 rs)).map (fun x => x.2))

/-- The blocks that a plane has sent, by number. -/
def sentBlocks (plane : List Nat) : List Nat := (List.range plane.length).filter (fun b => treeSends (plane.getD b 0))

/-- The bytewise maximum of planes of `n` bytes. -/
def maxPlane (n : Nat) (ps : List (List Byte)) : List Nat :=
  (List.range n).map (fun i => ps.foldl (fun m p => max m (p.getD i 0).toNat) 0)

/-- The node's own contributors in ascending core ID, and its children's data in CHILD order. -/
def nodeSum (free : Int) (t : Tree) (ph : Nat) (own : List (Nat × List Byte)) (kids : List (List Byte)) : NodeSum :=
  if ph = 0 then { plane := maxPlane t.nblk (own.map (fun p => p.2) ++ kids) }
  else if ph = 1 then
    let plane := ((own.headD (0, [])).2.take t.nblk).map (fun e => e.toNat)
    let sent := sentBlocks plane
    let mine := own.map (fun p => sent.map (fun b => sumsAt p.2 (t.nblk + 192 * b)))
    let theirs := kids.map (fun p => (List.range sent.length).map (fun i => sumsAt p (192 * i)))
    let zero := sent.map (fun _ => List.replicate 32 (some 0))
    { plane := plane,
      words := (mine ++ theirs).foldl (fun a b => List.zipWith (List.zipWith addWord) a b) zero }
  else
    let dev := combineCores free (own.map (fun p => (p.1, RaPart.ofRecord p.2)))
    { part := combineParts free (dev :: kids.map RaPart.ofRecord) }

/-! ### Messages (10 R282 to R287) -/

/-- Bytes padded with zeros to a multiple of 32. -/
def pad32 (bs : List Byte) : List Byte := bs ++ toBytes ((32 - bs.length % 32) % 32) 0

/-- A list cut into pieces of `n`. -/
def pieces32 (n : Nat) (xs : List α) : List (List α) :=
  (List.range (ceilDiv xs.length n)).map (fun i => (xs.drop (i * n)).take n)

/-- A message's frames: OFF, payload, LASTF. -/
abbrev Msg := List (Nat × List Byte × Bool)

/-- Pieces as a message; one without a piece has one empty frame. -/
def msgOf (ps : List (Nat × List Byte)) : Msg :=
  if ps.isEmpty then [(0, [], true)]
  else (List.range ps.length).map (fun i =>
    let p := ps.getD i (0, [])
    (p.1, pad32 p.2, i + 1 == ps.length))

/-- A plane of exponents as a message. -/
def planeMsg (plane : List Nat) : Msg :=
  let ps := pieces32 4096 (plane.map (fun e => BitVec.ofNat 8 e))
  msgOf ((List.range ps.length).map (fun i => (i * 4096, ps.getD i [])))

/-- A node's partial on its way up. -/
def upMsg (ph : Nat) (n : NodeSum) : Msg :=
  if ph = 0 then planeMsg n.plane
  else if ph = 1 then
    let ps := pieces32 21 ((sentBlocks n.plane).zip n.words)
    msgOf (ps.map (fun p => ((p.headD (0, [])).1, p.flatMap (fun b => sumBytes b.2))))
  else msgOf [(0, n.part.record)]

/-- The output blocks of a downward frame: as many as 4,096 bytes hold. -/
def downBlocks (f : Nat) : Nat := 4096 / (fmtBytes f + 1)

/-- The root's output block for an agreed exponent and its sum elements (10 R284). -/
def rootBlock (t : Tree) (e : Nat) (ws : List (Option Int)) : QBlock :=
  if e = 0 then zeroBlock t.ofmt 32
  else if e = 255 then poisonBlock t.ofmt 32
  else requant t.ofmt none (ws.map (fun w => (w.map (fun v => (v, (e : Int) - fmtBias t.fmt - 8)), 0)))

/-- The root's output blocks, in order. -/
def rootBlocks (t : Tree) (n : NodeSum) : List QBlock :=
  let sent := sentBlocks n.plane
  (List.range n.plane.length).map (fun b => rootBlock t (n.plane.getD b 0) (n.words.getD (sent.idxOf b) []))

/-- The root's result on its way down. -/
def downMsg (t : Tree) (ph : Nat) (n : NodeSum) : Msg :=
  if ph = 0 then planeMsg n.plane
  else if ph = 1 then
    let k := downBlocks t.ofmt
    let ps := pieces32 k (rootBlocks t n)
    msgOf ((List.range ps.length).map (fun i => (i * k, mantBytes t.ofmt (ps.getD i []) ++ expBytes (ps.getD i []))))
  else msgOf [(0, n.part.record)]

/-- The flags of the done message: NF, SAT, INEXACT. -/
def doneFlags (t : Tree) (ph : Nat) (n : NodeSum) : Nat :=
  if ph = 1 then blkFlags (rootBlocks t n) % 4 else b2n n.part.nx + 4 * b2n n.part.inexact

/-- A TREE frame on an edge; `dir` 0 up, 1 down. -/
def Dev.treeFrame (d : Dev) (e : Edge) (t ph dir : Nat) (m : Nat × List Byte × Bool) : Dev :=
  let f := d.mkFrame 4 1 e.dev (BitVec.ofNat 32 (t + 256 * ph + 1024 * dir)) (BitVec.ofNat 32 m.1) m.2.1
  d.sendOn e.port { f with lastf := m.2.2 }

/-! ### The contributors' commands -/

/-- Whether a run is an RTX that waits for its tree. -/
def Run.waitsTree (r : Run) : Bool := r.fin == .going && engOf r.cmd.word == 2 && opOf r.cmd.word == 6

/-- The RTX with an issue number that waits for its tree on a core, and its queue. -/
def Core.rtxOf (k : Core) (ord : Nat) : Option (Nat × Run) :=
  (List.range 4).findSome? (fun i =>
    ((k.runs (8 + i)).find? (fun r => r.waitsTree && r.cmd.ord == ord)).map (fun r => (8 + i, r)))

/-- A running command of a queue is replaced, where its command stands. -/
def Core.putRun (k : Core) (q : Nat) (r : Run) : Core :=
  k.setRuns q ((k.runs q).map (fun x => if x.cmd = r.cmd then r else x))

/-- Every contributing core's waiting RTX goes on as `f` says, and ends with `fin` where that ends it no other way. -/
def Dev.onRtx (d : Dev) (x : TreeRun) (fin : CmdEnd) (f : Job → Job) : Dev :=
  x.cores.foldl (fun (e : Dev) p =>
    match (e.core p.1).rtxOf p.2 with
    | none => e
    | some (q, r) =>
      let j := f { d := e, c := p.1, q := q, cmd := r.cmd }
      (j.d.onCore p.1 (fun k => k.putRun q { r with fin := j.fin.getD fin })).onCtx p.1 r.cmd.ctx
        (fun k => k.setFlags j.flags)) d

/-- A TREE error ends the RTX of every contributing core: those that have started end at once, and the run stands as failed
until every core has met it (10 R287). -/
def Dev.failTree (d : Dev) (x : TreeRun) : Dev :=
  let d1 := d.onRtx x (.cmderr 6) id
  if (treeFields x.desc).cores.all (fun c => x.cores.any (fun p => p.1 == c)) then d1.dropTree x.tree x.phase
  else d1.setTree { x with failed := true }

/-- A contributor takes what a downward frame holds of the result (10 R282, R284, R286). -/
def Job.takeDown (j : Job) (t : Tree) (ph off : Nat) (pl : List Byte) : Job :=
  let k := 2 * j.op 2
  if ph = 0 then j.write ((j.dpa (k + 4) + off) % 2 ^ 48) (pl.take (t.nblk - off))
  else if ph = 1 then
    let n := min (downBlocks t.ofmt) (t.nblk - off)
    let b := fmtBytes t.ofmt
    j.writeAll [((j.dpa (k + 2) + off * b) % 2 ^ 48, sliceBytes pl 0 (n * b)), ((j.dpa (k + 3) + off) % 2 ^ 48, sliceBytes pl (n * b) n)]
  else j.onCore (fun k => k.setRa (j.op 3) (RaPart.ofRecord pl))

/-- A contributor takes the done message (10 R284, R286). -/
def Job.takeDone (j : Job) (pl : List Byte) : Job :=
  let b := fieldBytes pl 0 1
  let lost := b / 4 % 2 == 1
  ((j.flag (b % 4)).inexact lost).onDev (fun d => if lost then d.count (j.c * 8 + 3) 4 1 else d)

/-- A frame of the result: to this device's contributors, and on to the children in CHILD order. -/
def Dev.treeSpread (d : Dev) (x : TreeRun) (m : Nat × List Byte × Bool) (fin : CmdEnd) (f : Job → Job) : Dev :=
  (treeFields x.desc).kids.foldl (fun e k => e.treeFrame k x.tree x.phase 1 m) (d.onRtx x fin f)

/-- A downward frame at a node. -/
def Dev.treeDown (d : Dev) (x : TreeRun) (m : Nat × List Byte × Bool) : Dev :=
  let t := treeFields x.desc
  if x.got then (d.treeSpread x m .ok (fun j => j.takeDone m.2.1)).dropTree x.tree x.phase
  else
    let take := fun (j : Job) => j.takeDown t x.phase m.1 m.2.1
    if x.phase = 0 ∧ m.2.2 then (d.treeSpread x m .ok take).dropTree x.tree x.phase
    else (d.treeSpread x m .going take).setTree { x with got := m.2.2 }

/-- The same for the run as it stands. -/
def Dev.treeDownAt (d : Dev) (t ph : Nat) (m : Nat × List Byte × Bool) : Dev := d.treeDown (d.treeRun t ph) m

/-- The root's result goes down (10 R282, R284, R286). -/
def Dev.treeRoot (d : Dev) (x : TreeRun) (n : NodeSum) : Dev :=
  let t := treeFields x.desc
  let done : Msg := if x.phase = 0 then [] else [(0, pad32 (toBytes 1 (doneFlags t x.phase n)), true)]
  (downMsg t x.phase n ++ done).foldl (fun e m => e.treeDownAt x.tree x.phase m) (d.setTree { x with sent := true })

/-- A node's header and partial go up (10 R287). -/
def Dev.treeUp (d : Dev) (x : TreeRun) (e : Edge) (n : NodeSum) : Dev :=
  ((0, treeHeader (treeFields x.desc) x.phase, true) :: upMsg x.phase n).foldl
    (fun f m => f.treeFrame e x.tree x.phase 0 m) (d.setTree { x with sent := true })

/-- Whether a child's header message has come and differs from this device's descriptor. -/
def Dev.headBad (d : Dev) (x : TreeRun) (e : Edge) : Bool :=
  let h := mapGet (fun _ => []) x.heads (d.linkOf e.port)
  !h.isEmpty && h != treeHeader (treeFields x.desc) x.phase

/-- A run goes on as far as it can: once every contributor and every child has sent its data, they are combined. -/
def Dev.treeAdvance (d : Dev) (x : TreeRun) : Dev :=
  if x.desc.isEmpty || x.failed || x.sent then d
  else
    let t := treeFields x.desc
    if t.kids.any (d.headBad x) then d.failTree x
    else if t.cores.all (fun c => x.parts.any (fun p => p.1 == c)) &&
        t.kids.all (fun e => mapGet (fun _ => false) x.kidsDone (d.linkOf e.port)) then
      let own := t.cores.map (fun c => (c, ((x.parts.find? (fun p => p.1 == c)).map (fun p => p.2)).getD []))
      let kids := t.kids.map (fun e => mapGet (fun _ => []) x.kids (d.linkOf e.port))
      let n := nodeSum d.freeSum t x.phase own kids
      let d1 := if n.part.nx then d.useFree 1 else d
      match t.parent with
      | some e => d1.treeUp x e n
      | none => d1.treeRoot x n
    else d

/-- Every run goes on. -/
def Dev.treesAdvance (d : Dev) : Dev := d.trees.foldl (fun e x => e.treeAdvance (e.treeRun x.tree x.phase)) d

/-! ### RTX (05 R139; 10 R281 to R287) -/

/-- The run that core `c` meets: one that has failed is over for a core whose RTX it has ended, which starts the tree anew
(DEDUCED, assumption log 42). -/
def Dev.runFor (d : Dev) (t ph c : Nat) : TreeRun :=
  let x := d.treeRun t ph
  if x.failed && x.cores.any (fun p => p.1 == c) then { x with failed := false, desc := [], cores := [], parts := [] } else x

/-- This core joins the run of a tree with its part; descriptors that differ, a failed exponent check or a run that has failed
end the RTX of every contributing core with TREE. -/
def Job.joinTree (j : Job) (t : Tree) (ph : Nat) (desc : List Byte) (part : Option (List Byte)) : Job :=
  let x := j.d.runFor t.id ph j.c
  let live := x.cores.any (fun p => p.1 == j.c && (j.core.rtxOf p.2).isSome)
  if live || !t.cores.contains j.c then j.err 6
  else
    let cores := x.cores.filter (fun p => p.1 ≠ j.c) ++ [(j.c, j.cmd.ord)]
    let parts := x.parts.filter (fun p => p.1 ≠ j.c)
    let x1 := { x with desc := if x.desc.isEmpty then desc else x.desc, cores := cores }
    match part with
    | some bs =>
      if x.failed || x1.desc != desc then (j.onDev (fun d => d.failTree x1)).err 6
      else { j.onDev (fun d => d.setTree { x1 with parts := parts ++ [(j.c, bs)] }) with fin := some .going }
    | none => (j.onDev (fun d => d.failTree x1)).err 6

/-- An invalid descriptor: the run of the tree that its bytes name fails with this command, and for the contributing cores
that are still to join it (10 R287). -/
def Job.badTree (j : Job) (ph : Nat) (desc : List Byte) : Job :=
  let x := j.d.runFor (fieldBytes desc 0 1) ph j.c
  let x1 := { x with cores := x.cores.filter (fun p => p.1 ≠ j.c) ++ [(j.c, j.cmd.ord)] }
  if x.desc.isEmpty then (j.onDev (fun d => d.setTree { x1 with failed := true })).err 6
  else (j.onDev (fun d => d.failTree x1)).err 6

/-- The DPAs that a phase reads or writes. -/
def Job.rtxPlaces (j : Job) (ph : Nat) : List Nat :=
  let k := 2 * j.op 2
  if ph = 0 then [j.dpa (k + 1), j.dpa (k + 4)]
  else if ph = 1 then [j.dpa k, j.dpa (k + 1), j.dpa (k + 2), j.dpa (k + 3), j.dpa (k + 4)]
  else []

/-- RTX. -/
def rtxRun (j : Job) : Job :=
  let ph := j.op 0
  let a := j.dpa (j.op 1)
  let j0 := j.onDev (fun d => d.count (j.c * 8 + 3) 2 1)
  (j0.check [(ph != 2 && !treeFmt (j.op 4), 2), (memLvl (j.rtxPlaces ph), 5)]).go (fun e =>
    let r := e.read a 128
    r.2.2.go (fun x =>
      match if a % 64 = 0 ∧ r.2.1.isEmpty then x.d.sumTree r.1 else none with
      | none => x.badTree ph r.1
      | some t =>
        (x.check [(ph != 2 && j.op 4 != t.fmt, 2)]).go (fun y =>
          let p := y.treePart t ph
          p.2.go (fun z => z.joinTree t ph r.1 p.1))))

/-- RTX (05 R139). -/
def execRtx (core : CoreId) (q : EngQueue) (s : State) : Host.Outcome State Fault Refusal :=
  s.run (fun d => (d.engineRow core q 2 6 rtxRun).treesAdvance)

/-! ### TREE frames -/

/-- A frame from below: the header message first, then the child's data. -/
def Dev.treeFromChild (d : Dev) (p : Nat) (x : TreeRun) (f : Frame) : Dev :=
  let l := d.linkOf p
  let mine := x.desc.isEmpty || (treeFields x.desc).kids.any (fun e => d.linkOf e.port == l)
  if x.failed || x.sent || !mine then d
  else
    let x1 :=
      if (mapGet (fun _ => []) x.heads l).isEmpty then { x with heads := mapSet (fun _ => []) x.heads l f.payload }
      else
        let bs := mapGet (fun _ => []) x.kids l ++ f.payload
        { x with kids := mapSet (fun _ => []) x.kids l bs, kidsDone := mapSet (fun _ => false) x.kidsDone l f.lastf }
    (d.setTree x1).treeAdvance x1

/-- A frame from the parent. -/
def Dev.treeFromParent (d : Dev) (p : Nat) (x : TreeRun) (f : Frame) : Dev :=
  match if x.sent then (treeFields x.desc).parent else none with
  | some e => if d.linkOf e.port = d.linkOf p then d.treeDown x (f.off.toNat, f.payload, f.lastf) else d
  | none => d

/-- An accepted TREE frame. -/
def Dev.treeArrived (d : Dev) (p : Nat) (f : Frame) : Dev :=
  let t := bits f.xid 7 0
  let ph := bits f.xid 9 8
  if ph = 3 then d
  else if bit f.xid 10 then d.treeFromParent p (d.treeRun t ph) f
  else d.treeFromChild p (d.treeRun t ph) f

/-- TREE_FRAME (10 R280 to R287). -/
def execTreeFrame (p : PortId) (f : Frame) (s : State) : Host.Outcome State Fault Refusal :=
  s.run (fun d => d.acceptSeq p 4 f (fun g e => (e.consumed p g).treeArrived p g))

end Sys2Proof.Machine
end

