-- ==== Sys2Proof/Machine/Walker.lean ====
section
/-! DEFINITION. The slot-order walkers of the fabric ports (10 R275, R276): a port sends the transfer of its current entry,
posted at this device or arriving for another, and goes on to the next. -/

namespace Sys2Proof.Machine

/-- A slot-order entry (10 Table 10.4). -/
structure SlotEntry where
  xid : W32
  len : Nat
  dst : Nat
  /-- 0 LOCAL, 1 FORWARD. -/
  kind : Nat
  inport : Nat
  deriving DecidableEq, Repr

/-- The fields of an entry's 16 bytes. -/
def slotFields (bs : List Byte) : SlotEntry :=
  { xid := BitVec.ofNat 32 (fieldBytes bs 0 4), len := fieldBytes bs 4 4, dst := fieldBytes bs 8 2 % 512,
    kind := fieldBytes bs 10 1 / 64, inport := fieldBytes bs 10 1 % 32 }

/-- Whether an entry is well formed: KIND, LEN, its reserved bits, and INPORT of a FORWARD entry (10 R275). -/
def slotOk (bs : List Byte) : Bool :=
  let e := slotFields bs
  decide (e.kind < 2) && decide (32 ≤ e.len) && e.len % 32 == 0 && fieldBytes bs 8 2 / 512 == 0 &&
  fieldBytes bs 10 1 / 32 % 2 == 0 && fieldBytes bs 11 5 == 0 && (e.kind == 0 || decide (e.inport < 24))

/-- The walker's index. -/
def Dev.soIndex (d : Dev) (p : Nat) : Nat := d.rbits (.portSoptr p) 23 0

/-- The slot order of the registers takes effect (10 R275). -/
def Dev.soLatch (d : Dev) (p : Nat) : Dev :=
  d.setLink p { d.link p with sobase := d.rbits (.portSobase p) 47 4 * 16, socnt := d.rbits (.portSocnt p) 23 0 }

/-- The slot order in effect: that of the registers where none is. -/
def Dev.soStart (d : Dev) (p : Nat) : Dev := if (d.link p).socnt = 0 then d.soLatch p else d

/-- The walker goes on to the next entry; after the last one it counts a PASS and begins again (10 R275). -/
def Dev.soAdvance (d : Dev) (p : Nat) : Dev :=
  let i := d.soIndex p + 1
  if i < (d.link p).socnt then d.setRbits (.portSoptr p) 23 0 i
  else ((d.setRbits (.portSoptr p) 23 0 0).setRbits (.portSoptr p) 31 24 ((d.rbits (.portSoptr p) 31 24 + 1) % 256)).soLatch p

/-- The walker stops at its entry: SOSTALL (10 R275). -/
def Dev.soHalt (d : Dev) (p : Nat) : Dev := (d.setLink p { d.link p with soStop := true }).setRbit (.portStatus p) 2 true

/-- The bytes of the walker's entry, where they can be read. -/
def Dev.soBytes (d : Dev) (p : Nat) : Option (List Byte) :=
  let a := ((d.link p).sobase + 16 * d.soIndex p) % 2 ^ 48
  if d.memOk a 16 && !d.badAt a 16 then some (d.bytesAt a 16) else none

/-- Whether a frame of VC0 may leave the link of port `p` now. -/
def Dev.vc0Free (d : Dev) (p : Nat) (f : Frame) : Bool :=
  let k := d.link p
  d.linkUp p && k.sendq.all (fun e => e.2.vc != 0) && k.mayGo f

/-- The next DATA frame of a posted transfer (10 R276, Table 10.2). -/
def Dev.postFrame (d : Dev) (x : Post) : Frame :=
  let n := min 4096 (x.len - x.sent)
  let f := d.mkFrame 1 0 x.dev x.xid (BitVec.ofNat 32 x.sent) (d.bytesAt ((x.src + x.sent) % 2 ^ 48) n)
  { f with lastf := x.sent + n == x.len, addr := BitVec.ofNat 48 x.dst, tv := x.tv, core := BitVec.ofNat 9 x.tcore,
           token := BitVec.ofNat 8 x.token }

/-- How far a posted transfer has got: it waits, its last frame has entered the replay buffer, or it has failed. -/
inductive Progress where
  /-- Frames are left that may not leave yet. -/
  | waits
  /-- Every frame has entered the replay buffer. -/
  | done
  /-- A byte failed parity or could not be read (10 R266). -/
  | failed
  deriving DecidableEq, Repr

/-- As many of `fuel` frames of a posted transfer as may leave do, in OFF order. -/
def Dev.sendPost (p : Nat) : Nat → Dev → Post → Dev × Post × Progress
  | 0, d, x => (d, x, if x.len ≤ x.sent then .done else .waits)
  | fuel + 1, d, x =>
    if x.len ≤ x.sent then (d, x, .done)
    else
      let n := min 4096 (x.len - x.sent)
      let a := (x.src + x.sent) % 2 ^ 48
      let f := d.postFrame x
      if !d.vc0Free p f then (d, x, .waits)
      else if !d.memOk a n then (d, x, .failed)
      else if d.badAt a n then (d.reportParity a n, x, .failed)
      else Dev.sendPost p fuel ((d.readServed a n).sendOn p f) { x with sent := x.sent + n }

/-- The post queue of port `p` with a post replaced or taken out. -/
def Dev.setPost (d : Dev) (p : Nat) (x : Post) (y : Option Post) : Dev :=
  let k := d.link p
  d.setLink p { k with posts := k.posts.flatMap (fun z => if z.core = x.core ∧ z.q = x.q then y.toList else [z]) }

/-- A LOCAL entry: its posted descriptor's frames are sent. A post that the entry does not match ends with XFER and the
walker stays; a transfer that fails is not delivered, and the descriptor ends (assumption log 42). -/
def Dev.soLocal (d : Dev) (p : Nat) (e : SlotEntry) : Dev :=
  match (d.link p).posts.find? (fun x => x.xid == e.xid) with
  | none => d
  | some x =>
    if e.kind ≠ 0 ∨ x.len ≠ e.len ∨ x.dev ≠ e.dst then (d.setPost p x none).fabricEnd x (some 0x0A)
    else
      let r := Dev.sendPost p (ceilDiv x.len 4096) d x
      match r.2.2 with
      | .waits => r.1.setPost p x (some r.2.1)
      | .done => ((r.1.setPost p x none).fabricEnd x none).soAdvance p
      | .failed => (((r.1.setPost p x none).xfailAt p x.xid).fabricEnd x none).soAdvance p

/-- The first frame of a transfer in a receive buffer, and the buffer without it. -/
def takeFwd (xid : W32) : List Frame → Option (Frame × List Frame)
  | [] => none
  | f :: fs => if f.xid = xid then some (f, fs) else (takeFwd xid fs).map (fun r => (r.1, f :: r.2))

/-- As many of `fuel` frames of a FORWARD transfer as have arrived and may leave do, in arrival order; whether the last
frame of the transfer has left. -/
def Dev.sendFwd (p inp : Nat) (xid : W32) : Nat → Dev → Dev × Bool
  | 0, d => (d, false)
  | fuel + 1, d =>
    let k := d.link inp
    match takeFwd xid k.fwd with
    | none => (d, false)
    | some (f, rest) =>
      if !d.vc0Free p f then (d, false)
      else
        let d1 := (d.setLink inp { k with fwd := rest }).sendVia p (some inp) f
        if f.lastf then (d1, true) else Dev.sendFwd p inp xid fuel d1

/-- Whether frames of a transfer wait at another port than INPORT. -/
def Dev.strayFwd (d : Dev) (inp : Nat) (xid : W32) : Bool :=
  (List.range 24).any (fun q => d.linkOf q == q && q != d.linkOf inp && (d.link q).fwd.any (fun f => f.xid == xid))

/-- A FORWARD entry: a post with its XID ends with XFER; frames at a wrong port stop the walker; else the frames that have
arrived go on. -/
def Dev.soForward (d : Dev) (p : Nat) (e : SlotEntry) : Dev :=
  let d0 := d.soLocal p e
  if d0.strayFwd e.inport e.xid then d0.soHalt p
  else
    let r := Dev.sendFwd p e.inport e.xid (d0.link e.inport).fwd.length d0
    if r.2 then r.1.soAdvance p else r.1

/-- The walker of the link of port `p` works on its current entry. -/
def Dev.walk (d : Dev) (p : Nat) : Dev :=
  let q := d.linkOf p
  let d1 := d.soStart q
  if (d1.link q).soStop || (d1.link q).socnt == 0 || d1.portOff q then d1
  else
    match d1.soBytes q with
    | none => d1.soHalt q
    | some bs =>
      let e := slotFields bs
      if !slotOk bs then d1.soHalt q
      else if e.kind = 0 then d1.soLocal q e
      else d1.soForward q e

/-- SLOT_ORDER_ENTRY (10 R275, R276). -/
def execSlotOrderEntry (p : PortId) (s : State) : Host.Outcome State Fault Refusal := s.run (fun d => d.walk p)

/-- The walker has waited on one entry for longer than SOTMO: SOSTALL and a report; it goes on waiting (10 R275). -/
def Dev.walkStall (d : Dev) (p : Nat) : Dev :=
  let q := d.linkOf p
  let d1 := d.soStart q
  if d1.rbits .fabCfg 31 24 = 0 || (d1.link q).soStop || (d1.link q).socnt == 0 then d
  else
    match d1.soBytes q with
    | none => d
    | some bs => (d1.setRbit (.portStatus q) 2 true).faultAt 0x0404 (unitPort q) (fieldBytes bs 0 4)

/-- SLOT_ORDER_STALL (10 R275). -/
def execSlotOrderStall (p : PortId) (s : State) : Host.Outcome State Fault Refusal := s.run (fun d => d.walkStall p)

end Sys2Proof.Machine
end

