-- ==== Sys2Proof/Machine/Dispatch.lean ====
section
/-! DEFINITION. The dispatcher: one arm per command of the table, each a direct call of that command's meaning. -/

namespace Sys2Proof.Machine

/-- The effect of a command on everything but the queue. -/
def exec (i : Instr) (s : State) : Host.Outcome State Fault Refusal :=
  match i with
  | .bundleIssue core => Sys2Proof.Machine.execBundleIssue core s
  | .gateReevaluate core ctx => Sys2Proof.Machine.execGateReevaluate core ctx s
  | .nop core ctx => Sys2Proof.Machine.execNop core ctx s
  | .add core ctx d a b => Sys2Proof.Machine.execAdd core ctx d a b s
  | .sub core ctx d a b => Sys2Proof.Machine.execSub core ctx d a b s
  | .mul core ctx d a b => Sys2Proof.Machine.execMul core ctx d a b s
  | .mulh core ctx d a b => Sys2Proof.Machine.execMulh core ctx d a b s
  | .div core ctx d a b => Sys2Proof.Machine.execDiv core ctx d a b s
  | .rem core ctx d a b => Sys2Proof.Machine.execRem core ctx d a b s
  | .divu core ctx d a b => Sys2Proof.Machine.execDivu core ctx d a b s
  | .remu core ctx d a b => Sys2Proof.Machine.execRemu core ctx d a b s
  | .andOp core ctx d a b => Sys2Proof.Machine.execAndOp core ctx d a b s
  | .orOp core ctx d a b => Sys2Proof.Machine.execOrOp core ctx d a b s
  | .xorOp core ctx d a b => Sys2Proof.Machine.execXorOp core ctx d a b s
  | .shl core ctx d a b => Sys2Proof.Machine.execShl core ctx d a b s
  | .shr core ctx d a b => Sys2Proof.Machine.execShr core ctx d a b s
  | .sar core ctx d a b => Sys2Proof.Machine.execSar core ctx d a b s
  | .slt core ctx d a b => Sys2Proof.Machine.execSlt core ctx d a b s
  | .sltu core ctx d a b => Sys2Proof.Machine.execSltu core ctx d a b s
  | .seq core ctx d a b => Sys2Proof.Machine.execSeq core ctx d a b s
  | .addi core ctx d a imm => Sys2Proof.Machine.execAddi core ctx d a imm s
  | .andi core ctx d a imm => Sys2Proof.Machine.execAndi core ctx d a imm s
  | .ori core ctx d a imm => Sys2Proof.Machine.execOri core ctx d a imm s
  | .xori core ctx d a imm => Sys2Proof.Machine.execXori core ctx d a imm s
  | .shli core ctx d a imm => Sys2Proof.Machine.execShli core ctx d a imm s
  | .shri core ctx d a imm => Sys2Proof.Machine.execShri core ctx d a imm s
  | .sari core ctx d a imm => Sys2Proof.Machine.execSari core ctx d a imm s
  | .slti core ctx d a imm => Sys2Proof.Machine.execSlti core ctx d a imm s
  | .movi core ctx d imm => Sys2Proof.Machine.execMovi core ctx d imm s
  | .movhi core ctx d imm => Sys2Proof.Machine.execMovhi core ctx d imm s
  | .br core ctx off => Sys2Proof.Machine.execBr core ctx off s
  | .brz core ctx a off => Sys2Proof.Machine.execBrz core ctx a off s
  | .brnz core ctx a off => Sys2Proof.Machine.execBrnz core ctx a off s
  | .jr core ctx a => Sys2Proof.Machine.execJr core ctx a s
  | .call core ctx d off => Sys2Proof.Machine.execCall core ctx d off s
  | .wait core ctx t a => Sys2Proof.Machine.execWait core ctx t a s
  | .lease core ctx u => Sys2Proof.Machine.execLease core ctx u s
  | .release core ctx u => Sys2Proof.Machine.execRelease core ctx u s
  | .halt core ctx => Sys2Proof.Machine.execHalt core ctx s
  | .trap core ctx imm => Sys2Proof.Machine.execTrap core ctx imm s
  | .fclr core ctx mask => Sys2Proof.Machine.execFclr core ctx mask s
  | .rdst core ctx d => Sys2Proof.Machine.execRdst core ctx d s
  | .rdtok core ctx d t => Sys2Proof.Machine.execRdtok core ctx d t s
  | .setprio core ctx p => Sys2Proof.Machine.execSetprio core ctx p s
  | .a1bar core ctx => Sys2Proof.Machine.execA1bar core ctx s
  | .ld8 core ctx d a off => Sys2Proof.Machine.execLd8 core ctx d a off s
  | .ld8u core ctx d a off => Sys2Proof.Machine.execLd8u core ctx d a off s
  | .ld16 core ctx d a off => Sys2Proof.Machine.execLd16 core ctx d a off s
  | .ld16u core ctx d a off => Sys2Proof.Machine.execLd16u core ctx d a off s
  | .ld32 core ctx d a off => Sys2Proof.Machine.execLd32 core ctx d a off s
  | .ld32u core ctx d a off => Sys2Proof.Machine.execLd32u core ctx d a off s
  | .ld64 core ctx d a off => Sys2Proof.Machine.execLd64 core ctx d a off s
  | .st8 core ctx d a off => Sys2Proof.Machine.execSt8 core ctx d a off s
  | .st16 core ctx d a off => Sys2Proof.Machine.execSt16 core ctx d a off s
  | .st32 core ctx d a off => Sys2Proof.Machine.execSt32 core ctx d a off s
  | .st64 core ctx d a off => Sys2Proof.Machine.execSt64 core ctx d a off s
  | .loadComplete core ctx => Sys2Proof.Machine.execLoadComplete core ctx s
  | .storeComplete core ctx => Sys2Proof.Machine.execStoreComplete core ctx s
  | .qpush core ctx n a => Sys2Proof.Machine.execQpush core ctx n a s
  | .qpop core ctx n a => Sys2Proof.Machine.execQpop core ctx n a s
  | .qtpush core ctx n a => Sys2Proof.Machine.execQtpush core ctx n a s
  | .qtpop core ctx n a => Sys2Proof.Machine.execQtpop core ctx n a s
  | .queueAccessComplete core ctx => Sys2Proof.Machine.execQueueAccessComplete core ctx s
  | .tbump core ctx t => Sys2Proof.Machine.execTbump core ctx t s
  | .tokenWrite path core n v => Sys2Proof.Machine.execTokenWrite path core n v s
  | .ctxcmdAlloc core ctx => Sys2Proof.Machine.execCtxcmdAlloc core ctx s
  | .ctxcmdStart core ctx => Sys2Proof.Machine.execCtxcmdStart core ctx s
  | .ctxcmdHalt core ctx => Sys2Proof.Machine.execCtxcmdHalt core ctx s
  | .ctxcmdResume core ctx => Sys2Proof.Machine.execCtxcmdResume core ctx s
  | .ctxcmdReset core ctx => Sys2Proof.Machine.execCtxcmdReset core ctx s
  | .ctxcmdFree core ctx => Sys2Proof.Machine.execCtxcmdFree core ctx s
  | .ctxWindowWrite path core off wide v => Sys2Proof.Machine.execCtxWindowWrite path core off wide v s
  | .qcfgWrite path core q v => Sys2Proof.Machine.execQcfgWrite path core q v s
  | .intercoreTransfer core q => Sys2Proof.Machine.execIntercoreTransfer core q s
  | .leaseMove core u => Sys2Proof.Machine.execLeaseMove core u s
  | .engineCmdComplete core q => Sys2Proof.Machine.execEngineCmdComplete core q s
  | .mload core q => Sys2Proof.Machine.execMload core q s
  | .minv core q => Sys2Proof.Machine.execMinv core q s
  | .mmul core q => Sys2Proof.Machine.execMmul core q s
  | .mmulo core q => Sys2Proof.Machine.execMmulo core q s
  | .mclr core q => Sys2Proof.Machine.execMclr core q s
  | .mturn core q => Sys2Proof.Machine.execMturn core q s
  | .vld core q => Sys2Proof.Machine.execVld core q s
  | .vldi core q => Sys2Proof.Machine.execVldi core q s
  | .vst core q => Sys2Proof.Machine.execVst core q s
  | .vop1 core q => Sys2Proof.Machine.execVop1 core q s
  | .vop2 core q => Sys2Proof.Machine.execVop2 core q s
  | .vcmp core q => Sys2Proof.Machine.execVcmp core q s
  | .plogic core q => Sys2Proof.Machine.execPlogic core q s
  | .pset core q => Sys2Proof.Machine.execPset core q s
  | .vperm core q => Sys2Proof.Machine.execVperm core q s
  | .vsf core q => Sys2Proof.Machine.execVsf core q s
  | .vsmax core q => Sys2Proof.Machine.execVsmax core q s
  | .vepi core q => Sys2Proof.Machine.execVepi core q s
  | .vclr core q => Sys2Proof.Machine.execVclr core q s
  | .rsum core q => Sys2Proof.Machine.execRsum core q s
  | .rmax core q => Sys2Proof.Machine.execRmax core q s
  | .rmin core q => Sys2Proof.Machine.execRmin core q s
  | .rssq core q => Sys2Proof.Machine.execRssq core q s
  | .rseg core q => Sys2Proof.Machine.execRseg core q s
  | .rnoise core q => Sys2Proof.Machine.execRnoise core q s
  | .rtx core q => Sys2Proof.Machine.execRtx core q s
  | .rst core q => Sys2Proof.Machine.execRst core q s
  | .rclr core q => Sys2Proof.Machine.execRclr core q s
  | .gtab core q => Sys2Proof.Machine.execGtab core q s
  | .ggath core q => Sys2Proof.Machine.execGgath core q s
  | .gscat core q => Sys2Proof.Machine.execGscat core q s
  | .gscadd core q => Sys2Proof.Machine.execGscadd core q s
  | .gseg core q => Sys2Proof.Machine.execGseg core q s
  | .gpack core q => Sys2Proof.Machine.execGpack core q s
  | .gunpk core q => Sys2Proof.Machine.execGunpk core q s
  | .gsort core q => Sys2Proof.Machine.execGsort core q s
  | .guniq core q => Sys2Proof.Machine.execGuniq core q s
  | .gtopk core q => Sys2Proof.Machine.execGtopk core q s
  | .ghist core q => Sys2Proof.Machine.execGhist core q s
  | .gseRowReturn core q pos => Sys2Proof.Machine.execGseRowReturn core q pos s
  | .gseRemoteTimeout core q => Sys2Proof.Machine.execGseRemoteTimeout core q s
  | .mvx core q => Sys2Proof.Machine.execMvx core q s
  | .mveDescriptorStart core q => Sys2Proof.Machine.execMveDescriptorStart core q s
  | .mveCopy core q => Sys2Proof.Machine.execMveCopy core q s
  | .mveConvert core q => Sys2Proof.Machine.execMveConvert core q s
  | .mveFill core q => Sys2Proof.Machine.execMveFill core q s
  | .mveEncode core q => Sys2Proof.Machine.execMveEncode core q s
  | .mveDecode core q => Sys2Proof.Machine.execMveDecode core q s
  | .mveFabric core q => Sys2Proof.Machine.execMveFabric core q s
  | .codecBlockAdmit n core q => Sys2Proof.Machine.execCodecBlockAdmit n core q s
  | .codecBlockDone n core q => Sys2Proof.Machine.execCodecBlockDone n core q s
  | .tableLoad path n slot => Sys2Proof.Machine.execTableLoad path n slot s
  | .tableStage path n slot => Sys2Proof.Machine.execTableStage path n slot s
  | .tableCommit path n slot => Sys2Proof.Machine.execTableCommit path n slot s
  | .tableFetchDone n slot => Sys2Proof.Machine.execTableFetchDone n slot s
  | .tableLoadActivate n slot => Sys2Proof.Machine.execTableLoadActivate n slot s
  | .bdpRead chan off len => Sys2Proof.Machine.execBdpRead chan off len s
  | .bdpWrite chan off data => Sys2Proof.Machine.execBdpWrite chan off data s
  | .bdpPrefetch chan len => Sys2Proof.Machine.execBdpPrefetch chan len s
  | .bdpAddrWrite path chan v => Sys2Proof.Machine.execBdpAddrWrite path chan v s
  | .bdpCtlWrite path chan v => Sys2Proof.Machine.execBdpCtlWrite path chan v s
  | .channelMigrationDone n => Sys2Proof.Machine.execChannelMigrationDone n s
  | .pregCfgWrite path u n v => Sys2Proof.Machine.execPregCfgWrite path u n v s
  | .dataFrame p f => Sys2Proof.Machine.execDataFrame p f s
  | .rdreqFrame p f => Sys2Proof.Machine.execRdreqFrame p f s
  | .rdrspFrame p f => Sys2Proof.Machine.execRdrspFrame p f s
  | .treeFrame p f => Sys2Proof.Machine.execTreeFrame p f s
  | .chorusVoteFrame p f => Sys2Proof.Machine.execChorusVoteFrame p f s
  | .chorusDecisionFrame p f => Sys2Proof.Machine.execChorusDecisionFrame p f s
  | .croakFrame p f => Sys2Proof.Machine.execCroakFrame p f s
  | .ctrlFrame p f => Sys2Proof.Machine.execCtrlFrame p f s
  | .qmsgFrame p f => Sys2Proof.Machine.execQmsgFrame p f s
  | .qmsgRelease core q => Sys2Proof.Machine.execQmsgRelease core q s
  | .qmsgSend core q => Sys2Proof.Machine.execQmsgSend core q s
  | .slotOrderEntry p => Sys2Proof.Machine.execSlotOrderEntry p s
  | .slotOrderStall p => Sys2Proof.Machine.execSlotOrderStall p s
  | .replayTimeout p => Sys2Proof.Machine.execReplayTimeout p s
  | .ctrlSend p => Sys2Proof.Machine.execCtrlSend p s
  | .croakMiss p => Sys2Proof.Machine.execCroakMiss p s
  | .portCtlWrite path p v => Sys2Proof.Machine.execPortCtlWrite path p v s
  | .linkUp p nbrDev nbrPort => Sys2Proof.Machine.execLinkUp p nbrDev nbrPort s
  | .laneSpareSwitch p lane => Sys2Proof.Machine.execLaneSpareSwitch p lane s
  | .fabAbsentWrite path k v => Sys2Proof.Machine.execFabAbsentWrite path k v s
  | .arbDecision inst req more waited => Sys2Proof.Machine.execArbDecision inst req more waited s
  | .arbStarveFlag inst input waited => Sys2Proof.Machine.execArbStarveFlag inst input waited s
  | .lulData l f => Sys2Proof.Machine.execLulData l f s
  | .lulNak l f => Sys2Proof.Machine.execLulNak l f s
  | .lulRack l f => Sys2Proof.Machine.execLulRack l f s
  | .lulDec l f => Sys2Proof.Machine.execLulDec l f s
  | .lulDack l f => Sys2Proof.Machine.execLulDack l f s
  | .lulCroak l f => Sys2Proof.Machine.execLulCroak l f s
  | .lulBusy l f => Sys2Proof.Machine.execLulBusy l f s
  | .lulJreq l f => Sys2Proof.Machine.execLulJreq l f s
  | .lulJdata l f => Sys2Proof.Machine.execLulJdata l f s
  | .lulJend l f => Sys2Proof.Machine.execLulJend l f s
  | .lulAbsence site => Sys2Proof.Machine.execLulAbsence site s
  | .lulFdone path v => Sys2Proof.Machine.execLulFdone path v s
  | .lulMdone path v => Sys2Proof.Machine.execLulMdone path v s
  | .lulDrop path v => Sys2Proof.Machine.execLulDrop path v s
  | .lulJoin path v => Sys2Proof.Machine.execLulJoin path v s
  | .lhpLinkDown l => Sys2Proof.Machine.execLhpLinkDown l s
  | .ptpRx l msg => Sys2Proof.Machine.execPtpRx l msg s
  | .ppsEdge gap => Sys2Proof.Machine.execPpsEdge gap s
  | .todSentence utc valid => Sys2Proof.Machine.execTodSentence utc valid s
  | .timAdjWrite path v => Sys2Proof.Machine.execTimAdjWrite path v s
  | .clutchPageCopy page => Sys2Proof.Machine.execClutchPageCopy page s
  | .twinPull k => Sys2Proof.Machine.execTwinPull k s
  | .pullseqPoll v => Sys2Proof.Machine.execPullseqPoll v s
  | .twinComparePoll slot => Sys2Proof.Machine.execTwinComparePoll slot s
  | .snpRestore path v => Sys2Proof.Machine.execSnpRestore path v s
  | .snpCompare path v => Sys2Proof.Machine.execSnpCompare path v s
  | .snpDiscard path v => Sys2Proof.Machine.execSnpDiscard path v s
  | .snpEstev path v => Sys2Proof.Machine.execSnpEstev path v s
  | .engineWatchdog core e => Sys2Proof.Machine.execEngineWatchdog core e s
  | .suspectAdvance core e => Sys2Proof.Machine.execSuspectAdvance core e s
  | .unitWatchdog unit num => Sys2Proof.Machine.execUnitWatchdog unit num s
  | .contextResetTimeout core ctx => Sys2Proof.Machine.execContextResetTimeout core ctx s
  | .engineResetTimeout core e => Sys2Proof.Machine.execEngineResetTimeout core e s
  | .fltLock path v => Sys2Proof.Machine.execFltLock path v s
  | .fltUnlock path v => Sys2Proof.Machine.execFltUnlock path v s
  | .fltEngrst path v => Sys2Proof.Machine.execFltEngrst path v s
  | .fltCoresub path v => Sys2Proof.Machine.execFltCoresub path v s
  | .fltDierst path v => Sys2Proof.Machine.execFltDierst path v s
  | .fltLanesp path v => Sys2Proof.Machine.execFltLanesp path v s
  | .fltChmig path v => Sys2Proof.Machine.execFltChmig path v s
  | .fltRowsp path v => Sys2Proof.Machine.execFltRowsp path v s
  | .fltDump path v => Sys2Proof.Machine.execFltDump path v s
  | .fltRelease path v => Sys2Proof.Machine.execFltRelease path v s
  | .fltRevote path v => Sys2Proof.Machine.execFltRevote path v s
  | .laneRepairTrigger p lane count => Sys2Proof.Machine.execLaneRepairTrigger p lane count s
  | .channelRepairTrigger n chan count repeatGranule => Sys2Proof.Machine.execChannelRepairTrigger n chan count repeatGranule s
  | .modeChangeRequest path v => Sys2Proof.Machine.execModeChangeRequest path v s
  | .islandClockChange path c v => Sys2Proof.Machine.execIslandClockChange path c v s
  | .pwrWake path => Sys2Proof.Machine.execPwrWake path s
  | .pwrResume path => Sys2Proof.Machine.execPwrResume path s
  | .sensorSample readings => Sys2Proof.Machine.execSensorSample readings s
  | .thermalStepReverse sensor => Sys2Proof.Machine.execThermalStepReverse sensor s
  | .pmcReset path v => Sys2Proof.Machine.execPmcReset path v s
  | .dbgCtlWrite path v => Sys2Proof.Machine.execDbgCtlWrite path v s
  | .trcCtlWrite path core v => Sys2Proof.Machine.execTrcCtlWrite path core v s
  | .dbgaccRead32 dr busy => Sys2Proof.Machine.execDbgaccRead32 dr busy s
  | .dbgaccWrite32 dr busy => Sys2Proof.Machine.execDbgaccWrite32 dr busy s
  | .dbgaccRead64 dr busy => Sys2Proof.Machine.execDbgaccRead64 dr busy s
  | .dbgaccWrite64 dr busy => Sys2Proof.Machine.execDbgaccWrite64 dr busy s
  | .powerOnReset straps x readings spiErr => Sys2Proof.Machine.execPowerOnReset straps x readings spiErr s
  | .mgcBootcmd path v => Sys2Proof.Machine.execMgcBootcmd path v s
  | .smbAddr a => Sys2Proof.Machine.execSmbAddr a s
  | .smbWrite32 v => Sys2Proof.Machine.execSmbWrite32 v s
  | .mbxInfo box => Sys2Proof.Machine.execMbxInfo box s
  | .mbxRrread box => Sys2Proof.Machine.execMbxRrread box s
  | .mbxFwstage box => Sys2Proof.Machine.execMbxFwstage box s
  | .mbxFwselect box => Sys2Proof.Machine.execMbxFwselect box s
  | .mbxSvnlock box => Sys2Proof.Machine.execMbxSvnlock box s
  | .wordLatchRead path a => Sys2Proof.Machine.execWordLatchRead path a s
  | .wordHeldWrite path a v => Sys2Proof.Machine.execWordHeldWrite path a v s
  | .rcRead path a wide => Sys2Proof.Machine.execRcRead path a wide s
  | .registerWrite path a wide v => Sys2Proof.Machine.execRegisterWrite path a wide v s
  | .contextResetDone core ctx => Sys2Proof.Machine.execContextResetDone core ctx s
  | .engineResetDone core e passed => Sys2Proof.Machine.execEngineResetDone core e passed s
  | .dieResetDone d passed => Sys2Proof.Machine.execDieResetDone d passed s
  | .lhpLinkUp l => Sys2Proof.Machine.execLhpLinkUp l s
  | .sequencedFrameDiscard p f => Sys2Proof.Machine.execSequencedFrameDiscard p f s
  | .lularFrameDrop l fcsBad f => Sys2Proof.Machine.execLularFrameDrop l fcsBad f s
  | .decisionApply => Sys2Proof.Machine.execDecisionApply s
  | .boundaryFinish => Sys2Proof.Machine.execBoundaryFinish s
  | .chorusTimeout => Sys2Proof.Machine.execChorusTimeout s
  | .croakSend => Sys2Proof.Machine.execCroakSend s
  | .lulCroakSend => Sys2Proof.Machine.execLulCroakSend s
  | .roundWindowExpire => Sys2Proof.Machine.execRoundWindowExpire s
  | .lulNakRepeat => Sys2Proof.Machine.execLulNakRepeat s
  | .lulLastResend => Sys2Proof.Machine.execLulLastResend s
  | .lulRackRepeat => Sys2Proof.Machine.execLulRackRepeat s
  | .lulDecRepeat => Sys2Proof.Machine.execLulDecRepeat s
  | .tsTxSend => Sys2Proof.Machine.execTsTxSend s
  | .ppsTimeout => Sys2Proof.Machine.execPpsTimeout s
  | .clutchStart => Sys2Proof.Machine.execClutchStart s
  | .forcedArrival => Sys2Proof.Machine.execForcedArrival s
  | .lockWaitGrant => Sys2Proof.Machine.execLockWaitGrant s
  | .dumpReadTimeout => Sys2Proof.Machine.execDumpReadTimeout s
  | .supplyWarning x => Sys2Proof.Machine.execSupplyWarning x s
  | .autotomyStage => Sys2Proof.Machine.execAutotomyStage s
  | .flushEnd => Sys2Proof.Machine.execFlushEnd s
  | .flushTimeout => Sys2Proof.Machine.execFlushTimeout s
  | .supplyRecovered x => Sys2Proof.Machine.execSupplyRecovered x s
  | .recoveryDwellEnd => Sys2Proof.Machine.execRecoveryDwellEnd s
  | .stageReverseDone => Sys2Proof.Machine.execStageReverseDone s
  | .supplyFail x => Sys2Proof.Machine.execSupplyFail x s
  | .repairRecordSave => Sys2Proof.Machine.execRepairRecordSave s
  | .pmcWindowEdge => Sys2Proof.Machine.execPmcWindowEdge s
  | .pmcShadowTake => Sys2Proof.Machine.execPmcShadowTake s
  | .pmcWindowRecord => Sys2Proof.Machine.execPmcWindowRecord s
  | .tapExtest levels tdi => Sys2Proof.Machine.execTapExtest levels tdi s
  | .tapIdcode => Sys2Proof.Machine.execTapIdcode s
  | .tapSamplePreload levels tdi => Sys2Proof.Machine.execTapSamplePreload levels tdi s
  | .tapBypass code tdi => Sys2Proof.Machine.execTapBypass code tdi s
  | .tapReset => Sys2Proof.Machine.execTapReset s
  | .porLow => Sys2Proof.Machine.execPorLow s
  | .hostBootTimeout => Sys2Proof.Machine.execHostBootTimeout s
  | .hostPortReset => Sys2Proof.Machine.execHostPortReset s
  | .smbRead32 => Sys2Proof.Machine.execSmbRead32 s
  | .smbStatus => Sys2Proof.Machine.execSmbStatus s

end Sys2Proof.Machine
end

