-- ==== Sys2Proof/Safety.lean ====
section
/-! DEFINITION. What a safe run is: it never meets a command without a meaning, and it never stops with a fault. -/

namespace Sys2Proof

/-- A run of `k` steps goes through: no command is refused and none faults. -/
def Safe (s : Machine.State) (k : Nat) : Prop := ∃ t, Host.Core.run core k s = .next t

end Sys2Proof
end

