-- ==== Sys2Proof/Certificates/Slice0/Obligations.lean ====
section
/-! DEFINITION. The statements about this model: what the commands do, family by family, what they leave unchanged, and
what every step keeps. -/

namespace Sys2Proof.Claim

open Sys2Proof.Machine

/-! ### The shape of a statement -/

/-- The command answers a next state whose queue is as before and whose device meets `P`. -/
def Runs (i : Instr) (s : State) (P : Dev → Prop) : Prop :=
  ∃ t, exec i s = .next t ∧ t.pending = s.pending ∧ P t.dev

/-- Nothing differs but the cores; messages to the host apart. -/
def OnlyCores (d t : Dev) : Prop := t = { d with cores := t.cores, outbox := t.outbox, msixPend := t.msixPend, traceQ := t.traceQ }

/-- Nothing differs but the cores and the registers; messages to the host apart. -/
def OnlyCoresRegs (d t : Dev) : Prop :=
  t = { d with cores := t.cores, regs := t.regs, outbox := t.outbox, msixPend := t.msixPend, traceQ := t.traceQ }

/-- Nothing differs but the registers; messages to the host apart. -/
def OnlyRegs (d t : Dev) : Prop := t = { d with regs := t.regs, outbox := t.outbox, msixPend := t.msixPend, traceQ := t.traceQ }

/-- Of core `c`, and of all cores, only context `x` of core `c` differs. -/
def CtxOnly (d t : Dev) (c x : Nat) : Prop :=
  (∀ e, e ≠ c → t.core e = d.core e) ∧ t.core c = { d.core c with ctxs := (t.core c).ctxs } ∧
  ∀ y, y ≠ x → t.ctx c y = d.ctx c y

/-- Every byte of memory reads as before. -/
def MemorySame (d t : Dev) : Prop := ∀ a, t.bytesAt a 1 = d.bytesAt a 1

/-- The registers outside a set of addresses hold what they held. -/
def RegsBut (d t : Dev) (S : Nat → Prop) : Prop := ∀ r : Reg, ¬ S r.addr → t.reg r = d.reg r

/-- The address of a performance counter, or of the status word of a counter set (16 R414). -/
def IsCounter (a : Nat) : Prop := ∃ s i, s < 4203 ∧ i < 16 ∧ (a = (Reg.pmcCnt s i).addr ∨ a = (Reg.pmcSetst s).addr)

/-- A path reaches register `r` for a write: BAR0 holds it or another path is used, nothing on the path stops the write, and
the register's die answers (01 R18, R22; 08 R205). -/
def PathReaches (d : Dev) (path : Path) (r : Reg) : Prop :=
  d.pathReach path r.addr = true ∧ d.pathStop path 1 r.addr (if r.wide then 8 else 4) = none ∧ d.regReach r.addr = true

/-- Core `c` runs, its context `x` is READY, and no load of it is in flight (03 R54; 07 R185). -/
def Ready (d : Dev) (c x : Nat) : Prop :=
  d.coreRuns c = true ∧ (d.ctx c x).state = 2 ∧ (d.ctx c x).acc.any SlotB.holds = false

/-- What the device sent out or returned: these outputs, and after them at most interrupts to the host and to the MGC. -/
def Sent (d t : Dev) (os : List Out) : Prop :=
  ∃ ms : List Out, t.outbox = d.outbox ++ os ++ ms ∧ ∀ o ∈ ms, (∃ v, o = .msix v) ∨ o = .mgcIrq

end Sys2Proof.Claim

open Sys2Proof Sys2Proof.Machine Sys2Proof.Claim

/-! ### The block as a whole -/

/-- A step with a command at the front of the queue runs that command with the queue's rest. -/
def Obligations.StepRunsTheFrontCommand : Prop :=
  ∀ (i : Instr) (rest : List Instr) (d : Dev), step { pending := i :: rest, dev := d } = exec i { pending := rest, dev := d }

/-- An idle step, where no substitution, no load of a variant and no bump that waits for a write is in progress: TAI moves
on, one free value is used, and beside the time registers nothing changes (log entry 3: the model's choice). -/
def Obligations.IdleStepPassesTime : Prop :=
  ∀ d : Dev, d.flt.subs = [] → d.heldBumps = [] →
    (d.rbit .fltStatus 0 = false ∨ d.rbits .fltStatus 19 16 ≠ 1 ∨ d.rbits .fltDvsel 7 0 = 0xFF) → ∃ t, step { pending := [], dev := d } = .next { pending := [], dev := t } ∧
    t = { d with regs := t.regs, tim := { d.tim with holdNs := t.tim.holdNs }, freeCtr := d.freeCtr + 1,
                 traceQ := [] } ∧
    t.regN .timNow = (d.regN .timNow + Config.elapsed d.freeCtr) % 2 ^ 64 ∧
    RegsBut d t (fun a => a = Reg.timNow.addr ∨ a = Reg.timHoldt.addr ∨ a = Reg.timTerr.addr)

/-- No command stops the block, and no command touches the queue: every run goes through. -/
def Obligations.EveryRunGoesThrough : Prop :=
  (∀ (i : Instr) (s : State), ∃ d, exec i s = .next { s with dev := d }) ∧ ∀ (s : State) (k : Nat), Safe s k
namespace Sys2Proof.Claim

/-! ### Scalar results -/

/-- The two's complement words of Table 7.2: what a comparison gives. -/
def truth (b : Bool) : W64 := if b then 1#64 else 0#64

/-- The three-register operations of Table 7.2, each with its result as arithmetic on integers and bits. -/
def threeRegister : List ((CoreId → CtxId → SRegId → SRegId → SRegId → Instr) × (W64 → W64 → W64)) := [
  (.add, fun x y => BitVec.ofInt 64 (x.toInt + y.toInt)),
  (.sub, fun x y => BitVec.ofInt 64 (x.toInt - y.toInt)),
  (.mul, fun x y => BitVec.ofInt 64 (x.toInt * y.toInt)),
  (.mulh, fun x y => BitVec.ofInt 64 ((x.toInt * y.toInt).fdiv (2 ^ 64))),
  (.div, fun x y => if y = 0 then 0 else BitVec.ofInt 64 (x.toInt.tdiv y.toInt)),
  (.rem, fun x y => if y = 0 then x else BitVec.ofInt 64 (x.toInt.tmod y.toInt)),
  (.divu, fun x y => if y = 0 then 0 else BitVec.ofNat 64 (x.toNat / y.toNat)),
  (.remu, fun x y => if y = 0 then x else BitVec.ofNat 64 (x.toNat % y.toNat)),
  (.andOp, fun x y => BitVec.ofNat 64 (x.toNat &&& y.toNat)),
  (.orOp, fun x y => BitVec.ofNat 64 (x.toNat ||| y.toNat)),
  (.xorOp, fun x y => BitVec.ofNat 64 (x.toNat ^^^ y.toNat)),
  (.shl, fun x y => BitVec.ofNat 64 (x.toNat * 2 ^ (y.toNat % 64))),
  (.shr, fun x y => BitVec.ofNat 64 (x.toNat / 2 ^ (y.toNat % 64))),
  (.sar, fun x y => BitVec.ofInt 64 (x.toInt.fdiv (2 ^ (y.toNat % 64)))),
  (.slt, fun x y => truth (decide (x.toInt < y.toInt))),
  (.sltu, fun x y => truth (decide (x.toNat < y.toNat))),
  (.seq, fun x y => truth (decide (x.toNat = y.toNat)))]

/-- The operations with a 32-bit immediate, which is sign-extended. -/
def withImmediate : List ((CoreId → CtxId → SRegId → SRegId → W32 → Instr) × (W64 → W32 → W64)) := [
  (.addi, fun x i => BitVec.ofInt 64 (x.toInt + i.toInt)),
  (.andi, fun x i => x &&& BitVec.ofInt 64 i.toInt),
  (.ori, fun x i => x ||| BitVec.ofInt 64 i.toInt),
  (.xori, fun x i => x ^^^ BitVec.ofInt 64 i.toInt),
  (.slti, fun x i => truth (decide (x.toInt < i.toInt)))]

/-- The shifts by an immediate. -/
def shiftImmediate : List ((CoreId → CtxId → SRegId → SRegId → W32 → Instr) × (W64 → Nat → W64)) := [
  (.shli, fun x n => BitVec.ofNat 64 (x.toNat * 2 ^ n)),
  (.shri, fun x n => BitVec.ofNat 64 (x.toNat / 2 ^ n)),
  (.sari, fun x n => BitVec.ofInt 64 (x.toInt.fdiv (2 ^ n)))]

/-- Scalar register `r` of context `x` of core `c` holds `v`; the context's other registers and words, every other
context, and all else are as before (a written word loses a wrong parity bit). -/
def WritesOnly (d t : Dev) (c x r : Nat) (v : W64) : Prop :=
  OnlyCores d t ∧ CtxOnly d t c x ∧ MemorySame d t ∧ (t.ctx c x).sreg r = v ∧
  (∀ q, q ≠ r → (t.ctx c x).sreg q = (d.ctx c x).sreg q) ∧
  t.ctx c x = { d.ctx c x with s := (t.ctx c x).s, bad := (t.ctx c x).bad } ∧ ∀ o ∈ (t.ctx c x).bad, o ∈ (d.ctx c x).bad

/-- The context raises ILLEGAL in slot A with a DETAIL, and is FAULTED at its bundle. -/
def Illegal (d t : Dev) (c x detail : Nat) : Prop :=
  (t.ctx c x).state = 4 ∧ bits (t.ctx c x).cstatus 31 24 = 1 ∧
  (t.ctx c x).excrec = BitVec.ofNat 64 (detail * 2 ^ 32 + 0xFF * 2 ^ 16 + x) ∧ (t.ctx c x).excpc = (d.ctx c x).pc ∧
  (t.ctx c x).s = (d.ctx c x).s ∧ (t.ctx c x).pc = (d.ctx c x).pc

end Sys2Proof.Claim

/-- ADD to SEQ: S[d] takes the result of Table 7.2 on S[a] and S[b] as they stood, modulo 2^64, no flag is set, and nothing
else changes. -/
def Sys2Proof.Claim.ThreeRegisterResults : Prop :=
  ∀ row ∈ threeRegister, ∀ (c : CoreId) (x : CtxId) (d a b : SRegId) (s : State), Ready s.dev c x →
    Runs (row.1 c x d a b) s (fun t => WritesOnly s.dev t c x d
      (row.2 ((s.dev.ctx c x).sreg a) ((s.dev.ctx c x).sreg b)))

/-- DIV, REM, DIVU and REMU by zero, and of -2^63 by -1 (R179). -/
def Sys2Proof.Claim.DivisionCorners : Prop :=
  ∀ (c : CoreId) (x : CtxId) (d a b : SRegId) (s : State), Ready s.dev c x →
    ((s.dev.ctx c x).sreg b = 0 →
      Runs (.div c x d a b) s (fun t => (t.ctx c x).sreg d = 0 ∧ (t.ctx c x).cstatus = (s.dev.ctx c x).cstatus) ∧
      Runs (.divu c x d a b) s (fun t => (t.ctx c x).sreg d = 0 ∧ (t.ctx c x).cstatus = (s.dev.ctx c x).cstatus) ∧
      Runs (.rem c x d a b) s (fun t => (t.ctx c x).sreg d = (s.dev.ctx c x).sreg a ∧
        (t.ctx c x).cstatus = (s.dev.ctx c x).cstatus) ∧
      Runs (.remu c x d a b) s (fun t => (t.ctx c x).sreg d = (s.dev.ctx c x).sreg a ∧
        (t.ctx c x).cstatus = (s.dev.ctx c x).cstatus)) ∧
    ((s.dev.ctx c x).sreg a = BitVec.ofInt 64 (-2 ^ 63) → (s.dev.ctx c x).sreg b = BitVec.ofInt 64 (-1) →
      Runs (.div c x d a b) s (fun t => (t.ctx c x).sreg d = BitVec.ofInt 64 (-2 ^ 63)) ∧
      Runs (.rem c x d a b) s (fun t => (t.ctx c x).sreg d = 0))

/-- The immediate operations, MOVI and MOVHI: results, frames, and ILLEGAL with DETAIL 0x03 for a reserved bit of a shift
amount or of MOVHI's immediate (Table 7.2, R177, R178). -/
def Sys2Proof.Claim.ImmediateResults : Prop :=
  ∀ (c : CoreId) (x : CtxId) (d a : SRegId) (s : State), Ready s.dev c x →
    (∀ row ∈ withImmediate, ∀ i : W32, Runs (row.1 c x d a i) s (fun t => WritesOnly s.dev t c x d
      (row.2 ((s.dev.ctx c x).sreg a) i))) ∧
    (∀ row ∈ shiftImmediate, ∀ i : W32,
      (i.toNat < 64 → Runs (row.1 c x d a i) s (fun t => WritesOnly s.dev t c x d
        (row.2 ((s.dev.ctx c x).sreg a) i.toNat))) ∧
      (64 ≤ i.toNat → Runs (row.1 c x d a i) s (fun t => Illegal s.dev t c x 3))) ∧
    (∀ i : W48, Runs (.movi c x d i) s (fun t => WritesOnly s.dev t c x d (BitVec.ofInt 64 i.toInt)) ∧
      (i.toNat < 65536 → Runs (.movhi c x d i) s (fun t => WritesOnly s.dev t c x d
        (BitVec.ofNat 64 (i.toNat * 2 ^ 48 + ((s.dev.ctx c x).sreg d).toNat % 2 ^ 48)))) ∧
      (65536 ≤ i.toNat → Runs (.movhi c x d i) s (fun t => Illegal s.dev t c x 3)))

/-- Scalar arithmetic (R179): the results of the three-register and of the immediate rows of the slot A set, modulo 2^64, with no flag
set, and the division corners. -/
def Obligations.ScalarResults : Prop := Claim.ThreeRegisterResults ∧ Claim.DivisionCorners ∧ Claim.ImmediateResults


/-- NOP, BR, BRZ, BRNZ, JR and CALL: the PC after them modulo 2^48, CALL's link register, and nothing else (R181). -/
def Sys2Proof.Claim.BranchTargets : Prop :=
  ∀ (c : CoreId) (x : CtxId) (s : State), Ready s.dev c x →
    let k := s.dev.ctx c x
    let target := fun (off : W32) => BitVec.ofInt 64 ((k.pc.toInt + off.toInt * 32) % 2 ^ 48)
    let jumps := fun (v : W64) (t : Dev) =>
      OnlyCores s.dev t ∧ CtxOnly s.dev t c x ∧ MemorySame s.dev t ∧ t.ctx c x = { k with pc := v }
    Runs (.nop c x) s (jumps k.pc) ∧
    (∀ off, Runs (.br c x off) s (jumps (target off))) ∧
    (∀ (a : SRegId) off, Runs (.brz c x a off) s (jumps (if k.sreg a = 0 then target off else k.pc))) ∧
    (∀ (a : SRegId) off, Runs (.brnz c x a off) s (jumps (if k.sreg a = 0 then k.pc else target off))) ∧
    (∀ (a : SRegId), Runs (.jr c x a) s (jumps (BitVec.ofNat 64 ((k.sreg a).toNat % 2 ^ 48)))) ∧
    (∀ (d : SRegId) off, Runs (.call c x d off) s (fun t =>
      OnlyCores s.dev t ∧ CtxOnly s.dev t c x ∧ MemorySame s.dev t ∧
      (t.ctx c x).sreg d = k.pc + 32 ∧ (∀ q, q ≠ d.val → (t.ctx c x).sreg q = k.sreg q) ∧
      t.ctx c x = { k with pc := target off, s := (t.ctx c x).s, bad := (t.ctx c x).bad }))
namespace Sys2Proof.Claim

/-! ### Control, gates and exceptions -/

/-- Context `x` of core `c` is FAULTED with a code, EXCREC as Table 3.7 lays it out and EXCPC at its bundle; its registers,
its PC and its other words are as before (R81). -/
def FaultedWith (d t : Dev) (c x code slot unit detail : Nat) : Prop :=
  (t.ctx c x).state = 4 ∧ bits (t.ctx c x).cstatus 31 24 = code ∧
  (t.ctx c x).excrec = BitVec.ofNat 64 (detail * 2 ^ 32 + slot * 2 ^ 24 + unit * 2 ^ 16 + x) ∧
  (t.ctx c x).excpc = (d.ctx c x).pc ∧ (t.ctx c x).pc = (d.ctx c x).pc ∧ (t.ctx c x).s = (d.ctx c x).s ∧
  (t.ctx c x).b = (d.ctx c x).b ∧ (t.ctx c x).w = (d.ctx c x).w ∧ t.rbit (.seqIntstat c) 0 = true ∧
  (∀ e y, (e ≠ c ∨ y ≠ x) → t.ctx e y = d.ctx e y)

/-- Context `x` waits: STATE WAITING and the WAIT word of the shut gate; its registers and its PC are as before. -/
def WaitsWith (d t : Dev) (c x : Nat) (word : W64) : Prop :=
  (t.ctx c x).state = 3 ∧ (t.ctx c x).wait = word ∧ (t.ctx c x).s = (d.ctx c x).s ∧ (t.ctx c x).pc = (d.ctx c x).pc ∧
  (∀ e y, (e ≠ c ∨ y ≠ x) → t.ctx e y = d.ctx e y) ∧ MemorySame d t

/-- Nothing of the contexts, of memory and of the registers changes. -/
def NothingMoves (d t : Dev) : Prop :=
  OnlyCores d t ∧ (∀ e y, t.ctx e y = d.ctx e y) ∧ MemorySame d t

end Sys2Proof.Claim

/-- HALT, FCLR, RDST, RDTOK and SETPRIO: what each writes, and that it writes nothing else (R57, R62, R183, Table 7.2). -/
def Sys2Proof.Claim.ControlResults : Prop :=
  ∀ (c : CoreId) (x : CtxId) (s : State), Ready s.dev c x →
    let k := s.dev.ctx c x
    Runs (.halt c x) s (fun t =>
      (t.ctx c x).state = 1 ∧ (t.ctx c x).s = k.s ∧ (t.ctx c x).pc = k.pc ∧ t.rbit (.seqIntstat c) 1 = true ∧
      RegsBut s.dev t (fun a => a = (Reg.seqIntstat c).addr) ∧ OnlyCoresRegs s.dev t ∧ MemorySame s.dev t ∧
      (k.a1c = false → CtxOnly s.dev t c x)) ∧
    (∀ m : BitVec 3, Runs (.fclr c x m) s (fun t =>
      OnlyCores s.dev t ∧ CtxOnly s.dev t c x ∧ MemorySame s.dev t ∧
      t.ctx c x = { k with cstatus := (t.ctx c x).cstatus } ∧
      ∀ i, bit (t.ctx c x).cstatus i = (bit k.cstatus i && !(decide (16 ≤ i) && bit m (i - 16))))) ∧
    (∀ d : SRegId, Runs (.rdst c x d) s (fun t => WritesOnly s.dev t c x d k.cstatus)) ∧
    (∀ (d : SRegId) (n : TokenId), Runs (.rdtok c x d n) s (fun t => WritesOnly s.dev t c x d (s.dev.reg (.token c n)))) ∧
    (∀ p : BitVec 3, Runs (.setprio c x p) s (fun t =>
      OnlyCores s.dev t ∧ CtxOnly s.dev t c x ∧ MemorySame s.dev t ∧
      t.ctx c x = { k with cstatus := (t.ctx c x).cstatus } ∧ (t.ctx c x).prio = p.toNat ∧
      ∀ i, i < 4 ∨ 6 < i → bit (t.ctx c x).cstatus i = bit k.cstatus i))

/-- Where branches go, and what the other control rows do. -/
def Obligations.ControlFlow : Prop := Claim.BranchTargets ∧ Claim.ControlResults


/-- TRAP faults its context with code TRAP and the immediate in DETAIL, whatever B5 names (R81, Table 3.6). -/
def Sys2Proof.Claim.TrapTakesAnException : Prop :=
  ∀ (c : CoreId) (x : CtxId) (imm : Byte) (s : State), Ready s.dev c x →
    Runs (.trap c x imm) s (fun t => FaultedWith s.dev t c x 0xB 0 0xFF imm.toNat)

/-- The entry that TRAP writes to the completion and error queue bound in B5: EXCREC, EXCPC, no DPA, no command, and
zeros, at TAIL of the ring, which advances; with an unusable B5 memory is as before; a full or disabled ring sets OVF and
CEOVF and keeps its pointers (R70, R81). -/
def Sys2Proof.Claim.ExceptionEntryIsWritten : Prop :=
  ∀ (c : CoreId) (x : CtxId) (imm : Byte) (s : State), Ready s.dev c x → s.dev.memWf = true →
    let d := s.dev
    let k := d.ctx c x
    let q := bits (k.binding 5) 5 0
    let named := bit (k.binding 5) 6 = true ∧ 52 ≤ q ∧ q ≤ 59
    let a := d.ringEntry c q (d.ringTail c q)
    Runs (.trap c x imm) s (fun t =>
      (¬ named → MemorySame d t) ∧
      (named → d.ringFull c q = false → d.queueOn c q = true → d.rbits (.qcfg c q) 3 0 ≤ 12 →
        d.memOk a 64 = true → d.regionAt a = none → d.prot = [] →
        t.physBytes a 64 = toBytes 8 (t.ctx c x).excrec.toNat ++ toBytes 8 k.pc.toNat ++ List.replicate 48 0 ∧
        (∀ p, (p < a ∨ a + 64 ≤ p) → t.physBytes p 1 = d.physBytes p 1) ∧
        t.ringTail c q = (d.ringTail c q + 1) % d.ringSize c q ∧ t.ringHead c q = d.ringHead c q) ∧
      (named → d.ringFull c q = true ∨ d.queueOn c q = false →
        MemorySame d t ∧ t.rbit (.qptr c q) 31 = true ∧ t.rbit (.seqIntstat c) 2 = true ∧
        t.ringTail c q = d.ringTail c q ∧ t.ringHead c q = d.ringHead c q ∧ t.ringFull c q = d.ringFull c q))

/-- TRAP takes an exception, and what an entry writes. -/
def Obligations.ExceptionsAreTaken : Prop := Claim.TrapTakesAnException ∧ Claim.ExceptionEntryIsWritten


/-- WAIT: open while (TOKEN[t] - v) mod 2^32 < 2^31, and then nothing is changed; shut, the context waits with the token
and the threshold in its WAIT word (R74, R182). -/
def Sys2Proof.Claim.WaitOnAToken : Prop :=
  ∀ (c : CoreId) (x : CtxId) (n : TokenId) (a : SRegId) (s : State), Ready s.dev c x →
    let v := ((s.dev.ctx c x).sreg a).toNat % 2 ^ 32
    let holds := ((s.dev.reg (.token c n)).toNat + (2 ^ 32 - v)) % 2 ^ 32 < 2 ^ 31
    (holds → Runs (.wait c x n a) s (NothingMoves s.dev)) ∧
    (¬ holds → Runs (.wait c x n a) s (fun t =>
      WaitsWith s.dev t c x (BitVec.ofNat 64 (v * 2 ^ 32 + n.val * 2 ^ 8 + 1))))

/-- LEASE and RELEASE: a free lease with no waiting requester is held at once and shows in CSTATUS; a lease held and not
released by another context makes the requester wait; RELEASE marks the lease and clears the bit; a unit without a lease
is ILLEGAL (R79, R180). -/
def Sys2Proof.Claim.LeaseAndRelease : Prop :=
  ∀ (c : CoreId) (x : CtxId) (u : BitVec 3) (s : State), Ready s.dev c x → (s.dev.ctx c x).a1c = false →
    let l := (s.dev.core c).lease u.toNat
    let shown := fun (t : Dev) => bit (t.ctx c x).cstatus (if u = 0 then 10 else if u = 1 then 11 else 12)
    ((u = 0 ∨ u = 1 ∨ u = 3) →
      (l.owner = none → l.waiters = [] → Runs (.lease c x u) s (fun t =>
        ((t.core c).lease u.toNat).owner = some x.val ∧ ((t.core c).lease u.toNat).released = false ∧ shown t = true ∧
        (t.ctx c x).s = (s.dev.ctx c x).s ∧ (t.ctx c x).state = 2)) ∧
      (∀ y : Nat, l.owner = some y → y ≠ x.val → Runs (.lease c x u) s (fun t =>
        WaitsWith s.dev t c x 4 ∧ ((t.core c).lease u.toNat).owner = some y ∧
        x.val ∈ ((t.core c).lease u.toNat).waiters)) ∧
      (l.owner = some x.val → Runs (.release c x u) s (fun t =>
        ((t.core c).lease u.toNat).owner = some x.val ∧ ((t.core c).lease u.toNat).released = true ∧ shown t = false ∧
        OnlyCores s.dev t ∧ MemorySame s.dev t)) ∧
      (l.owner ≠ some x.val → Runs (.release c x u) s (NothingMoves s.dev))) ∧
    (¬ (u = 0 ∨ u = 1 ∨ u = 3) →
      Runs (.lease c x u) s (fun t => Illegal s.dev t c x 6) ∧ Runs (.release c x u) s (fun t => Illegal s.dev t c x 6))

/-- Waiting on a token, and leases. -/
def Obligations.WaitsAndLeases : Prop := Claim.WaitOnAToken ∧ Claim.LeaseAndRelease


/-- A1BAR: open while the context has no engine command queued or running; a native context takes the A1C exception
(07 R195). GATE_REEVALUATE: a WAITING context whose token gate now holds becomes READY with WAIT 0, and one whose gate is
still shut stays WAITING (R56, R182). -/
def Obligations.BarrierAndReevaluation : Prop :=
  ∀ (c : CoreId) (x : CtxId) (s : State),
    let d := s.dev
    let k := d.ctx c x
    (Ready d c x → k.a1c = true → (d.core c).hasWork x = false → Runs (.a1bar c x) s (NothingMoves d)) ∧
    (Ready d c x → k.a1c = true → (d.core c).hasWork x = true → Runs (.a1bar c x) s (fun t => WaitsWith d t c x 6)) ∧
    (Ready d c x → k.a1c = false → Runs (.a1bar c x) s (fun t => FaultedWith d t c x 0xA 0 0xFF 2)) ∧
    (∀ (n : TokenId) (v : W32), d.coreRuns c = true → k.state = 3 → k.gated = [.token n v] →
      let holds := ((d.reg (.token c n)).toNat + (2 ^ 32 - v.toNat)) % 2 ^ 32 < 2 ^ 31
      (holds → Runs (.gateReevaluate c x) s (fun t =>
        (t.ctx c x).state = 2 ∧ (t.ctx c x).wait = 0 ∧ (t.ctx c x).s = k.s ∧ (t.ctx c x).pc = k.pc ∧
        OnlyCores d t ∧ CtxOnly d t c x ∧ MemorySame d t)) ∧
      (¬ holds → Runs (.gateReevaluate c x) s (fun t =>
        (t.ctx c x).state = 3 ∧ (t.ctx c x).s = k.s ∧ (t.ctx c x).pc = k.pc ∧ OnlyCores d t ∧ CtxOnly d t c x ∧
        MemorySame d t)))
namespace Sys2Proof.Claim

/-! ### Slot B: memory, queues and tokens -/

/-- One of the context's windows is valid, grants a permission bit (0 R, 1 W, 2 X) and holds all `n` bytes at `a` (R63). -/
def InWindow (k : Ctx) (perm a n : Nat) : Prop :=
  ∃ i, i < 8 ∧ bit (k.window i) 3 = true ∧ bit (k.window i) perm = true ∧
    bits (k.window i) 47 12 * 4096 ≤ a ∧ a + n ≤ (bits (k.window i) 111 76 + 1) * 4096 ∧
    bits (k.window i) 47 12 ≤ bits (k.window i) 111 76

/-- The address of a load or store: S[a] + off modulo 2^48 (R184). -/
def loadStoreAddress (k : Ctx) (a : Nat) (off : W32) : Nat := (((k.sreg a).toInt + off.toInt) % 2 ^ 48).toNat

/-- The loads of Table 7.2 with their sizes and whether they sign-extend. -/
def loads : List ((CoreId → CtxId → SRegId → SRegId → W32 → Instr) × Nat × Bool) := [
  (.ld8, 1, true), (.ld8u, 1, false), (.ld16, 2, true), (.ld16u, 2, false), (.ld32, 4, true), (.ld32u, 4, false),
  (.ld64, 8, true)]

/-- The stores of Table 7.2 with their sizes. -/
def stores : List ((CoreId → CtxId → SRegId → SRegId → W32 → Instr) × Nat) := [
  (.st8, 1), (.st16, 2), (.st32, 4), (.st64, 8)]

/-- The context's accesses in flight are `acc`; nothing else of the device changes but counters. -/
def Accesses (d t : Dev) (c x : Nat) (acc : List SlotB) : Prop :=
  OnlyCoresRegs d t ∧ RegsBut d t IsCounter ∧ CtxOnly d t c x ∧ MemorySame d t ∧ t.ctx c x = { d.ctx c x with acc := acc }

/-- No TBUMP of the context waits. -/
def NoBump (k : Ctx) : Prop := ∀ n, SlotB.bump n ∉ k.acc

/-- The number that bytes spell, sign-extended from their width or not (R184). -/
def loaded (bs : List Byte) (signed : Bool) : W64 :=
  if signed ∧ 2 ^ (8 * bs.length - 1) ≤ ofBytes bs then BitVec.ofInt 64 ((ofBytes bs : Int) - 2 ^ (8 * bs.length))
  else BitVec.ofNat 64 (ofBytes bs)

/-- Context `x` is FAULTED with a code in slot B whose EXCPC names the bundle `pc` of an access. -/
def LateFault (t : Dev) (c x code : Nat) (pc : W64) : Prop :=
  (t.ctx c x).state = 4 ∧ bits (t.ctx c x).cstatus 31 24 = code ∧ (t.ctx c x).excpc = pc ∧
  (t.ctx c x).excrec = BitVec.ofNat 64 (2 ^ 24 + 0xFF * 2 ^ 16 + x) ∧ t.rbit (.seqIntstat c) 0 = true

end Sys2Proof.Claim

/-- A load or store at issue: an aligned access that a window allows joins the context's accesses in program order, with
its address S[a] + off modulo 2^48 and, for a store, the value of S[d]; a misaligned one raises ADDRESS with DETAIL 1, and
one outside the windows WINDOW, with DETAIL 1 where a window holds it and PMC_USER_EN forbids it, in slot B (R63, R184;
16 R421). -/
def Sys2Proof.Claim.LoadsAndStoresIssue : Prop :=
  ∀ (c : CoreId) (x : CtxId) (d a : SRegId) (off : W32) (s : State), Ready s.dev c x →
    let k := s.dev.ctx c x
    let at0 := loadStoreAddress k a off
    let allowed := isRegSpace at0 = false ∨ isPmcSpace at0 = false ∨ bit k.cstatus 9 = true
    (∀ row ∈ loads,
      (at0 % row.2.1 = 0 → InWindow k 0 at0 row.2.1 → allowed → Runs (row.1 c x d a off) s (fun t =>
        Accesses s.dev t c x (k.acc ++ [.load d at0 row.2.1 row.2.2 k.pc]))) ∧
      (at0 % row.2.1 ≠ 0 → Runs (row.1 c x d a off) s (fun t => FaultedWith s.dev t c x 4 1 0xFF 1)) ∧
      (at0 % row.2.1 = 0 → ¬ InWindow k 0 at0 row.2.1 → Runs (row.1 c x d a off) s (fun t =>
        FaultedWith s.dev t c x 3 1 0xFF 0)) ∧
      (at0 % row.2.1 = 0 → InWindow k 0 at0 row.2.1 → ¬ allowed → Runs (row.1 c x d a off) s (fun t =>
        FaultedWith s.dev t c x 3 1 0xFF 1))) ∧
    (∀ row ∈ stores,
      (at0 % row.2 = 0 → InWindow k 1 at0 row.2 → allowed → Runs (row.1 c x d a off) s (fun t =>
        Accesses s.dev t c x (k.acc ++ [.store at0 row.2 (k.sreg d) k.pc]))) ∧
      (at0 % row.2 ≠ 0 → Runs (row.1 c x d a off) s (fun t => FaultedWith s.dev t c x 4 1 0xFF 1)) ∧
      (at0 % row.2 = 0 → ¬ InWindow k 1 at0 row.2 → Runs (row.1 c x d a off) s (fun t =>
        FaultedWith s.dev t c x 3 1 0xFF 0)) ∧
      (at0 % row.2 = 0 → InWindow k 1 at0 row.2 → ¬ allowed → Runs (row.1 c x d a off) s (fun t =>
        FaultedWith s.dev t c x 3 1 0xFF 1)))

/-- LOAD_COMPLETE: S[r] takes the bytes at the load's address, extended to 64 bits; nothing else but counters changes. A load that no
memory answers raises ADDRESS, and one whose bytes fail parity raises PARITY, with EXCPC naming the bundle, and S[r] is not
written (R184, R185, R201). -/
def Obligations.LoadCompletes : Prop :=
  ∀ (c : CoreId) (x : CtxId) (r : SRegId) (a size : Nat) (signed : Bool) (pc : W64) (rest : List SlotB) (s : State),
    let d := s.dev
    let k := d.ctx c x
    k.acc = .load r a size signed pc :: rest → NoBump k → size ∈ [1, 2, 4, 8] → isRegSpace a = false → k.state = 2 →
    (d.memOk a size = true → d.badAt a size = false → Runs (.loadComplete c x) s (fun t =>
      OnlyCoresRegs d t ∧ RegsBut d t IsCounter ∧ CtxOnly d t c x ∧ MemorySame d t ∧
      (t.ctx c x).sreg r = loaded (d.bytesAt a size) signed ∧
      (∀ q, q ≠ r.val → (t.ctx c x).sreg q = k.sreg q) ∧ t.ctx c x = { k with s := (t.ctx c x).s, bad := (t.ctx c x).bad, acc := rest })) ∧
    (d.memOk a size = false → Runs (.loadComplete c x) s (fun t => LateFault t c x 4 pc ∧ (t.ctx c x).s = k.s)) ∧
    (d.memOk a size = true → d.badAt a size = true → Runs (.loadComplete c x) s (fun t =>
      LateFault t c x 8 pc ∧ (t.ctx c x).s = k.s))

/-- STORE_COMPLETE: the bytes at the physical address behind the store's address take the low bytes of the value, every
other byte of memory reads as before, and nothing else but parity marks, tracked rows, counters and a region's written bits changes.
A store that no memory takes raises ADDRESS and changes nothing in memory (R18, R184, R250). -/
def Obligations.StoreCompletes : Prop :=
  ∀ (c : CoreId) (x : CtxId) (a size : Nat) (v pc : W64) (rest : List SlotB) (s : State),
    let d := s.dev
    let k := d.ctx c x
    k.acc = .store a size v pc :: rest → NoBump k → size ∈ [1, 2, 4, 8] → a % size = 0 → isRegSpace a = false →
    k.state = 2 → d.memWf = true →
    (d.memOk a size = true → d.prot = [] → (∀ r, d.regionAt a = some r → 64 ≤ (r.view a).2) →
      Runs (.storeComplete c x) s (fun t =>
        t.physBytes (d.physOf a) size = toBytes size v.toNat ∧
        (∀ p, (p < d.physOf a ∨ d.physOf a + size ≤ p) → t.physBytes p 1 = d.physBytes p 1) ∧
        CtxOnly d t c x ∧ t.ctx c x = { k with acc := rest } ∧
        t = { d with cores := t.cores, mem := t.mem, badPar := t.badPar, flt := { d.flt with rows := t.flt.rows },
                     written := t.written, regs := t.regs, outbox := t.outbox, msixPend := t.msixPend, traceQ := t.traceQ } ∧
        RegsBut d t (fun q => IsCounter q ∨ ∃ r, d.regionAt a = some r ∧ q = (Reg.pregStat r.unit r.num).addr))) ∧
    (d.memOk a size = false → k.ceQueue = none → Runs (.storeComplete c x) s (fun t =>
      LateFault t c x 4 pc ∧ ∀ p, t.physBytes p 1 = d.physBytes p 1))

/-- A write to a DPA of a region of this device reaches the frame that its view names, and a read there returns it; the 64
header bytes of a view are dropped and set HDRW (R236, R249, R250). -/
def Obligations.RegionViewsAndHeaders : Prop :=
  ∀ (c : CoreId) (x : CtxId) (a : Nat) (v pc : W64) (rest : List SlotB) (s : State) (r : Region),
    let d := s.dev
    (d.ctx c x).acc = .store a 8 v pc :: rest → NoBump (d.ctx c x) → a % 8 = 0 → isRegSpace a = false →
    d.memWf = true → d.memOk a 8 = true → d.prot = [] → d.regionAt a = some r →
    (let live := a < r.base + r.pages * 65536
     let frame := fun k : Nat => r.base + k * (r.pages * 65536)
     d.physOf a = if live then frame r.cur + (a - r.base) else frame (1 - r.cur) + (a - (r.base + r.pages * 65536))) ∧
    ((r.view a).2 < 64 → Runs (.storeComplete c x) s (fun t =>
      t.rbit .chrStatus 5 = true ∧ ∀ p, t.physBytes p 1 = d.physBytes p 1)) ∧
    (64 ≤ (r.view a).2 → Runs (.storeComplete c x) s (fun t => t.bytesAt a 8 = toBytes 8 v.toNat))

/-- TBUMP: with no earlier store or push in flight the token counts one, modulo 2^32; behind one it waits, and the
completion of the last such store makes the bump (R73, R187). -/
def Sys2Proof.Claim.TokenBumps : Prop :=
  ∀ (c : CoreId) (x : CtxId) (n : TokenId) (s : State),
    let d := s.dev
    let k := d.ctx c x
    let counted := fun (t : Dev) => (t.reg (.token c n)).toNat = ((d.reg (.token c n)).toNat + 1) % 2 ^ 32
    d.isAtok c n = false →
    (Ready d c x → hasStore k.acc = false → Runs (.tbump c x n) s (fun t =>
      counted t ∧ MemorySame d t ∧ (∀ e y, t.ctx e y = d.ctx e y) ∧
      RegsBut d t (fun a => a = (Reg.token c n).addr ∨ a = (Reg.trcPtr c).addr))) ∧
    (Ready d c x → hasStore k.acc = true → Runs (.tbump c x n) s (fun t =>
      Accesses d t c x (k.acc ++ [.bump n]))) ∧
    (∀ (a size : Nat) (v pc : W64), k.acc = [.store a size v pc, .bump n] → size ∈ [1, 2, 4, 8] → a % size = 0 →
      isRegSpace a = false → d.memOk a size = true → d.prot = [] → d.regionAt a = none → Runs (.storeComplete c x) s (fun t =>
        counted t ∧ (t.ctx c x).acc = []))

/-- TOKEN_WRITE from a path that reaches the core: the token holds the value and nothing else changes, where the token is
not ATOK (R77); BAR0 does not reach it (01 R22). -/
def Sys2Proof.Claim.TokenWrites : Prop :=
  ∀ (path : Path) (c : CoreId) (n : TokenId) (v : W32) (s : State), s.dev.isAtok c n = false →
    (PathReaches s.dev path (.token c n) → Runs (.tokenWrite path c n v) s (fun t =>
      t.reg (.token c n) = v.setWidth 64 ∧ OnlyRegs s.dev t ∧ RegsBut s.dev t (fun a => a = (Reg.token c n).addr) ∧
      MemorySame s.dev t)) ∧
    Runs (.tokenWrite .host c n v) s (fun t => OnlyRegs s.dev t ∧ ∀ r, t.reg r = s.dev.reg r)

/-- Tokens are bumped and written. -/
def Obligations.TokensBumpAndSet : Prop := Claim.TokenBumps ∧ Claim.TokenWrites

namespace Sys2Proof.Claim

/-! ### Queues, contexts and bundles -/

/-- Binding `n` of the context is valid and names queue `q`, which is enabled. -/
def Bound (d : Dev) (c x n q : Nat) : Prop :=
  bit ((d.ctx c x).binding n) 6 = true ∧ bits ((d.ctx c x).binding n) 5 0 = q ∧ d.queueOn c q = true

/-- No access of the core to queue `q` is in flight. -/
def Quiet (d : Dev) (c q : Nat) : Prop := (d.core c).inFlight q true = 0 ∧ (d.core c).inFlight q false = 0

/-- The queues that a push reaches, and those that a pop reaches (R68). -/
def pushQueue (q : Nat) : Prop := (28 ≤ q ∧ q < 44) ∨ 60 ≤ q
def popQueue (q : Nat) : Prop := (20 ≤ q ∧ q < 28) ∨ (44 ≤ q ∧ q < 60) ∨ 60 ≤ q

/-- The 64 bytes of S[a] to S[a + 7], least significant byte first (R67). -/
def eightRegisters (k : Ctx) (a : Nat) : List Byte := (List.range 8).flatMap (fun i => toBytes 8 (k.sreg (a + i)).toNat)

/-- The fill level of a ring (R72). -/
def fill (d : Dev) (c q : Nat) : Nat :=
  if d.ringFull c q then d.ringSize c q else (d.ringTail c q + d.ringSize c q - d.ringHead c q) % d.ringSize c q

/-- The context's one new access, in a core whose issue counter moves on; nothing else changes. -/
def QueueAccess (d t : Dev) (c x : Nat) (acc : List SlotB) : Prop :=
  OnlyCores d t ∧ MemorySame d t ∧ (∀ e, e ≠ c → t.core e = d.core e) ∧
  t.core c = { d.core c with ctxs := (t.core c).ctxs, ord := (d.core c).ord + 1 } ∧
  (∀ y, y ≠ x → t.ctx c y = d.ctx c y) ∧ t.ctx c x = { d.ctx c x with acc := acc }

/-- Of the registers only QPTR of a queue and counters differ. -/
def PointersOnly (d t : Dev) (c q : Nat) : Prop := RegsBut d t (fun a => a = (Reg.qptr c q).addr ∨ IsCounter a)

end Sys2Proof.Claim

/-- QPUSH, QPOP, QTPUSH and QTPOP at issue, on a queue of the right class that is enabled, with the entry in a window and no
other access in flight: with room, or an entry, the access starts; without, the blocking forms wait and the others write 0
to S[(a + 8) mod 32]; a binding below 6 raises QCLASS, a register that is no multiple of 8 ILLEGAL (R67, R68, R72, R186). -/
def Sys2Proof.Claim.QueueOperationsIssue : Prop :=
  ∀ (c : CoreId) (x : CtxId) (n : Fin 16) (a : SRegId) (q : Nat) (s : State), Ready s.dev c x →
    let d := s.dev
    let k := d.ctx c x
    let ord := (d.core c).ord
    let tailAt := d.rbits (.qbase c q) 47 6 * 64 + d.ringTail c q % d.ringSize c q * 64
    let headAt := d.rbits (.qbase c q) 47 6 * 64 + d.ringHead c q % d.ringSize c q * 64
    let zero := fun (t : Dev) => WritesOnly d t c x ((a.val + 8) % 32) 0
    (a.val % 8 = 0 → 6 ≤ n.val → Bound d c x n q → Quiet d c q →
      (pushQueue q → InWindow k 1 tailAt 64 →
        (fill d c q < d.ringSize c q →
          Runs (.qpush c x n a) s (fun t => QueueAccess d t c x
            (k.acc ++ [.push q a false (eightRegisters k a) ord k.pc])) ∧
          Runs (.qtpush c x n a) s (fun t => QueueAccess d t c x
            (k.acc ++ [.push q a true (eightRegisters k a) ord k.pc]))) ∧
        (fill d c q = d.ringSize c q →
          Runs (.qpush c x n a) s (fun t => WaitsWith d t c x 2) ∧ Runs (.qtpush c x n a) s zero)) ∧
      (popQueue q → InWindow k 0 headAt 64 →
        (0 < fill d c q →
          Runs (.qpop c x n a) s (fun t => QueueAccess d t c x (k.acc ++ [.pop q a false ord k.pc])) ∧
          Runs (.qtpop c x n a) s (fun t => QueueAccess d t c x (k.acc ++ [.pop q a true ord k.pc]))) ∧
        (fill d c q = 0 →
          Runs (.qpop c x n a) s (fun t => WaitsWith d t c x 3) ∧ Runs (.qtpop c x n a) s zero))) ∧
    (∀ op ∈ [Instr.qpush c x n a, .qpop c x n a, .qtpush c x n a, .qtpop c x n a],
      (a.val % 8 ≠ 0 → Runs op s (fun t => FaultedWith d t c x 1 1 0xFF 7)) ∧
      (a.val % 8 = 0 → n.val < 6 → Runs op s (fun t => (t.ctx c x).state = 4 ∧ bits (t.ctx c x).cstatus 31 24 = 5)))

/-- The rows of slot B issue. -/
def Obligations.SlotBIssues : Prop := Claim.LoadsAndStoresIssue ∧ Claim.QueueOperationsIssue


/-- QUEUE_ACCESS_COMPLETE: a push writes its 64 bytes at the entry that TAIL names, TAIL advances, and FULL is set where
TAIL meets HEAD; a pop takes the entry that HEAD names into S[a] to S[a + 7], HEAD advances and FULL is cleared; the forms
that do not wait write 1 to S[(a + 8) mod 32] (R67, R72). -/
def Obligations.QueueAccessCompletes : Prop :=
  ∀ (c : CoreId) (x : CtxId) (q : Nat) (r : SRegId) (tf : Bool) (bs : List Byte) (ord : Nat) (pc : W64) (s : State),
    let d := s.dev
    let k := d.ctx c x
    let size := d.ringSize c q
    let entry := fun (i : Nat) => d.rbits (.qbase c q) 47 6 * 64 + i * 64
    r.val % 8 = 0 → 20 ≤ q → q < 64 → d.queueOn c q = true → 1 ≤ d.rbits (.qcfg c q) 3 0 → d.rbits (.qcfg c q) 3 0 ≤ 12 →
    d.ringTail c q < size → d.ringHead c q < size → d.memWf = true → bs.length = 64 →
    (k.acc = [.push q r tf bs ord pc] → (d.core c).firstOn q true ord = true → d.ringFull c q = false →
      d.memOk (entry (d.ringTail c q)) 64 = true → d.prot = [] → d.regionAt (entry (d.ringTail c q)) = none →
      Runs (.queueAccessComplete c x) s (fun t =>
        t.physBytes (entry (d.ringTail c q)) 64 = bs ∧
        (∀ p, (p < entry (d.ringTail c q) ∨ entry (d.ringTail c q) + 64 ≤ p) → t.physBytes p 1 = d.physBytes p 1) ∧
        t.ringTail c q = (d.ringTail c q + 1) % size ∧ t.ringHead c q = d.ringHead c q ∧
        t.ringFull c q = decide ((d.ringTail c q + 1) % size = d.ringHead c q) ∧
        PointersOnly d t c q ∧ (t.ctx c x).acc = [] ∧
        ∀ i, (t.ctx c x).sreg i = if tf ∧ i = (r.val + 8) % 32 then 1 else k.sreg i)) ∧
    (k.acc = [.pop q r tf ord pc] → (d.core c).firstOn q false ord = true → d.ringFill c q ≠ 0 →
      d.memOk (entry (d.ringHead c q)) 64 = true → d.badAt (entry (d.ringHead c q)) 64 = false →
      Runs (.queueAccessComplete c x) s (fun t =>
        t.ringHead c q = (d.ringHead c q + 1) % size ∧ t.ringTail c q = d.ringTail c q ∧ t.ringFull c q = false ∧
        PointersOnly d t c q ∧ MemorySame d t ∧ (t.ctx c x).acc = [] ∧
        ∀ i, (t.ctx c x).sreg i =
          if r.val ≤ i ∧ i < r.val + 8 then
            BitVec.ofNat 64 (ofBytes ((d.bytesAt (entry (d.ringHead c q)) 64).drop (8 * (i - r.val)) |>.take 8))
          else if tf ∧ i = (r.val + 8) % 32 then 1 else k.sreg i))

/-- The context commands, each from the states of Table 3.2, and CMDREJ from every other state and for a context number that
does not exist; CONTEXT_RESET_DONE ends a reset, which waits for stopped codecs and outstanding row reads (R57, R369;
06 R171). -/
def Sys2Proof.Claim.ContextCommands : Prop :=
  ∀ (c : CoreId) (x : BitVec 7) (s : State),
    let d := s.dev
    let k := d.ctx c x.toNat
    let rejected := fun (t : Dev) =>
      t.rbit (.seqStatus c) 0 = true ∧ OnlyRegs d t ∧ RegsBut d t (fun a => a = (Reg.seqStatus c).addr)
    let commands := [Instr.ctxcmdAlloc c x, .ctxcmdStart c x, .ctxcmdHalt c x, .ctxcmdResume c x, .ctxcmdReset c x,
      .ctxcmdFree c x]
    let moves := fun (t : Dev) (v : Nat) =>
      OnlyCores d t ∧ MemorySame d t ∧ CtxOnly d t c x.toNat ∧ (t.ctx c x.toNat).state = v ∧
      (t.ctx c x.toNat).s = k.s ∧ (t.ctx c x.toNat).pc = k.pc ∧ (t.ctx c x.toNat).wait = k.wait
    (80 ≤ x.toNat → ∀ i ∈ commands, Runs i s rejected) ∧
    (x.toNat < 80 →
      (k.state = 0 → Runs (.ctxcmdAlloc c x) s (fun t =>
        OnlyCores d t ∧ CtxOnly d t c x.toNat ∧ t.ctx c x.toNat = { cstatus := 1 })) ∧
      (k.state ≠ 0 → Runs (.ctxcmdAlloc c x) s rejected) ∧
      (k.state = 1 → Runs (.ctxcmdStart c x) s (fun t => moves t 2)) ∧
      (k.state ≠ 1 → Runs (.ctxcmdStart c x) s rejected ∧ Runs (.ctxcmdFree c x) s rejected) ∧
      (k.state = 2 ∨ k.state = 3 → k.a1c = false → Runs (.ctxcmdHalt c x) s (fun t => moves t 1)) ∧
      (k.state ≠ 2 → k.state ≠ 3 → Runs (.ctxcmdHalt c x) s rejected) ∧
      (k.state = 4 → Runs (.ctxcmdResume c x) s (fun t => moves t 2 ∧ (t.ctx c x.toNat).held = false)) ∧
      (k.state ≠ 4 → Runs (.ctxcmdResume c x) s rejected) ∧
      (k.state = 0 ∨ k.state = 5 → Runs (.ctxcmdReset c x) s rejected) ∧
      (k.state ≠ 0 → k.state ≠ 5 → Runs (.ctxcmdReset c x) s (fun t =>
        (t.ctx c x.toNat).state = 5 ∧ (t.ctx c x.toNat).s = k.s ∧ (t.ctx c x.toNat).pc = k.pc ∧
        (t.core c).hasWork x.toNat = false ∧ (∀ u ∈ [0, 1, 3], ((t.core c).lease u).owner ≠ some x.toNat) ∧
        MemorySame d t)) ∧
      (k.state = 1 → Runs (.ctxcmdFree c x) s (fun t =>
        t.ctx c x.toNat = {} ∧ OnlyCores d t ∧ ∀ u ∈ [0, 1, 3], ((t.core c).lease u).owner ≠ some x.toNat))) ∧
    (∀ y : CtxId, (d.ctx c y).state = 5 →
      ((d.core c).unfinished y = false → Runs (.contextResetDone c y) s (fun t =>
        OnlyCores d t ∧ CtxOnly d t c y ∧ (t.ctx c y).state = 1 ∧ (t.ctx c y).s = (d.ctx c y).s)) ∧
      ((d.core c).unfinished y = true → Runs (.contextResetDone c y) s (NothingMoves d)))

/-- QCFG_WRITE: an enable that R71 allows sets the register; one that it does not leaves EN at 0 and sets CMDREJ; clearing
EN discards the ring's entries: HEAD, TAIL and FULL become 0; a write that leaves EN at 1 is ignored; an engine command
queue takes EN alone (assumption log 52); BAR0 does not reach the register (01 R22). -/
def Sys2Proof.Claim.QueueConfiguration : Prop :=
  ∀ (path : Path) (c : CoreId) (q : QueueId) (v : W32) (s : State),
    let d := s.dev
    let on := bit v 31
    PathReaches d path (.qcfg c q) →
    let en := fun (t : Dev) => bit (t.reg (.qcfg c q)) 31
    let n := bits v 3 0
    let peer := bits v 13 8
    let valid := 1 ≤ n ∧ n ≤ 12 ∧
      (20 ≤ q.val ∧ q.val < 28 → 28 ≤ peer ∧ peer < 36) ∧ (28 ≤ q.val ∧ q.val < 36 → 20 ≤ peer ∧ peer < 28) ∧
      (36 ≤ q.val ∧ q.val < 44 → 44 ≤ peer ∧ peer < 52) ∧ (44 ≤ q.val ∧ q.val < 52 → 36 ≤ peer ∧ peer < 44) ∧
      (36 ≤ q.val ∧ q.val < 52 → d.rbits (.qbase c q) 56 48 ≠ d.me)
    (q.val < 20 → Runs (.qcfgWrite path c q v) s (fun t =>
      en t = on ∧ (∀ i, i ≠ 31 → bit (t.reg (.qcfg c q)) i = bit (d.reg (.qcfg c q)) i) ∧ OnlyRegs d t)) ∧
    (20 ≤ q.val → en d = false → on = true → valid → Runs (.qcfgWrite path c q v) s (fun t =>
      t.reg (.qcfg c q) = BitVec.ofNat 64 (2 ^ 31 + bits v 22 8 * 2 ^ 8 + n) ∧ MemorySame d t)) ∧
    (20 ≤ q.val → en d = false → on = true → ¬ valid → Runs (.qcfgWrite path c q v) s (fun t =>
      en t = false ∧ t.rbit (.seqStatus c) 0 = true ∧ OnlyRegs d t)) ∧
    (20 ≤ q.val → en d = true → on = false → Runs (.qcfgWrite path c q v) s (fun t =>
      en t = false ∧ t.ringHead c q = 0 ∧ t.ringTail c q = 0 ∧ t.ringFull c q = false ∧ OnlyRegs d t)) ∧
    (20 ≤ q.val → en d = true → on = true → Runs (.qcfgWrite path c q v) s (fun t =>
      OnlyRegs d t ∧ ∀ r, t.reg r = d.reg r)) ∧
    Runs (.qcfgWrite .host c q v) s (fun t => OnlyRegs d t ∧ ∀ r, t.reg r = d.reg r)

/-- Commands on contexts, and the configuration of queues. -/
def Obligations.CoreCommands : Prop := Claim.ContextCommands ∧ Claim.QueueConfiguration

namespace Sys2Proof.Claim

/-- The bundle of context `x` can be fetched: PC a multiple of 32 in a window with X permission, memory that answers, and
right parity (R51). -/
def Fetches (d : Dev) (c x : Nat) : Prop :=
  let pc := (d.ctx c x).pc.toNat
  (d.ctx c x).bad = [] ∧ pc % 32 = 0 ∧ InWindow (d.ctx c x) 2 pc 32 ∧ d.memOk pc 32 = true ∧ d.badAt pc 32 = false

/-- The registers that issuing touches beside counters: the trace pointer. -/
def IssueRegs (d t : Dev) (c : Nat) : Prop := RegsBut d t (fun a => IsCounter a ∨ a = (Reg.trcPtr c).addr)

/-- The context's PC moves on by 32 modulo 2^48, it waits for nothing, and nothing else of it changes. -/
def NextBundle (d t : Dev) (c x : Nat) : Prop :=
  t.ctx c x = { d.ctx c x with pc := BitVec.ofNat 64 (((d.ctx c x).pc.toNat + 32) % 2 ^ 48), wait := 0, gated := [] }

end Sys2Proof.Claim

/-- The context that issues next may issue and has the highest PRIO among those that may; where one may issue, one is
chosen (R54). -/
def Sys2Proof.Claim.SelectionByPriority : Prop :=
  ∀ (d : Dev) (c : Nat),
    (∀ x, d.select c = some x →
      x < 80 ∧ d.mayIssue c x = true ∧ ∀ y, y < 80 → d.mayIssue c y = true → (d.ctx c y).prio ≤ (d.ctx c x).prio) ∧
    ((∃ y, y < 80 ∧ d.mayIssue c y = true) → ∃ x, d.select c = some x)

/-- BUNDLE_ISSUE: an all-zero bundle does nothing but move the PC; an engine word alone in slot C, whose checks pass, enters
the queue bound for its engine with the context's scalars; a bundle that cannot be fetched, or a slot of which raises an
exception, takes no effect in any slot, and its context is FAULTED at it; with EN = 0 nothing issues (R51, R53, R66, R174,
R188; 04 R111). -/
def Sys2Proof.Claim.BundlesIssueWhole : Prop :=
  ∀ (c : CoreId) (x : Nat) (s : State),
    let d := s.dev
    let k := d.ctx c x
    let pc := k.pc.toNat
    (d.rbit (.seqCtl c) 0 = false → Runs (.bundleIssue c) s (NothingMoves d)) ∧
    (d.rbit (.seqCtl c) 0 = true → d.select c = none → Runs (.bundleIssue c) s (NothingMoves d)) ∧
    (d.rbit (.seqCtl c) 0 = true → d.select c = some x →
      (Fetches d c x → d.bytesAt pc 32 = List.replicate 32 0 → Runs (.bundleIssue c) s (fun t =>
        NextBundle d t c x ∧ (∀ y, y ≠ x → t.ctx c y = d.ctx c y) ∧ (t.core c).fifo = (d.core c).fifo ∧
        MemorySame d t ∧ IssueRegs d t c)) ∧
      (∀ w : W64, Fetches d c x →
        d.bytesAt pc 32 = List.replicate 16 0 ++ toBytes 8 w.toNat ++ List.replicate 8 0 →
        isEngine w = true → isWide w = false → k.a1c = false → engineIllegal w w false = none →
        let e := bits w 63 61 - 1
        let q := bits (k.binding e) 5 0
        Bound d c x e q → q / 4 = e → ((d.core c).queue q).length < 32 →
        (∀ u, unitOfQueue (4 * e) = some u → bit k.cstatus (leaseBit u) = true) →
        Runs (.bundleIssue c) s (fun t =>
          NextBundle d t c x ∧ MemorySame d t ∧ IssueRegs d t c ∧
          (t.core c).queue q = (d.core c).queue q ++
            [{ ctx := x, pc := k.pc, word := w, s := k.s, seed := k.seed, step := k.step.setWidth 32, a1c := false,
               ord := (d.core c).ord }] ∧
          ∀ p, p ≠ q → (t.core c).queue p = (d.core c).queue p)) ∧
      (¬ Fetches d c x ∨ (d.bundleFail c x k (d.bundleAt pc)).isSome = true → Runs (.bundleIssue c) s (fun t =>
        (t.ctx c x).state = 4 ∧ (t.ctx c x).excpc = k.pc ∧ (t.ctx c x).pc = k.pc ∧ (t.ctx c x).s = k.s ∧
        (t.core c).fifo = (d.core c).fifo)))

/-- A core selects a context, and its bundle issues whole. -/
def Obligations.BundlesAreSelectedAndIssued : Prop := Claim.SelectionByPriority ∧ Claim.BundlesIssueWhole


/-- A write in the CTX window, 64 bits wide, at an aligned offset: in a FREE or HALTED context a scalar register or the PC
takes the value; a running context's CSTATUS takes PRIO alone, and any other change it asks for sets CTXWERR and is ignored
(R60, R61). -/
def Obligations.CtxWindowWrites : Prop :=
  ∀ (path : Path) (c : CoreId) (off : BitVec 15) (v : W64) (s : State),
    let d := s.dev
    let x := off.toNat / 0x200 + d.rbits (.ctxwin c) 6 0
    let o := off.toNat % 0x200
    let k := d.ctx c x
    let a := 0xFF80000000 + c.val * 0x10000 + 0x8000 + off.toNat
    let error := fun (t : Dev) => t.rbit (.seqStatus c) 1
    let write := Instr.ctxWindowWrite path c off true v
    d.pathReach path a = true → d.pathStop path 1 a 8 = none → d.regReach a = true → path ≠ .host → off.toNat % 8 = 0 →
    d.rbit (.seqStatus c) 1 = false →
    (k.state < 2 →
      (o < 0x100 → Runs write s (fun t => OnlyCores d t ∧ CtxOnly d t c x ∧ (t.ctx c x).sreg (o / 8) = v ∧
        (∀ q, q ≠ o / 8 → (t.ctx c x).sreg q = k.sreg q) ∧ t.ctx c x = { k with s := (t.ctx c x).s, bad := (t.ctx c x).bad })) ∧
      (o = 0x100 → Runs write s (fun t => OnlyCores d t ∧ CtxOnly d t c x ∧
        t.ctx c x = { k with pc := BitVec.ofNat 64 (v.toNat % 2 ^ 48), bad := (t.ctx c x).bad }))) ∧
    (2 ≤ k.state →
      (o ≠ 0x108 → o < 0x140 → Runs write s (fun t => error t = true ∧ OnlyRegs d t)) ∧
      (o = 0x108 → Runs write s (fun t =>
        CtxOnly d t c x ∧ t.ctx c x = { k with cstatus := (t.ctx c x).cstatus } ∧ (t.ctx c x).prio = bits v 6 4 ∧
        (∀ i, i < 4 ∨ 6 < i → bit (t.ctx c x).cstatus i = bit k.cstatus i) ∧
        (error t = true ↔ bit v 8 ≠ bit k.cstatus 8 ∨ bit v 9 ≠ bit k.cstatus 9 ∨ bits v 18 16 ≠ 0))))

/-- INTERCORE_TRANSFER: the head entry of an outbound ring goes to the tail of its peer, as its bytes stand; HEAD of the one
and TAIL of the other advance. An entry whose peer names another source is discarded and reported; one whose peer is
disabled or full waits (R69, R72). -/
def Sys2Proof.Claim.InterCoreTransfers : Prop :=
  ∀ (c : CoreId) (q : QueueId) (s : State),
    let d := s.dev
    let peer := d.rbits (.qcfg c q) 22 8
    let c2 := peer / 64
    let q2 := peer % 64
    let src := d.ringEntry c q (d.ringHead c q)
    let dst := d.ringEntry c2 q2 (d.ringTail c2 q2)
    28 ≤ q.val → q.val < 36 → 20 ≤ q2 → q2 < 28 → d.queueOn c q = true → mapGet (fun _ => false) (d.core c).stopped q = false →
    d.ringFill c q ≠ 0 → d.rbits (.qcfg c q) 3 0 ≤ 12 → d.rbits (.qcfg c2 q2) 3 0 ≤ 12 →
    (d.queueOn c2 q2 = true → d.rbits (.qcfg c2 q2) 22 8 = c.val * 64 + q.val → d.ringFull c2 q2 = false →
      d.memOk src 64 = true → d.memOk dst 64 = true → d.memWf = true → d.prot = [] → d.regionAt dst = none →
      Runs (.intercoreTransfer c q) s (fun t =>
        t.physBytes dst 64 = d.bytesAt src 64 ∧
        (∀ p, (p < dst ∨ dst + 64 ≤ p) → t.physBytes p 1 = d.physBytes p 1) ∧
        t.ringHead c q = (d.ringHead c q + 1) % d.ringSize c q ∧ t.ringTail c q = d.ringTail c q ∧
        t.ringTail c2 q2 = (d.ringTail c2 q2 + 1) % d.ringSize c2 q2 ∧ t.ringHead c2 q2 = d.ringHead c2 q2 ∧
        RegsBut d t (fun a => IsCounter a ∨ a = (Reg.qptr c q).addr ∨ a = (Reg.qptr c2 q2).addr))) ∧
    (d.queueOn c2 q2 = true → d.rbits (.qcfg c2 q2) 22 8 ≠ c.val * 64 + q.val →
      Runs (.intercoreTransfer c q) s (fun t =>
        t.ringHead c q = (d.ringHead c q + 1) % d.ringSize c q ∧ t.ringTail c2 q2 = d.ringTail c2 q2 ∧
        (t.reg .fltLogwp = d.reg .fltLogwp + 1 ∨ t.rbits .fltLoglost 31 0 = min (d.rbits .fltLoglost 31 0 + 1) (2 ^ 32 - 1)))) ∧
    (d.queueOn c2 q2 = false → Runs (.intercoreTransfer c q) s (NothingMoves d)) ∧
    (d.queueOn c2 q2 = true → d.rbits (.qcfg c2 q2) 22 8 = c.val * 64 + q.val → d.ringFull c2 q2 = true →
      Runs (.intercoreTransfer c q) s (NothingMoves d))

/-- LEASE_MOVE: a lease whose holder has released it, or is halted, and has no work left on the unit goes to the first
waiting requester, where both LSAVE areas may be used; a holder that has not released it and is not halted keeps it, and so
does a FAULTED one; a holder whose area may not be used faults with LEASE and keeps it, released no more (R79, R80). -/
def Sys2Proof.Claim.LeaseMoves : Prop :=
  ∀ (c : CoreId) (u : BitVec 3) (x y : Nat) (s : State),
    let d := s.dev
    let k := d.core c
    let l := k.lease u.toNat
    let mine := 0xF000000000 + c.val * 0x200000
    let shared := 0xF100000000 + c.val / 8 * 0x400000
    let area := fun (n : Nat) => bits (k.ctx n).lsave 47 12 * 4096
    let good := fun (n : Nat) => area n ≠ 0 ∧
      ((mine ≤ area n ∧ area n + 180 * 1024 ≤ mine + 0x180000) ∨ (shared ≤ area n ∧ area n + 180 * 1024 ≤ shared + 0x400000))
    let shown := fun (t : Dev) (n : Nat) => bit (t.ctx c n).cstatus (if u = 0 then 10 else if u = 1 then 11 else 12)
    (u = 0 ∨ u = 1 ∨ u = 3) → l.owner = some y → x ≠ y → x < 80 → y < 80 →
    l.waiters.filter (fun n => (k.ctx n).state = 3) = [x] →
    (((l.released = true ∧ (k.ctx y).state ≠ 4) ∨ (k.ctx y).state = 1) → k.busyOn u.toNat y = false → good y →
      mapGet (fun _ => none) k.saved (x * 4 + u.toNat) = none →
      Runs (.leaseMove c u) s (fun t =>
        ((t.core c).lease u.toNat).owner = some x ∧ ((t.core c).lease u.toNat).released = false ∧
        x ∉ ((t.core c).lease u.toNat).waiters ∧ shown t x = true ∧ shown t y = false ∧
        (t.ctx c x).s = (k.ctx x).s ∧ (t.ctx c y).s = (k.ctx y).s ∧ (t.ctx c x).state = 3)) ∧
    (l.released = false → (k.ctx y).state ≠ 1 → Runs (.leaseMove c u) s (NothingMoves d)) ∧
    ((k.ctx y).state = 4 → (k.ctx y).a1c = false → Runs (.leaseMove c u) s (NothingMoves d)) ∧
    ((l.released = true ∨ (k.ctx y).state = 1) → k.busyOn u.toNat y = true → Runs (.leaseMove c u) s (NothingMoves d)) ∧
    (((l.released = true ∧ (k.ctx y).state ≠ 4) ∨ (k.ctx y).state = 1) → k.busyOn u.toNat y = false → ¬ good y →
      (k.ctx y).a1c = false → mapGet (fun _ => none) k.saved (x * 4 + u.toNat) = none →
      Runs (.leaseMove c u) s (fun t =>
        FaultedWith d t c y 6 0xFF 0xFF u.toNat ∧ ((t.core c).lease u.toNat).owner = some y ∧
        ((t.core c).lease u.toNat).released = false ∧ shown t y = true))

/-- Transfers between cores, and leases that move. -/
def Obligations.CoresTransferAndLease : Prop := Claim.InterCoreTransfers ∧ Claim.LeaseMoves

namespace Sys2Proof.Claim

/-! ### Engine commands -/

/-- The engine commands: the row, its engine and its OP (07 Table 7.6 to 7.9). -/
def engineRows : List ((CoreId → EngQueue → Instr) × Nat × Nat) := [
  (.mload, 0, 0), (.minv, 0, 1), (.mmul, 0, 2), (.mmulo, 0, 3), (.mclr, 0, 4), (.mturn, 0, 5),
  (.vld, 1, 0), (.vldi, 1, 1), (.vst, 1, 2), (.vop1, 1, 3), (.vop2, 1, 4), (.vcmp, 1, 5), (.plogic, 1, 6), (.pset, 1, 7),
  (.vperm, 1, 8), (.vsf, 1, 9), (.vsmax, 1, 10), (.vepi, 1, 11), (.vclr, 1, 12),
  (.rsum, 2, 0), (.rmax, 2, 1), (.rmin, 2, 2), (.rssq, 2, 3), (.rseg, 2, 4), (.rnoise, 2, 5), (.rtx, 2, 6), (.rst, 2, 7),
  (.rclr, 2, 8),
  (.gtab, 3, 0), (.ggath, 3, 1), (.gscat, 3, 2), (.gscadd, 3, 3), (.gseg, 3, 4), (.gpack, 3, 5), (.gunpk, 3, 6),
  (.gsort, 3, 7), (.guniq, 3, 8), (.gtopk, 3, 9), (.ghist, 3, 10), (.mvx, 4, 0)]

/-- The word of `k` is command `op` of engine `e`. -/
def IsCmd (k : Cmd) (e op : Nat) : Prop := bits k.word 63 61 = e + 1 ∧ bits k.word 60 56 = op

/-- Command `k` stands at the head of queue `q` of engine `e`, and may start: the core runs, no replay is under way, the
engine is neither held nor in reset, nothing of the queue runs or the engine pipelines, the context's commands are not held
and no reset of it is unfinished, its start condition holds, and it need not wait for a running command (03 R73, R75, R76,
R84; 04 R103, R106, R107; 05 R140; 06 R170). -/
def FreeToStart (d : Dev) (c e q : Nat) (k : Cmd) : Prop :=
  let n := bits k.word 45 38
  d.coreRuns c = true ∧ d.replaying c = none ∧ d.engHold c e = false ∧ d.inEngineReset c e = false ∧
  ((d.core c).queue (4 * e + q)).head? = some k ∧ ((d.core c).run (4 * e + q) = none ∨ e < 3) ∧
  (d.ctx c k.ctx).held = false ∧ (d.core c).unfinished k.ctx = false ∧
  (bit k.word 46 = true →
    ((d.reg (.token c (if k.a1c then 192 + n % 64 else n))).toNat % 2 ^ 32 + 2 ^ 32 -
      (k.sreg (bits k.word 37 33)).toNat % 2 ^ 32) % 2 ^ 32 < 2 ^ 31) ∧
  (∀ r ∈ (d.core c).allRuns, mustWait k.word r = false)

/-- What a command needs of what its engine's queues share in turn: the MXE's load port (0), for MLOAD, MMULO and MTURN, and
its array (1), for MMUL, MMULO and MCLR; the start of the VXE (2), the RDU (3) and the GSE (4) (04 R106; 05 R140; 06 R170). -/
def needsOf (k : Cmd) : List Nat :=
  let e := bits k.word 63 61 - 1
  let op := bits k.word 60 56
  if e = 0 then
    (if op = 0 ∨ op = 3 ∨ op = 5 then [0] else []) ++ (if op = 2 ∨ op = 3 ∨ op = 4 then [1] else [])
  else if e < 4 then [e + 1] else []

/-- Queue `q` has the turn on `r`: of the queues whose heads need `r` and may start, it is the first after the one last
served, round-robin (04 R106). -/
def HasTurn (d : Dev) (c e q r : Nat) : Prop :=
  let place := fun (p : Nat) => (p + 7 - mapGet (fun _ => 3) (d.core c).lastServed r % 4) % 4
  ∀ (p : Nat) (g : Cmd), p < 4 → FreeToStart d c e p g → r ∈ needsOf g → place q ≤ place p

/-- Command `k` may start and its queue has the turn; of the two resources of MMULO one suffices (assumption log 31). -/
def InTurn (d : Dev) (c e q : Nat) (k : Cmd) : Prop :=
  FreeToStart d c e q k ∧ (needsOf k = [] ∨ ∃ r ∈ needsOf k, HasTurn d c e q r)

/-- Another head that command `k` clashes with over a tile or a weight buffer was issued earlier and could start now (04 R103,
R107). -/
def GoesBehind (d : Dev) (c e q : Nat) (k : Cmd) : Prop :=
  ∃ (f p : Nat) (g : Cmd), f < 2 ∧ p < 4 ∧ (f, p) ≠ (e, q) ∧ (d.core c).clash k.word g.word = true ∧ g.ord < k.ord ∧
    InTurn d c f p g

/-- Command `k` starts: it may, its queue has the turn, no earlier command goes first, and no byte of its queue fails parity. -/
def Starts (d : Dev) (c e q : Nat) (k : Cmd) : Prop :=
  InTurn d c e q k ∧ ¬ GoesBehind d c e q k ∧ (∀ g ∈ (d.core c).queue (4 * e + q), g.bad = false) ∧
  (e = 3 → (d.core c).plan (4 * e + q) = none) ∧ (e = 4 → (d.core c).chain (4 * e + q) = none)

/-- The command has left its queue and is recorded as run, with how its run ended; the other queues are as before. -/
def Took (d t : Dev) (c e q : Nat) (k : Cmd) (fin : CmdEnd) : Prop :=
  (∃ r, (t.core c).runs (4 * e + q) = (d.core c).runs (4 * e + q) ++ [r] ∧ r.cmd.word = k.word ∧ r.cmd.ctx = k.ctx ∧
    r.cmd.pc = k.pc ∧ r.fin = fin) ∧
  (t.core c).queue (4 * e + q) = ((d.core c).queue (4 * e + q)).drop 1 ∧
  ∀ p, p ≠ 4 * e + q → (t.core c).queue p = (d.core c).queue p ∧ (t.core c).runs p = (d.core c).runs p

/-- Outside engine state of core `c`, only counters and the trace buffer differ. -/
def EngineOnly (d t : Dev) (c : Nat) : Prop :=
  t = { d with cores := t.cores, regs := t.regs, trace := t.trace, freeCtr := t.freeCtr, outbox := t.outbox,
               msixPend := t.msixPend, traceQ := t.traceQ } ∧
  RegsBut d t (fun a => IsCounter a ∨ a = (Reg.trcPtr c).addr) ∧ MemorySame d t ∧ (∀ x, x ≠ c → t.core x = d.core x) ∧
  ∀ y, t.ctx c y = d.ctx c y

/-- The error register of engine `e`. -/
def errorRegister (c e : Nat) : Reg :=
  if e = 0 then .mxeErr c else if e = 1 then .vxeErr c else if e = 2 then .rduErr c else if e = 3 then .gseErr c else .mveErr c

/-- All `n` bytes at `a` may be read, or written, by context `x`: a window grants it, memory answers, and they are neither
in register space, nor in a region, nor on a protected page. -/
def Reaches (d : Dev) (c x perm a n : Nat) : Prop :=
  InWindow (d.ctx c x) perm a n ∧ d.memOk a n = true ∧ isRegSpace a = false ∧
  (∀ p, a ≤ p → p < a + n → d.regionAt p = none) ∧ d.prot = []

/-- Two runs of bytes do not meet. -/
def Apart (a n b m : Nat) : Prop := a + n ≤ b ∨ b + m ≤ a

/-- The low 48 bits of scalar register `n` as command `k` captured it. -/
def captured (k : Cmd) (n : Nat) : Nat := (mapGet (fun _ => 0) k.s n).toNat % 2 ^ 48

end Sys2Proof.Claim

/-- Every engine command: at the head of a queue of its engine, free to start and in turn, it runs: it is recorded as the
queue's last running command with its word, its context and its bundle, and what it needs has served its queue last; without
the turn, or behind an earlier command that it clashes with, an MXE, VXE or RDU command other than RTX does not start (03 R73,
R75; 04 R103, R106, R107, R111; 05 R140; 06 R170; that a turn begins at queue 0 is assumption log 31). -/
def Obligations.EngineCommandsStart : Prop :=
  ∀ row ∈ engineRows, ∀ (c : CoreId) (q : EngQueue) (k : Cmd) (s : State),
    IsCmd k row.2.1 row.2.2 →
    (Starts s.dev c row.2.1 q k → Runs (row.1 c q) s (fun t =>
      (∃ rs r, (t.core c).runs (4 * row.2.1 + q.val) = rs ++ [r] ∧
        rs.length = ((s.dev.core c).runs (4 * row.2.1 + q.val)).length ∧
        r.cmd.word = k.word ∧ r.cmd.ctx = k.ctx ∧ r.cmd.pc = k.pc) ∧
      (∀ r ∈ needsOf k, mapGet (fun _ => 3) (t.core c).lastServed r = q.val) ∧
      ∀ r, r ∉ needsOf k → mapGet (fun _ => 3) (t.core c).lastServed r = mapGet (fun _ => 3) (s.dev.core c).lastServed r)) ∧
    (FreeToStart s.dev c row.2.1 q k → row.2.1 < 3 → row.2 ≠ (2, 6) →
      (needsOf k ≠ [] ∧ ∀ r ∈ needsOf k, ¬ HasTurn s.dev c row.2.1 q r) ∨ GoesBehind s.dev c row.2.1 q k →
      Runs (row.1 c q) s (fun t => NothingMoves s.dev t ∧ t.cores = s.dev.cores))

/-- ENGINE_CMD_COMPLETE, of a queue's running commands the first that has ended: a run that ended without error bumps its
token, where it names one; one that ended in CMDERR makes no bump, writes its engine's error register, holds its context's queued commands and faults the context at the command's
bundle; one that goes on does not complete (R73, R76, R81, R82). -/
def Obligations.EngineCommandCompletes : Prop :=
  ∀ (c : CoreId) (q : Fin 20) (before rest : List Run) (r : Run) (s : State),
    let d := s.dev
    let e := q.val / 4
    let done := fun (t : Dev) => (t.core c).runs q = before ++ rest
    let x := r.cmd.ctx
    let token := bits r.cmd.word 55 48
    (d.core c).runs q = before ++ r :: rest → (∀ b ∈ before, b.fin = .going) → d.waitingWrites = [] →
    d.replaying c = none → r.cmd.a1c = false →
    (r.fin = .ok → bit r.cmd.word 47 = true → d.isAtok c token = false → Runs (.engineCmdComplete c q) s (fun t =>
      done t ∧ (∀ p, p ≠ q.val → (t.core c).runs p = (d.core c).runs p) ∧
      (t.reg (.token c token)).toNat = ((d.reg (.token c token)).toNat + 1) % 2 ^ 32 ∧
      RegsBut d t (fun a => a = (Reg.token c token).addr ∨ IsCounter a ∨ a = (Reg.trcPtr c).addr) ∧
      MemorySame d t ∧ ∀ f y, t.ctx f y = d.ctx f y)) ∧
    (r.fin = .ok → bit r.cmd.word 47 = false → Runs (.engineCmdComplete c q) s (fun t =>
      done t ∧ EngineOnly d t c)) ∧
    (∀ code, r.fin = .cmderr code → code < 256 → x < 80 → (d.ctx c x).state ≠ 0 → (d.ctx c x).state ≠ 5 →
      (d.ctx c x).a1c = false → Runs (.engineCmdComplete c q) s (fun t =>
        done t ∧ (t.ctx c x).state = 4 ∧ bits (t.ctx c x).cstatus 31 24 = 9 ∧
        (t.ctx c x).excrec = BitVec.ofNat 64 (code * 2 ^ 32 + 0xFF * 2 ^ 24 + e * 2 ^ 16 + x) ∧
        (t.ctx c x).excpc = r.cmd.pc ∧ (t.ctx c x).held = true ∧ (t.ctx c x).s = (d.ctx c x).s ∧
        (t.reg (errorRegister c e)).toNat = x * 2 ^ 9 + 2 ^ 8 + code ∧ (∀ (f : CoreId) (n : TokenId), t.reg (.token f n) = d.reg (.token f n)) ∧
        t.rbit (.seqIntstat c) 0 = true)) ∧
    (r.fin = .going → rest = [] → Runs (.engineCmdComplete c q) s (fun t => NothingMoves d t ∧ t.cores = d.cores))

/-- MCLR clears one accumulator, MINV invalidates one weight buffer, an MMUL with M = 0 or with an invalid buffer ends with
SHAPE or MODE and leaves the MXE as it was, and a pure movement by MTURN copies mantissas and exponents as stored (02 R40;
03 R460; 04 R85, R107, R111). -/
def Obligations.MatrixCommands : Prop :=
  ∀ (c : CoreId) (q : EngQueue) (k : Cmd) (s : State),
    let d := s.dev
    let mxe := fun (t : Dev) => (t.core c).mxe
    let rest := fun (t : Dev) => (t.core c).vxe = (d.core c).vxe ∧ (t.core c).gse = (d.core c).gse ∧ EngineOnly d t c
    Starts d c 0 q k →
    (IsCmd k 0 4 →
      let n := bits k.word 32 31
      Runs (.mclr c q) s (fun t => Took d t c 0 q k .ok ∧ rest t ∧
        (t.core c).acTile n = { t := 0, els := [] } ∧ (∀ m, m ≠ n → (t.core c).acTile m = (d.core c).acTile m) ∧
        (mxe t).wb = (mxe d).wb)) ∧
    (IsCmd k 0 1 →
      let n := bits k.word 32 32
      Runs (.minv c q) s (fun t => Took d t c 0 q k .ok ∧ rest t ∧
        ((t.core c).weightBuf n).valid = false ∧ (∀ m, m ≠ n → (t.core c).weightBuf m = (d.core c).weightBuf m) ∧
        (mxe t).ac = (mxe d).ac)) ∧
    (IsCmd k 0 2 →
      let m := (mapGet (fun _ => 0) k.s (bits k.word 15 11)).toNat % 128
      (m = 0 → Runs (.mmul c q) s (fun t => Took d t c 0 q k (.cmderr 1) ∧ rest t ∧ mxe t = mxe d)) ∧
      (1 ≤ m → m ≤ 64 → bits k.word 29 27 < 5 → bits k.word 26 25 < 2 →
        ((d.core c).weightBuf (bits k.word 30 30)).valid = false →
        Runs (.mmul c q) s (fun t => Took d t c 0 q k (.cmderr 3) ∧ rest t ∧ mxe t = mxe d))) ∧
    (IsCmd k 0 5 →
      let f := bits k.word 32 30
      let nm := 4096 * fmtBits f / 8
      let ne := 4096 / fmtN f
      let a := captured k (2 * bits k.word 22 19)
      let b := captured k (2 * bits k.word 22 19 + 1)
      let u := captured k (2 * bits k.word 18 15)
      let v := captured k (2 * bits k.word 18 15 + 1)
      f < 5 → bits k.word 29 27 = f → bits k.word 26 25 < 2 → d.memWf = true →
      Reaches d c k.ctx 0 a nm → Reaches d c k.ctx 0 b ne → Reaches d c k.ctx 1 u nm → Reaches d c k.ctx 1 v ne →
      Apart u nm v ne → d.badAt a nm = false → d.badAt b ne = false →
      Runs (.mturn c q) s (fun t => Took d t c 0 q k .ok ∧ mxe t = mxe d ∧
        t.physBytes u nm = d.bytesAt a nm ∧ t.physBytes v ne = d.bytesAt b ne ∧
        ∀ p, (p < u ∨ u + nm ≤ p) → (p < v ∨ v + ne ≤ p) → t.physBytes p 1 = d.physBytes p 1))

/-- PSET, PLOGIC, VCLR, VLDI and VCMP: what each writes, writes to P0 being ignored, and that nothing else of the engines
changes; VLDI outside the core's and cluster's memory ends with MEMLVL (05 R115, R120, R122, R141, R145, R461). -/
def Obligations.VectorCommands : Prop :=
  ∀ (c : CoreId) (q : EngQueue) (k : Cmd) (s : State),
    let d := s.dev
    let v := fun (t : Dev) => (t.core c).vxe
    let rest := fun (t : Dev) => (t.core c).mxe = (d.core c).mxe ∧ (t.core c).gse = (d.core c).gse ∧ EngineOnly d t c
    let rowsSame := fun (t : Dev) => (v t).rows = (v d).rows ∧ (v t).ra = (v d).ra
    let sreg := fun (n : Nat) => mapGet (fun _ => (0 : W64)) k.s n
    let pWritten := fun (t : Dev) (n : Nat) (f : Nat → Bool) =>
      (n = 0 → ∀ m, (t.core c).pred m = (d.core c).pred m) ∧
      (n ≠ 0 → n < 8 → ∀ i, (t.core c).pred n / 2 ^ i % 2 = 1 ↔ i < 64 ∧ f i = true) ∧
      ∀ m, m < 8 → m ≠ n → (t.core c).pred m = (d.core c).pred m
    let pGood := fun (n : Nat) => (d.core c).predBad n = false
    let p := fun (n i : Nat) => decide ((d.core c).pred n / 2 ^ i % 2 = 1)
    Starts d c 1 q k →
    (IsCmd k 1 7 → Runs (.pset c q) s (fun t => Took d t c 1 q k .ok ∧ rest t ∧ rowsSame t ∧
      pWritten t (bits k.word 32 30) (fun i => decide (i < (sreg (bits k.word 29 25)).toNat % 128)))) ∧
    (IsCmd k 1 6 → pGood (bits k.word 27 25) → pGood (bits k.word 24 22) →
      Runs (.plogic c q) s (fun t => Took d t c 1 q k .ok ∧ rest t ∧ rowsSame t ∧
        pWritten t (bits k.word 30 28) (fun i =>
          let a := p (bits k.word 27 25) i
          let b := p (bits k.word 24 22) i
          if bits k.word 32 31 = 0 then a && b else if bits k.word 32 31 = 1 then a || b
          else if bits k.word 32 31 = 2 then a ^^ b else a && !b))) ∧
    (IsCmd k 1 12 →
      let tr := bits k.word 32 27
      let mine := fun (key : Nat) => if tr < 32 then decide (tr * 64 ≤ key ∧ key < tr * 64 + 64) else key == 224 + tr
      tr < 4 ∨ 32 ≤ tr → Runs (.vclr c q) s (fun t => Took d t c 1 q k .ok ∧ rest t ∧
        (v t).p = (v d).p ∧ (v t).ra = (v d).ra ∧
        ∀ key, (t.core c).vrow key = if mine key then { m := [], x := [] } else (d.core c).vrow key)) ∧
    (IsCmd k 1 1 →
      let a := (sreg (bits k.word 27 23)).toNat % 2 ^ 48
      let key := 256 + bits k.word 32 28
      (8 * stackSize ≤ a → Reaches d c k.ctx 0 a 256 → d.badAt a 256 = false →
        Runs (.vldi c q) s (fun t => Took d t c 1 q k .ok ∧ rest t ∧ (v t).p = (v d).p ∧ (v t).ra = (v d).ra ∧
          (∀ i, i < 64 → ((t.core c).vrow key).exp i = 512 ∧
            ((t.core c).vrow key).mant i = (BitVec.ofNat 32 (ofBytes (((d.bytesAt a 256).drop (4 * i)).take 4))).toInt) ∧
          ∀ j, j ≠ key → (t.core c).vrow j = (d.core c).vrow j)) ∧
      (a < 8 * stackSize → Runs (.vldi c q) s (fun t => Took d t c 1 q k (.cmderr 5) ∧ rest t ∧ v t = v d))) ∧
    (IsCmd k 1 5 →
      let cond := bits k.word 32 31
      let x := 224 + bits k.word 27 22
      let y := 224 + bits k.word 21 16
      let sh := sreg (bits k.word 9 5)
      let vl := bits sh 6 0
      32 ≤ bits k.word 27 22 → 32 ≤ bits k.word 21 16 → bits k.word 15 10 = 0 → shapeBad sh = false →
      (∀ i, i < vl → (d.core c).laneBad x i = false ∧ (d.core c).laneBad y i = false ∧
        ((d.core c).vrow x).exp i = ((d.core c).vrow y).exp i ∧
        ((d.core c).vrow x).mant i ≠ -2 ^ 31 ∧ ((d.core c).vrow y).mant i ≠ -2 ^ 31) →
      (∀ z i, i < 64 → (z = x ∨ z = y) → (d.core c).laneBad z i = false) →
      Runs (.vcmp c q) s (fun t => Took d t c 1 q k .ok ∧ rest t ∧ rowsSame t ∧
        pWritten t (bits k.word 30 28) (fun i =>
          let a := ((d.core c).vrow x).mant i
          let b := ((d.core c).vrow y).mant i
          decide (i < vl) && (if cond = 0 then decide (a = b) else if cond = 1 then decide (a ≠ b)
            else if cond = 2 then decide (a < b) else decide (a ≤ b)))))

/-- RCLR clears one partial, RST stores one as its 16-byte record, and RSUM of the first VL lanes of a V register, all of
one exponent and all finite, is their exact sum (05 R134, R135, R136, R145). -/
def Obligations.ReductionCommands : Prop :=
  ∀ (c : CoreId) (q : EngQueue) (k : Cmd) (s : State),
    let d := s.dev
    let v := fun (t : Dev) => (t.core c).vxe
    let rest := fun (t : Dev) => (t.core c).mxe = (d.core c).mxe ∧ (t.core c).gse = (d.core c).gse ∧ EngineOnly d t c
    let others := fun (t : Dev) (n : Nat) => ∀ m, m ≠ n → (t.core c).ra m = (d.core c).ra m
    Starts d c 2 q k →
    (IsCmd k 2 8 → Runs (.rclr c q) s (fun t => Took d t c 2 q k .ok ∧ rest t ∧ (v t).rows = (v d).rows ∧
      (v t).p = (v d).p ∧ (t.core c).ra (bits k.word 32 30) =
        { s := 0, x := 0, nx := false, empty := false, inexact := false, cnt := 0 } ∧ others t (bits k.word 32 30))) ∧
    (IsCmd k 2 7 →
      let a := captured k (bits k.word 29 25)
      let r := (d.core c).ra (bits k.word 32 30)
      8 * stackSize ≤ a → Reaches d c k.ctx 1 a 16 → d.memWf = true → (d.core c).raBad (bits k.word 32 30) = false →
      Runs (.rst c q) s (fun t => Took d t c 2 q k .ok ∧ v t = v d ∧
        t.physBytes a 16 = toBytes 8 (BitVec.ofInt 64 r.s).toNat ++ toBytes 2 (r.x % 4096) ++
          toBytes 1 ((if r.nx then 1 else 0) + (if r.empty then 2 else 0) + (if r.inexact then 4 else 0)) ++ toBytes 1 0 ++
          toBytes 4 r.cnt.toNat ∧
        ∀ p, (p < a ∨ a + 16 ≤ p) → t.physBytes p 1 = d.physBytes p 1)) ∧
    (IsCmd k 2 0 →
      let row := (d.core c).vrow (224 + bits k.word 31 26)
      let sh := mapGet (fun _ => (0 : W64)) k.s (bits k.word 8 4)
      let vl := bits sh 6 0
      let n := bits k.word 20 16 % 8
      let x0 := row.exp 0
      bits k.word 32 32 = 0 → 32 ≤ bits k.word 31 26 → bits k.word 22 22 = 0 → bits k.word 21 21 = 0 →
      bits k.word 15 15 = 0 → bits k.word 14 9 = 0 → shapeBad sh = false →
      bits sh 14 8 = 1 → bits sh 21 16 = 0 →
      (∀ i, i < 64 → (d.core c).laneBad (224 + bits k.word 31 26) i = false) →
      (∀ i, i < vl → row.exp i = x0 ∧ row.mant i ≠ -2 ^ 31 ∧ -2 ^ 31 < row.mant i ∧ row.mant i < 2 ^ 31) →
      (∃ i, i < vl ∧ row.mant i ≠ 0) →
      Runs (.rsum c q) s (fun t => Took d t c 2 q k .ok ∧ rest t ∧ (v t).rows = (v d).rows ∧ (v t).p = (v d).p ∧
        (t.core c).ra n = { s := ((List.range vl).map row.mant).sum, x := x0 + 1536, nx := false, empty := false,
                            inexact := false, cnt := BitVec.ofNat 32 vl } ∧ others t n))
namespace Sys2Proof.Claim

/-! ### Gather-scatter -/

/-- The `n` 32-bit numbers that bytes spell. -/
def numbers (bs : List Byte) (n : Nat) : List Nat := (List.range n).map (fun i => ofBytes ((bs.drop (4 * i)).take 4))

/-- A table descriptor that R149 accepts: reserved bits at 0, ROWS not 0, MBASE a multiple of 32, and in KIND 1 a stored
format whose mantissa bytes divide a row. -/
def GoodTable (bs : List Byte) : Prop :=
  let w := fun (i n : Nat) => ofBytes ((bs.drop i).take n)
  w 0 8 < 2 ^ 58 ∧ w 8 8 < 2 ^ 48 ∧ w 16 4 ≠ 0 ∧ w 20 1 < 32 ∧ w 21 1 < 16 ∧ w 22 10 = 0 ∧ w 0 8 % 32 = 0 ∧
  (8 ≤ w 21 1 → w 21 1 % 8 < 5 ∧ (w 20 1 + 1) * 32 % fmtBytes (w 21 1 % 8) = 0)

/-- The keys stand in the order that GSORT asks for: ascending or descending, signed or not. -/
def KeysInOrder (signed desc : Bool) (l : List Nat) : Prop :=
  let v := fun (x : Nat) => if signed then (BitVec.ofNat 32 x).toInt else (x : Int)
  l.Pairwise (fun a b => if desc then v b ≤ v a else v a ≤ v b)

end Sys2Proof.Claim

/-- GTAB loads a slot with a descriptor that R149 accepts, and leaves the slot not loaded, with TABLE, on one that it
refuses; GSORT writes the keys in order: a permutation of them, sorted (R148, R149, R166). -/
def Obligations.TablesAndSorting : Prop :=
  ∀ (c : CoreId) (q : EngQueue) (k : Cmd) (s : State),
    let d := s.dev
    let slot := fun (t : Dev) (n : Nat) => mapGet (fun _ => []) (t.core c).gse.tabs n
    Starts d c 3 q k →
    (IsCmd k 3 0 →
      let n := bits k.word 32 30
      let a := captured k (bits k.word 29 25)
      Reaches d c k.ctx 0 a 32 → d.badAt a 32 = false →
      (GoodTable (d.bytesAt a 32) → Runs (.gtab c q) s (fun t => Took d t c 3 q k .ok ∧ EngineOnly d t c ∧
        slot t n = d.bytesAt a 32 ∧ (∀ m, m ≠ n → slot t m = slot d m) ∧ (t.core c).mxe = (d.core c).mxe ∧
        (t.core c).vxe = (d.core c).vxe)) ∧
      (¬ GoodTable (d.bytesAt a 32) → Runs (.gtab c q) s (fun t => Took d t c 3 q k (.cmderr 3) ∧ EngineOnly d t c ∧
        slot t n = [] ∧ ∀ m, m ≠ n → slot t m = slot d m))) ∧
    (IsCmd k 3 7 →
      let r := bits k.word 30 26
      let n := (mapGet (fun _ => (0 : W64)) k.s ((r + 1) % 32)).toNat
      let keys := captured k r
      let scr := captured k ((r + 3) % 32)
      let out := captured k (2 * bits k.word 25 22)
      1 ≤ n → n ≤ 2 ^ 24 → mapGet (fun _ => (0 : W64)) k.s ((r + 2) % 32) = 0 → d.memWf = true →
      8 * stackSize ≤ keys → 8 * stackSize ≤ scr → 8 * stackSize ≤ out →
      Reaches d c k.ctx 0 keys (4 * n) → Reaches d c k.ctx 0 scr (8 * n) → Reaches d c k.ctx 1 scr (8 * n) →
      Reaches d c k.ctx 1 out (4 * n) → Apart scr (8 * n) out (4 * n) → d.badAt keys (4 * n) = false →
      Runs (.gsort c q) s (fun t => Took d t c 3 q k .ok ∧
        (numbers (t.physBytes out (4 * n)) n).Perm (numbers (d.bytesAt keys (4 * n)) n) ∧
        KeysInOrder (bit k.word 32) (bit k.word 31) (numbers (t.physBytes out (4 * n)) n) ∧
        ∀ p, (p < scr ∨ scr + 8 * n ≤ p) → (p < out ∨ out + 4 * n ≤ p) → t.physBytes p 1 = d.physBytes p 1))

/-- A GGATH of one remote raw row: the row's return ends the run, with the row's bytes at the destination; a read without
answer in time ends it with REMOTE and no write, with the position and the index of the row (R153 to R155, R158). -/
def Obligations.RemoteRowsReturn : Prop :=
  ∀ (c : CoreId) (q : EngQueue) (r : Run) (x : RemoteRead) (i n : Nat) (s : State),
    let d := s.dev
    let queue := 12 + q.val
    let bs := mapGet (fun _ => []) (d.core c).gse.tabs (bits r.cmd.word 32 30)
    let rb := (ofBytes ((bs.drop 20).take 1) % 32 + 1) * 32
    let dst := captured r.cmd (2 * bits r.cmd.word 24 21)
    let fin := fun (t : Dev) => ((t.core c).run queue).map (fun v => v.fin)
    (d.core c).run queue = some r → IsCmd r.cmd 3 1 → bs ≠ [] → GoodTable bs → ofBytes ((bs.drop 21).take 1) / 8 % 2 = 0 →
    i < ofBytes ((bs.drop 16).take 4) → i ≠ 2 ^ 32 - 1 →
    (d.core c).plan queue = some { words := [(i, none)], offs := [], todo := [] } → (d.core c).reads queue = [x] → x.pos = 0 →
    (∀ e ∈ (d.core c).gse.rows, e.1 / 2 ^ 32 ≠ queue) →
    (∀ (a : List Byte), x.answer = some (0, a) → a.length = rb → Reaches d c r.cmd.ctx 1 dst rb → d.memWf = true →
      Runs (.gseRowReturn c q 0) s (fun t =>
        fin t = some .ok ∧ (t.core c).reads queue = [] ∧ (t.core c).plan queue = none ∧ t.physBytes dst rb = a ∧
        ∀ p, (p < dst ∨ dst + rb ≤ p) → t.physBytes p 1 = d.physBytes p 1)) ∧
    (x.answer = none → n = (if d.isAbsent (ofBytes ((bs.drop 6).take 2) % 512) then 3 else 2) →
      Runs (.gseRemoteTimeout c q) s (fun t =>
        fin t = some (.cmderr (8 + 256 * n)) ∧ (t.core c).reads queue = [] ∧ (t.core c).plan queue = none ∧
        MemorySame d t ∧ t.regN (.gseErrpos c) = 0 ∧ t.regN (.gseErridx c) = i))

namespace Sys2Proof.Claim

/-! ### Moves -/

/-- Queue `q` of the MVE runs command `k` as a chain that goes on and is not stopped. -/
def Chained (d : Dev) (c q : Nat) (k : Cmd) (ch : Chain) : Prop :=
  (d.core c).chain (16 + q) = some ch ∧ (d.core c).run (16 + q) = some { cmd := k, fin := .going } ∧ ch.stopping = false

/-- The chain's descriptor has ended without error: DONE in its STATUS, and the chain goes on to the next descriptor, or has
ended with its command's run (08 R208, R211). -/
def DescriptorDone (t : Dev) (c q : Nat) (k : Cmd) (ch : Chain) (last : Bool) : Prop :=
  t.physBytes (ch.desc + 56) 4 = toBytes 4 (2 ^ 31) ∧
  (last = true → (t.core c).chain (16 + q) = none ∧ (t.core c).run (16 + q) = some { cmd := k, fin := .ok }) ∧
  (last = false → (t.core c).run (16 + q) = some { cmd := k, fin := .going } ∧
    ∃ e, (t.core c).chain (16 + q) = some e ∧ e.desc = (ch.desc + 64) % 2 ^ 48 ∧ e.bytes = [] ∧ e.count = ch.count ∧
      e.admitted = [] ∧ e.unit = none)

/-- Bytes `i` to `i + n - 1` of a descriptor as a number. -/
def field (bs : List Byte) (i n : Nat) : Nat := ofBytes ((bs.drop i).take n)

/-- The rows of a descriptor: N3 x N2 x N1 (08 R210). -/
def descRows (bs : List Byte) : Nat := field bs 50 2 * field bs 48 2 * field bs 44 4

/-- Row `r` of a plane with a base at byte `i` and a stride at byte `i + 8` of a descriptor. -/
def rowAt (bs : List Byte) (i r : Nat) : Nat := (field bs i 8 + r * field bs (i + 8) 8) % 2 ^ 48

/-- The rows that a descriptor writes can be written, do not meet each other, and do not meet its STATUS word, which can be
written too. -/
def Destinations (d : Dev) (c x : Nat) (ch : Chain) : Prop :=
  let n := field ch.bytes 40 4
  let rows := descRows ch.bytes
  (∀ r, r < rows → Reaches d c x 1 (rowAt ch.bytes 24 r) n ∧ Apart (rowAt ch.bytes 24 r) n (ch.desc + 56) 4) ∧
  (∀ r v, r < rows → v < r → Apart (rowAt ch.bytes 24 r) n (rowAt ch.bytes 24 v) n) ∧
  ch.desc % 64 = 0 ∧ ch.desc < 2 ^ 48 ∧ Reaches d c x 1 (ch.desc + 56) 4 ∧ ch.admitted = [] ∧ d.memWf = true

end Sys2Proof.Claim

/-- A chain: MVX begins it at the descriptor in its scalar; MVE_DESCRIPTOR_START fetches the next descriptor and takes it
where every check passes, and ends the chain with the lowest code of a check that fails, with STATUS and MVE_ERRDESC
(R208, R209, R211). -/
def Obligations.ChainsStart : Prop :=
  ∀ (c : CoreId) (q : EngQueue) (k : Cmd) (ch : Chain) (s : State),
    let d := s.dev
    let bs := d.bytesAt ch.desc 64
    (Starts d c 4 q k → IsCmd k 4 0 → Runs (.mvx c q) s (fun t => Took d t c 4 q k .going ∧ EngineOnly d t c ∧
      ∃ e, (t.core c).chain (16 + q) = some e ∧ e.desc = captured k (bits k.word 32 28) ∧ e.count = 0 ∧ e.bytes = [] ∧
        e.unit = none ∧ e.admitted = [])) ∧
    (Chained d c q k ch → ch.bytes = [] → d.waitingWrites = [] → d.engHold c 4 = false → d.coreRuns c = true →
      d.inEngineReset c 4 = false → ch.desc % 64 = 0 → Reaches d c k.ctx 0 ch.desc 64 → d.badAt ch.desc 64 = false →
      ((MDesc.ofBytes bs).check d ch.count k.a1c = none → Runs (.mveDescriptorStart c q) s (fun t =>
        EngineOnly d t c ∧ (t.core c).chain (16 + q) = some { ch with count := ch.count + 1, bytes := bs } ∧
        (t.core c).run (16 + q) = (d.core c).run (16 + q))) ∧
      (∀ code, (MDesc.ofBytes bs).check d ch.count k.a1c = some code → Reaches d c k.ctx 1 (ch.desc + 56) 4 →
        ch.desc < 2 ^ 48 → ch.admitted = [] → d.memWf = true → Runs (.mveDescriptorStart c q) s (fun t =>
          (t.core c).chain (16 + q) = none ∧ (t.core c).run (16 + q) = some { cmd := k, fin := .cmderr code } ∧
          t.physBytes (ch.desc + 56) 4 = toBytes 4 (2 ^ 31 + 2 ^ 30 + code * 2 ^ 16) ∧
          t.regN (.mveErrdesc c) = ch.desc ∧
          ∀ p, (p < ch.desc + 56 ∨ ch.desc + 60 ≤ p) → t.physBytes p 1 = d.physBytes p 1)))

/-- The whole-descriptor moves: COPY copies each row, FILL writes SRC0 over each row, and CONVERT of a tensor of zero blocks
gives zero blocks in every format and along either axis; no other byte but the STATUS word changes (02 R32, R41; 08 R210). -/
def Obligations.MovesWriteTheirRows : Prop :=
  ∀ (c : CoreId) (q : EngQueue) (k : Cmd) (ch : Chain) (s : State),
    let d := s.dev
    let bs := ch.bytes
    let n := field bs 40 4
    let rows := descRows bs
    let op := field bs 0 1 % 16
    let last := decide (128 ≤ field bs 7 1)
    let kept := fun (t : Dev) (W : Nat → Prop) =>
      ∀ p, ¬ W p → (p < ch.desc + 56 ∨ ch.desc + 60 ≤ p) → t.physBytes p 1 = d.physBytes p 1
    let inRows := fun (p : Nat) => ∃ r, r < rows ∧ rowAt bs 24 r ≤ p ∧ p < rowAt bs 24 r + n
    Chained d c q k ch → bs.length = 64 → 0 < n → 0 < rows →
    (op = 0 → Destinations d c k.ctx ch →
      (∀ r, r < rows → Reaches d c k.ctx 0 (rowAt bs 8 r) n ∧ d.badAt (rowAt bs 8 r) n = false ∧
        ∀ v, v < rows → Apart (rowAt bs 8 r) n (rowAt bs 24 v) n) →
      Runs (.mveCopy c q) s (fun t =>
        (∀ r, r < rows → t.physBytes (rowAt bs 24 r) n = d.bytesAt (rowAt bs 8 r) n) ∧
        DescriptorDone t c q k ch last ∧ kept t inRows)) ∧
    (op = 2 → n % 8 = 0 → Destinations d c k.ctx ch →
      Runs (.mveFill c q) s (fun t =>
        (∀ r i, r < rows → i < n → t.physBytes (rowAt bs 24 r + i) 1 = (bs.drop (8 + i % 8)).take 1) ∧
        DescriptorDone t c q k ch last ∧ kept t inRows)) ∧
    (op = 1 →
      let m := MDesc.ofBytes bs
      let sw := fmtBytes m.sfmt
      let dw := fmtBytes m.dfmt
      let sn := rows * n / fmtN m.sfmt
      let dn := rows * n / fmtN m.dfmt
      m.check d ch.count k.a1c = none →
      m.src0 + sn * sw ≤ 2 ^ 48 → m.src1 + sn ≤ 2 ^ 48 → m.dst0 + dn * dw ≤ 2 ^ 48 → m.dst1 + dn ≤ 2 ^ 48 →
      (∀ i, i < sn → Reaches d c k.ctx 0 (m.src0 + i * sw) sw ∧ Reaches d c k.ctx 0 (m.src1 + i) 1 ∧
        d.badAt (m.src0 + i * sw) sw = false ∧ d.badAt (m.src1 + i) 1 = false ∧ d.bytesAt (m.src1 + i) 1 = [0]) →
      (∀ i, i < dn → Reaches d c k.ctx 1 (m.dst0 + i * dw) dw ∧ Reaches d c k.ctx 1 (m.dst1 + i) 1) →
      Reaches d c k.ctx 1 (ch.desc + 56) 4 →
      Apart m.dst0 (dn * dw) m.dst1 dn → Apart m.dst0 (dn * dw) (ch.desc + 56) 4 → Apart m.dst1 dn (ch.desc + 56) 4 →
      Apart m.dst0 (dn * dw) m.src1 sn → Apart m.dst1 dn m.src1 sn → Apart m.dst0 (dn * dw) m.src0 (sn * sw) →
      Apart m.dst1 dn m.src0 (sn * sw) →
      ch.desc % 64 = 0 → ch.desc < 2 ^ 48 → ch.admitted = [] → d.memWf = true →
      Runs (.mveConvert c q) s (fun t =>
        t.physBytes m.dst0 (dn * dw) = List.replicate (dn * dw) 0 ∧ t.physBytes m.dst1 dn = List.replicate dn 0 ∧
        DescriptorDone t c q k ch last ∧
        kept t (fun p => (m.dst0 ≤ p ∧ p < m.dst0 + dn * dw) ∨ (m.dst1 ≤ p ∧ p < m.dst1 + dn))))
namespace Sys2Proof.Claim

/-! ### Coded moves, code tables and the bulk data port -/

/-- The kind of a table slot's image as CDC_TSLOT shows it: STATE, STG, the bit of an old image still in use, GEN and REFCNT
(08 R229 to R231). -/
def tslot (d : Dev) (n t : Nat) : Nat × Nat × Bool × Nat × Nat :=
  (d.rbits (.cdcTslot n t) 1 0, d.rbits (.cdcTslot n t) 3 2, d.rbit (.cdcTslot n t) 7, d.rbits (.cdcTslot n t) 9 8,
   d.rbits (.cdcTslot n t) 31 16)

/-- Nothing but what a codec keeps for slot `t` and its registers differs. -/
def OnlySlot (d t : Dev) (n k : Nat) : Prop :=
  t = { d with tabs := t.tabs, regs := t.regs, outbox := t.outbox, msixPend := t.msixPend, traceQ := t.traceQ } ∧
  (∀ i j, (i ≠ n ∨ j ≠ k) → i < 8 → j < 4 → k < 4 → t.tab i j = d.tab i j) ∧
  RegsBut d t (fun a => IsCounter a ∨ a = (Reg.cdcTslot n k).addr ∨ a = (Reg.cdcStatus n).addr ∨ a = (Reg.cdcTerr n).addr)

/-- The table lengths of an image that R229 accepts: at most 12 bits each, some symbol coded, and a code that fits. -/
def GoodLengths (lens : List Nat) : Prop :=
  lens.length = 256 ∧ (∀ l ∈ lens, l ≤ 12) ∧ (lens.map (fun l => if l = 0 then 0 else 2 ^ (12 - l))).sum ≤ 4096

end Sys2Proof.Claim

/-- A block that TC encodes decodes to itself, whichever table is chosen: the body is at most 257 bytes, and decoding it
under the table that its header names, with its own CRC, gives the 256 bytes back (08 R223, R224). -/
def Obligations.TcDecodesWhatItEncodes : Prop :=
  ∀ (tables : List (Nat × Nat × List Nat)) (block : List Byte),
    block.length = 256 → (∀ t ∈ tables, t.1 < 4 ∧ GoodLengths t.2.2) → (tables.map (fun t => t.1)).Nodup →
    let body := tcEncode tables block
    body.length ≤ 257 ∧
    tcDecode body (crc16 body).toNat ((tables.find? (fun t => some t.1 = tcSlot body)).map (fun t => t.2)) = .inl block

/-- The table commands: LOAD and STAGE start where no other is unfinished, STG is 0 and no old image is in use, STAGE on a
READY slot only, COMMIT where an image is staged; any other sets CMDREJ. A fetched image that is valid is staged, or waits to become active
while blocks reference the old one; an invalid one sets TERR with its code (R229, R231). -/
def Obligations.CodeTables : Prop :=
  ∀ (path : Path) (n : StackId) (k : Fin 4) (s : State),
    let d := s.dev
    let b := d.tab n k
    let st := tslot d n k
    let rejected := fun (t : Dev) => t.rbit (.cdcStatus n) 1 = true ∧ OnlyRegs d t ∧ t.tab n k = b ∧ tslot t n k = st
    let addr := d.rbits (.cdcTaddr n) 47 2 * 4
    let reaches := PathReaches d path (.cdcTcmd n)
    (reaches → b.busy = 0 → st.2.1 = 0 → st.2.2.1 = false →
      Runs (.tableLoad path n k) s (fun t => OnlySlot d t n k ∧ (tslot t n k).1 = 1 ∧ (t.tab n k).busy = 1 ∧
        (t.tab n k).addr = addr ∧ (t.tab n k).active = b.active ∧ (t.tab n k).fetched = false) ∧
      (st.1 = 2 → Runs (.tableStage path n k) s (fun t => OnlySlot d t n k ∧ tslot t n k = (2, 1, st.2.2) ∧
        (t.tab n k).busy = 2 ∧ (t.tab n k).addr = addr ∧ (t.tab n k).active = b.active)) ∧
      (st.1 ≠ 2 → Runs (.tableStage path n k) s rejected)) ∧
    (reaches → b.busy ≠ 0 ∨ st.2.1 ≠ 0 ∨ st.2.2.1 = true →
      Runs (.tableLoad path n k) s rejected ∧ Runs (.tableStage path n k) s rejected) ∧
    (reaches → b.busy = 0 → st.2.1 = 2 → Runs (.tableCommit path n k) s (fun t => OnlySlot d t n k ∧
      (t.tab n k).active = b.second ∧
      tslot t n k = (st.1, 0, (if st.2.2.2.2 = 0 then st.2.2.1 else true), (st.2.2.2.1 + 1) % 4, 0) ∧
      (st.2.2.2.2 ≠ 0 → (t.tab n k).second = b.active ∧ (t.tab n k).oldRefs = st.2.2.2.2))) ∧
    (reaches → b.busy ≠ 0 ∨ st.2.1 ≠ 2 → Runs (.tableCommit path n k) s rejected) ∧
    (d.memOk b.addr 132 = true → d.badAt b.addr 132 = false → b.fetched = false →
      let img := d.bytesAt b.addr 132
      let e := imageErr img
      (b.busy = 1 → e = 0 → Runs (.tableFetchDone n k) s (fun t => OnlySlot d t n k ∧ tslot t n k = st ∧
        (t.tab n k).second = img ∧ (t.tab n k).fetched = true ∧ (t.tab n k).active = b.active)) ∧
      (b.busy = 2 → e = 0 → Runs (.tableFetchDone n k) s (fun t => OnlySlot d t n k ∧ tslot t n k = (st.1, 2, st.2.2) ∧
        (t.tab n k).second = img ∧ (t.tab n k).busy = 0 ∧ (t.tab n k).active = b.active)) ∧
      (b.busy ≠ 0 → e ≠ 0 → Runs (.tableFetchDone n k) s (fun t => OnlySlot d t n k ∧ t.regN (.cdcTerr n) = e ∧
        t.rbit (.cdcStatus n) 0 = true ∧ (t.tab n k).busy = 0 ∧ (t.tab n k).active = b.active))) ∧
    (b.busy = 1 → b.fetched = true → st.2.2.2.2 = 0 → Runs (.tableLoadActivate n k) s (fun t => OnlySlot d t n k ∧
      (t.tab n k).active = b.second ∧ (t.tab n k).busy = 0 ∧
      tslot t n k = (2, st.2.1, st.2.2.1, (st.2.2.2.1 + 1) % 4, 0))) ∧
    (b.busy = 1 → b.fetched = true → st.2.2.2.2 ≠ 0 → Runs (.tableLoadActivate n k) s (fun t => NothingMoves d t))

/-- Coded moves: MVE_ENCODE and MVE_DECODE hand a descriptor's blocks to its codec from the first on; a block is admitted with
the images of the READY slots it may use, counted in REFCNT and in the codec's count; a TC ENCODE block admitted without
tables is written raw with its index entry when it is done, and is no longer counted; a LOCAL FABRIC transfer enters the
post queue of its port (08 R210, R213, R223, R230; 10 R276). -/
def Obligations.CodedMoves : Prop :=
  ∀ (c : CoreId) (q : EngQueue) (k : Cmd) (ch : Chain) (s : State),
    let d := s.dev
    let m := MDesc.ofBytes ch.bytes
    let chain := fun (t : Dev) => (t.core c).chain (16 + q)
    let counted := fun (t : Dev) (n : Nat) => t.rbits (.cdcStatus n) 31 16
    Chained d c q k ch → ch.bytes ≠ [] →
    (ch.unit = none → m.op = 3 → Runs (.mveEncode c q) s (fun t => EngineOnly d t c ∧ chain t = some { ch with unit := some 0 })) ∧
    (ch.unit = none → m.op = 4 → Runs (.mveDecode c q) s (fun t => EngineOnly d t c ∧ chain t = some { ch with unit := some 0 })) ∧
    (∀ (n : StackId) (u : Nat), ch.unit = some u → m.codec = n.val → u < m.codecBlocks → counted d n < 2 ^ 16 - 1 →
      (m.kind = .frEnc ∨ m.kind = .frDec → Runs (.codecBlockAdmit n c q) s (fun t =>
        chain t = some { ch with unit := some (u + 1), admitted := ch.admitted ++ [{ unit := u, tables := [] }] } ∧
        counted t n = counted d n + 1 ∧ (t.core c).run (16 + q) = (d.core c).run (16 + q) ∧ MemorySame d t)) ∧
      (m.kind = .tcEnc → m.tauto = false → d.rbits (.cdcTslot n m.tslot) 1 0 = 2 →
        d.rbits (.cdcTslot n m.tslot) 31 16 < 2 ^ 16 - 1 → Runs (.codecBlockAdmit n c q) s (fun t =>
          chain t = some { ch with unit := some (u + 1), admitted := ch.admitted ++ [{ unit := u, tables :=
            [(m.tslot, d.rbits (.cdcTslot n m.tslot) 9 8, (d.tab n m.tslot).active)] }] } ∧
          counted t n = counted d n + 1 ∧ t.rbits (.cdcTslot n m.tslot) 31 16 = d.rbits (.cdcTslot n m.tslot) 31 16 + 1)) ∧
      (m.kind = .tcEnc → m.tauto = false → d.rbits (.cdcTslot n m.tslot) 1 0 = 1 →
        Runs (.codecBlockAdmit n c q) s (NothingMoves d))) ∧
    (∀ (n : StackId) (u : Nat) (rest : List Admitted),
      let src := m.src0 + 256 * u
      let body := 0x80 :: d.bytesAt src 256
      let out := m.dst0 + ch.bodyOff
      let index := m.dst1 + 8 * u
      ch.admitted = { unit := u, tables := [] } :: rest → m.codec = n.val → m.kind = .tcEnc → m.tauto = true →
      u + 1 < m.codecBlocks → d.waitingWrites = [] → 0 < counted d n → src < 2 ^ 48 → out < 2 ^ 48 → index < 2 ^ 48 →
      ch.bodyOff + 257 < 2 ^ 38 →
      Reaches d c k.ctx 0 src 256 → d.badAt src 256 = false → Reaches d c k.ctx 1 out 257 → Reaches d c k.ctx 1 index 8 →
      Apart out 257 index 8 → d.memWf = true → ch.cmd = k →
      Runs (.codecBlockDone n c q) s (fun t =>
        t.physBytes out 257 = body ∧
        t.physBytes index 8 = toBytes 8 ((crc16 body).toNat * 2 ^ 48 + 257 * 2 ^ 39 + ch.bodyOff) ∧
        chain t = some { ch with admitted := rest, bodyOff := ch.bodyOff + 257 } ∧ counted t n = counted d n - 1 ∧
        ∀ p, (p < out ∨ out + 257 ≤ p) → (p < index ∨ index + 8 ≤ p) → t.physBytes p 1 = d.physBytes p 1)) ∧
    (m.kind = .fabric → ch.unit = none → m.port < 24 → d.rbits (.portSocnt (d.linkOf m.port)) 23 0 ≠ 0 →
      d.portOff m.port = false → 0 < m.n0 → InWindow (d.ctx c k.ctx) 0 m.src0 m.n0 → d.memOk m.src0 m.n0 = true →
      isRegSpace m.src0 = false → (d.link m.port).posts.length < 16 →
      Runs (.mveFabric c q) s (fun t => chain t = some { ch with unit := some 0 } ∧ MemorySame d t ∧
        ∃ x, (t.link m.port).posts = (d.link m.port).posts ++ [x] ∧ x.core = c.val ∧ x.q = 16 + q.val ∧ x.len = m.n0 ∧
          x.src = m.src0 ∧ x.dst = m.dst0 ∧ x.dev = m.dst1 % 512 ∧ x.xid = BitVec.ofNat 32 m.tid ∧ x.sent = 0 ∧
          x.tv = bit (BitVec.ofNat 64 m.dst1) 26 ∧ x.tcore = m.dst1 / 2 ^ 9 % 512 ∧ x.token = m.dst1 / 2 ^ 18 % 256))
namespace Sys2Proof.Claim

/-! ### Memory, the bulk data port and parameter regions -/

/-- The host port is released, all of the address space is open to it, and the channel is enabled (01 R22; 08 R204; 17 R441). -/
def HostChannel (d : Dev) (n : Fin 8) : Prop :=
  d.mgc.hostUp = true ∧ d.mgc.limited = false ∧ d.rbit (.bdpCtl n) 0 = true

/-- All `n` bytes at `a` are memory outside every region and every protected page, and not register space. -/
def PlainMemory (d : Dev) (a n : Nat) : Prop :=
  d.memOk a n = true ∧ isRegSpace a = false ∧ (∀ p, a ≤ p → p < a + n → d.regionAt p = none) ∧ d.prot = []

/-- A register takes a value in its low bits, and no other register but counters and no byte of memory changes. -/
def TakesLow (d t : Dev) (r : Reg) (hi : Nat) (v : W64) : Prop :=
  (∀ i, i ≤ hi → bit (t.reg r) i = bit v i) ∧ RegsBut d t (fun a => IsCounter a ∨ a = r.addr) ∧ MemorySame d t

/-- A region entry that keeps the rules of R249 for unit `u`: at least one page, both frames within one core's CLM, one CSM
or the stack, and no overlap with another valid region of the unit. -/
def GoodRegion (d : Dev) (u n : Nat) (v : W64) : Prop :=
  let base := bits v 47 16 * 65536
  let len := 2 * bits v 15 0 * 65536
  0 < bits v 15 0 ∧
  ((u < 64 ∧ ((∃ c, c / 8 = u ∧ 0xF000000000 + c * 0x200000 ≤ base ∧ base + len ≤ 0xF000000000 + c * 0x200000 + 0x180000) ∨
      (0xF100000000 + u * 0x400000 ≤ base ∧ base + len ≤ 0xF100000000 + (u + 1) * 0x400000))) ∨
    (64 ≤ u ∧ (u - 64) * 0x1200000000 ≤ base ∧ base + len ≤ (u - 63) * 0x1200000000)) ∧
  ∀ m, m < 32 → m ≠ n → bit (d.reg (.pregCfg u m)) 63 = true →
    let b := bits (d.reg (.pregCfg u m)) 47 16 * 65536
    base + len ≤ b ∨ b + 2 * bits (d.reg (.pregCfg u m)) 15 0 * 65536 ≤ base

end Sys2Proof.Claim

/-- Reset: POR_N is low; nothing waits, memory lists nothing, every die is held in reset, no core has a context but FREE
ones, and the registers hold what the summary gives (08 R203; 17 R435; 18 R456). -/
def Obligations.ResetState : Prop :=
  let d := State.reset.dev
  State.reset.pending = [] ∧ d.mem = [] ∧ d.memWf = true ∧ (∀ n, d.dieUp n = false) ∧ (∀ c x, (d.ctx c x).state = 0) ∧
  d.regN .mgcId = 0xA510100 ∧ d.regN .fabDevid = 0 ∧ d.regN .timNow = 0 ∧ d.regN .chrStep = 0 ∧
  (∀ c : ClusterId, d.regN (.slotmap c) = 0x1876543210) ∧ (∀ p : PortId, d.regN (.portCtl p) = 0x281000) ∧
  (∀ c : CoreId, d.regN (.seqCtl c) = 0x3F00 ∧ d.regN (.gseCtl c) = 0x6400 ∧ d.regN (.seqIntstat c) = 0) ∧
  (∀ (c : CoreId) (n : TokenId), d.regN (.token c n) = 0) ∧ (∀ (c : CoreId) (q : QueueId), d.regN (.qcfg c q) = 0) ∧
  d.regN .fltEsccfg = 0x400003 ∧ d.regN .fltWdcfg = 0x3E81401 ∧ d.regN .chrCfg = 0xFFFE0640 ∧ d.regN .fabTwin = 0x80001716

/-- Memory keeps its canonical form: addresses rise strictly and no entry equals what an unlisted byte reads as, after every
step from every state that has it. -/
def Obligations.MemoryStaysCanonical : Prop :=
  ∀ s t : State, step s = .next t → s.dev.memWf = true → t.dev.memWf = true

/-- A write through the page map is read back, by a DPA of a region's view as by a plain one, and a byte at a DPA whose
physical address the write did not reach reads as before (09 R250). -/
def Obligations.ReadAfterWrite : Prop :=
  ∀ (d : Dev) (a : Nat) (bs : List Byte), d.memWf = true → d.prot = [] → a % 65536 + bs.length ≤ 65536 →
    (∀ r, d.regionAt a = some r → 64 ≤ (r.view a).2) →
    (d.writeAt a bs).bytesAt a bs.length = bs ∧
    ∀ b, (d.physOf b < d.physOf a ∨ d.physOf a + bs.length ≤ d.physOf b) → (d.writeAt a bs).bytesAt b 1 = d.bytesAt b 1

/-- The bulk data port: BDP_ADDR and BDP_CTL take their fields and discard prefetched bytes; a write reaches memory at ADDR,
or at ADDR + offset in WINDOW mode, and a read returns its bytes; in STREAM mode ADDR advances by the length; prefetched bytes are those at ADDR;
a disabled channel's read returns 0xFF bytes and records DISABLED, and its write is dropped (R204 to R207). -/
def Obligations.BulkDataPort : Prop :=
  ∀ (path : Path) (n : Fin 8) (v : W64) (w : W32) (off : BitVec 25) (len : BitVec 13) (data : List Byte) (s : State),
    let d := s.dev
    let addr := d.regN (.bdpAddr n)
    let window := d.rbit (.bdpCtl n) 1
    let a := if window then (addr + off.toNat) % 2 ^ 48 else addr
    let advance := fun (t : Dev) (k : Nat) => t.regN (.bdpAddr n) = if window then addr else (addr + k) % 2 ^ 48
    let ff := List.replicate len.toNat (0xFF#8)
    (PathReaches d path (.bdpAddr n) → Runs (.bdpAddrWrite path n v) s (fun t => TakesLow d t (.bdpAddr n) 47 v ∧ (t.bdpChan n).bytes = [])) ∧
    (PathReaches d path (.bdpCtl n) → Runs (.bdpCtlWrite path n w) s (fun t => TakesLow d t (.bdpCtl n) 2 (w.setWidth 64) ∧ (t.bdpChan n).bytes = [])) ∧
    (HostChannel d n → PlainMemory d a data.length → data ≠ [] → d.memWf = true → Runs (.bdpWrite n off data) s (fun t =>
      t.physBytes a data.length = data ∧ (∀ p, (p < a ∨ a + data.length ≤ p) → t.physBytes p 1 = d.physBytes p 1) ∧
      advance t data.length ∧ (t.bdpChan n).bytes = [] ∧ RegsBut d t (fun b => b = (Reg.bdpAddr n).addr ∨ IsCounter b))) ∧
    (HostChannel d n → 0 < len.toNat → d.memOk a len.toNat = true → isRegSpace a = false → d.badAt a len.toNat = false →
      (d.bdpChan n).bytes = [] → Runs (.bdpRead n off len) s (fun t =>
        Sent d t [.data (.bdp n) (d.bytesAt a len.toNat)] ∧ advance t len.toNat ∧ MemorySame d t ∧
        RegsBut d t (fun b => b = (Reg.bdpAddr n).addr ∨ IsCounter b))) ∧
    (d.mgc.hostUp = true → d.mgc.limited = false → d.rbit (.bdpCtl n) 0 = false → d.rbit (.bdpStat n) 0 = false →
      (0 < len.toNat → Runs (.bdpRead n off len) s (fun t => Sent d t [.data (.bdp n) ff] ∧ MemorySame d t ∧
        t.rbit (.bdpStat n) 0 = true ∧ t.rbits (.bdpStat n) 23 16 = 3)) ∧
      (data ≠ [] → Runs (.bdpWrite n off data) s (fun t => MemorySame d t ∧ t.rbit (.bdpStat n) 0 = true ∧
        t.rbits (.bdpStat n) 23 16 = 3))) ∧
    (∀ ahead : BitVec 16, HostChannel d n → window = false → d.rbit (.bdpCtl n) 2 = true → (d.bdpChan n).bytes = [] →
      let k := min ahead.toNat 4096
      0 < k → d.memOk addr k = true → Runs (.bdpPrefetch n ahead) s (fun t =>
        (t.bdpChan n).base = addr ∧ (t.bdpChan n).bytes = d.bytesAt addr k ∧ MemorySame d t ∧ RegsBut d t IsCounter))

/-- PREG_CFG_WRITE: ignored while a commit is open; an entry with V set that keeps R249 is taken, with VTAG, CUR and WRPAGES
0; one that breaks it is ignored and sets PREGERR. CHANNEL_MIGRATION_DONE switches the mapping to the spare and frees the
migration's lock, unless software holds it (R199, R249; 14 R387). -/
def Obligations.RegionsAndMigration : Prop :=
  (∀ (path : Path) (u : Fin 72) (n : Fin 32) (v : W64) (s : State),
    let d := s.dev
    let w := v &&& 0x8000FFFFFFFFFFFF#64
    let cfg := fun (t : Dev) => t.reg (.pregCfg u n)
    PathReaches d path (.pregCfg u n) →
    (d.rbit .chrStatus 0 = true → Runs (.pregCfgWrite path u n v) s (fun t => OnlyRegs d t ∧ RegsBut d t IsCounter)) ∧
    (d.rbit .chrStatus 0 = false → w ≠ cfg d →
      (bit v 63 = true → GoodRegion d u n v → Runs (.pregCfgWrite path u n v) s (fun t =>
        cfg t = w ∧ t.reg (.pregStat u n) = 0 ∧ (∀ p, p < 65536 →
          mapGet (fun _ => false) t.written ((u.val * 32 + n.val) * 65536 + p) = false) ∧
        RegsBut d t (fun a => IsCounter a ∨ a = (Reg.pregCfg u n).addr ∨ a = (Reg.pregStat u n).addr) ∧ t.mem = d.mem)) ∧
      (bit v 63 = true → ¬ GoodRegion d u n v → Runs (.pregCfgWrite path u n v) s (fun t =>
        t.rbit .chrStatus 6 = true ∧ OnlyRegs d t ∧ RegsBut d t (fun a => IsCounter a ∨ a = Reg.chrStatus.addr))) ∧
      (bit v 63 = false → Runs (.pregCfgWrite path u n v) s (fun t =>
        cfg t = w ∧ RegsBut d t (fun a => IsCounter a ∨ a = (Reg.pregCfg u n).addr) ∧ t.mem = d.mem)))) ∧
  (∀ (n : StackId) (m : Migration) (i : Nat) (s : State),
    let d := s.dev
    mapGet (fun _ => none) d.flt.migs n = some m → m.spare = 32 ∨ m.spare = 33 → m.lock = some i → i < 16 →
    Runs (.channelMigrationDone n) s (fun t =>
      t.rbit (.stkChmap n) (if m.spare = 32 then 7 else 15) = true ∧ t.rbits (.stkChmap n) 17 16 = 0 ∧
      mapGet (fun _ => none) t.flt.migs n = none ∧ t.rbit .fltStatus 7 = true ∧
      (mapGet (fun _ => false) d.flt.swHeld i = false → t.rbit (.fltLock i) 63 = false) ∧
      (mapGet (fun _ => false) d.flt.swHeld i = true → t.reg (.fltLock i) = d.reg (.fltLock i))))
namespace Sys2Proof.Claim

/-! ### Fabric frames -/

/-- A fault record with a code, a unit and a detail, level and part 0, is appended to the log where its place can be
written, and no other byte of memory changes; where it cannot, FLT_LOGLOST counts it (14 R365). -/
def Reports (d t : Dev) (code unit detail : Nat) : Prop :=
  let a := d.regN .fltLogbase + d.regN .fltLogwp % 2 ^ d.rbits .fltLogcfg 4 0 * 32
  (d.memOk a 32 = true →
    t.physBytes (d.physOf a) 32 = toBytes 8 (d.regN .timNow) ++ toBytes 4 unit ++ toBytes 2 code ++ [0, 0] ++
      toBytes 8 detail ++ toBytes 8 (d.regN .chrStep) ∧
    (∀ p, (p < d.physOf a ∨ d.physOf a + 32 ≤ p) → t.physBytes p 1 = d.physBytes p 1) ∧
    t.reg .fltLogwp = d.reg .fltLogwp + 1) ∧
  (d.memOk a 32 = false → t.mem = d.mem ∧ t.rbits .fltLoglost 31 0 = min (d.rbits .fltLoglost 31 0 + 1) (2 ^ 32 - 1))

/-- The registers that a fault record changes: the ring's, and the written pages of a region that the ring lies in. -/
def IsLog (a : Nat) : Prop :=
  a = Reg.fltLogwp.addr ∨ a = Reg.fltLoglost.addr ∨ a = Reg.fltStatus.addr ∨
  ∃ (u : Fin 72) (n : Fin 32), a = (Reg.pregStat u n).addr

/-- The credits a frame costs (R267). -/
def cost (f : Frame) : Nat := (40 + f.payload.length + 63) / 64

/-- The frame as its receiver keeps it: the CRC, the reserved bits and the parity of the way there are gone (R265, R266). -/
def kept (f : Frame) : Frame := { f with rsv := 0, crc := 0, bad := false }

/-- The frame is heard at port `p`, its CRC checks, it has a good form for its type, and is the next expected one; this end has
nothing unacknowledged (R265, R268, R289). -/
def Expected (d : Dev) (p : Nat) (typ vc : Nat) (f : Frame) : Prop :=
  d.portUp p = true ∧ d.portAbsent p = false ∧ crcGood f = true ∧ f.typ.toNat = typ ∧ f.vc.toNat = vc ∧ f.payload.length % 32 = 0 ∧
  f.payload.length ≤ 4096 ∧ f.lseq = (d.link p).rxNext ∧ (d.link p).replay = []

/-- Port `p` has accepted the frame: the next LSEQ is expected, and the frame's credits are returned, or held with it. -/
def Accepted (d t : Dev) (p : Nat) (f : Frame) (held : Bool) : Prop :=
  (t.link p).rxNext = (d.link p).rxNext + 1 ∧
  ∀ v, mapGet vcInit (t.link p).rxGranted v = mapGet vcInit (d.link p).rxGranted v +
    (if held = false ∧ v = f.vc.toNat then BitVec.ofNat 16 (cost f) else 0)

/-- Port `p` has accepted the frame, and the other links are as before. -/
def TookIn (d t : Dev) (p : Nat) (f : Frame) (held : Bool) : Prop :=
  Accepted d t p f held ∧ ∀ q, d.linkOf q ≠ d.linkOf p → t.link q = d.link q

/-- Nothing but the way of port `p`'s link and counters differs. -/
def LinkOnly (d t : Dev) (p : Nat) : Prop :=
  t = { d with links := t.links, regs := t.regs, outbox := t.outbox, msixPend := t.msixPend, traceQ := t.traceQ } ∧ RegsBut d t IsCounter ∧
  ∀ q, q ≠ d.linkOf p → mapGet (fun _ => {}) t.links q = mapGet (fun _ => ({} : Link)) d.links q

/-- A frame may leave on the link of port `r` at once: it has a member up, nothing waits ahead, and credits and the replay
buffer have room (R267, R268). -/
def CanLeave (d : Dev) (r : Nat) (f : Frame) : Prop :=
  d.linkUp r = true ∧ (d.link r).sendq = [] ∧ cost f ≤ (d.link r).avail f.vc.toNat ∧
  (d.link r).replayBytes + 40 + f.payload.length ≤ 524288

/-- The frame, and nothing else, leaves on the link of port `r` with the next LSEQ, the ACK of that link and its CRC, by the
member that the LSEQ selects, and is kept in the replay buffer; its credits are used (R265, R268, R290). -/
def Leaves (d t : Dev) (r : Nat) (f : Frame) : Prop :=
  let g := { f with lseq := (d.link r).txNext, ack := (t.link r).rxNext - 1 }
  Sent d t [.frame (d.member r (d.link r).txNext) (sealFrame g)] ∧ (t.link r).txNext = (d.link r).txNext + 1 ∧
  (t.link r).replay = (d.link r).replay ++ [g] ∧
  ∀ v, mapGet (fun _ => 0) (t.link r).used v = mapGet (fun _ => (0 : W16)) (d.link r).used v +
      (if v = f.vc.toNat then BitVec.ofNat 16 (cost f) else 0)

/-- The registers that sending on the link of port `r` changes: counters, and the state of the link's egress arbiter (11 R300). -/
def SendRegs (d : Dev) (r : Nat) (a : Nat) : Prop := IsCounter a ∨ a = (Reg.arbState (2048 + d.linkOf r)).addr

/-- A frame of this device's own making: LASTF, this device as SRC, its step, no token (Table 10.2). -/
def ownFrame (d : Dev) (typ : BitVec 4) (vc : BitVec 2) (dst xid off : Nat) (payload : List Byte) : Frame :=
  { typ := typ, vc := vc, lastf := true, lseq := 0, src := BitVec.ofNat 9 (d.rbits .fabDevid 8 0), dst := BitVec.ofNat 9 dst,
    xid := BitVec.ofNat 32 xid, off := BitVec.ofNat 32 off, addr := 0, step := BitVec.ofNat 32 (d.regN .chrStep), tv := false,
    core := 0, token := 0, ack := 0, payload := payload }

/-- The payload of a CTRL frame of the link of port `p`: ACK, a NAK or none, and the granted counts (R267). -/
def ctrlBytes (d : Dev) (p : Nat) (nak : Option W16) : List Byte :=
  let granted := fun (v : Nat) => toBytes 2 (mapGet vcInit (d.link p).rxGranted v).toNat
  toBytes 2 ((d.link p).rxNext - 1).toNat ++ toBytes 2 (nak.getD 0).toNat ++ [if nak.isSome then 1 else 0, 0, 0, 0] ++
  granted 0 ++ granted 1 ++ granted 2 ++ List.replicate 18 0

/-- One CTRL frame, and nothing else, leaves on a member of the link of port `p` that is up; no state but counters
changes. -/
def CtrlLeaves (d t : Dev) (p : Nat) (nak : Option W16) : Prop :=
  (∃ m g, m ∈ d.members p ∧ d.portUp m = true ∧ Sent d t [.frame m g] ∧ g.typ = 7 ∧ g.vc = 3 ∧ g.lastf = true ∧
    crcGood g = true ∧ g.payload = ctrlBytes d p nak) ∧
  t = { d with regs := t.regs, outbox := t.outbox, msixPend := t.msixPend, traceQ := t.traceQ } ∧ RegsBut d t IsCounter

/-- An exchange window is valid, grants R (0) or W (1), and holds all `n` bytes at `a` (R272). -/
def InExchange (d : Dev) (perm a n : Nat) : Prop :=
  ∃ i, i < 16 ∧ bit (d.xwin i) 3 = true ∧ bit (d.xwin i) perm = true ∧ bits (d.xwin i) 47 12 * 4096 ≤ a ∧
    a + n ≤ (bits (d.xwin i) 111 76 + 1) * 4096 ∧ bits (d.xwin i) 47 12 ≤ bits (d.xwin i) 111 76

/-- The sequenced frames: row, TYPE and VC (Table 10.3). -/
def sequencedRows : List ((PortId → Frame → Instr) × Nat × Nat) := [
  (.dataFrame, 1, 0), (.rdreqFrame, 2, 2), (.rdrspFrame, 3, 2), (.treeFrame, 4, 1), (.chorusVoteFrame, 5, 1),
  (.chorusDecisionFrame, 5, 1), (.qmsgFrame, 8, 2)]

/-- The sequenced frames that a transit device passes on at once, with their TYPE (R273, R278). -/
def passedOn : List ((PortId → Frame → Instr) × Nat) := [(.rdreqFrame, 2), (.rdrspFrame, 3), (.qmsgFrame, 8)]

end Sys2Proof.Claim

/-- A frame on the link: 32 header bytes, its payload and 8 trailer bytes, each field where Table 10.2 puts it, and in the last
four bytes the CRC-32 of all before; sending computes the CRC, and it checks where the frame is not changed (R265). -/
def Sys2Proof.Claim.FrameLayout : Prop :=
  ∀ f : Frame, f.payload.length % 32 = 0 → f.payload.length ≤ 4096 → f.rsv = 0 →
    let bs := frameBytes f
    let n := f.payload.length
    let num := fun (i k : Nat) => ofBytes ((bs.drop i).take k)
    bs.length = 40 + n ∧ num 0 1 = f.typ.toNat * 16 + f.vc.toNat * 4 + (if f.lastf then 1 else 0) ∧ num 1 1 = n / 32 ∧
    num 2 2 = f.lseq.toNat ∧ num 4 2 = f.src.toNat ∧ num 6 2 = f.dst.toNat ∧ num 8 4 = f.xid.toNat ∧ num 12 4 = f.off.toNat ∧
    num 16 6 = f.addr.toNat ∧ num 22 2 = 0 ∧ num 24 4 = f.step.toNat ∧
    num 28 4 = (if f.tv then 2 ^ 31 else 0) + f.core.toNat * 2 ^ 16 + f.token.toNat ∧ (bs.drop 32).take n = f.payload ∧
    num (32 + n) 2 = f.ack.toNat ∧ num (34 + n) 2 = 0 ∧ num (36 + n) 4 = f.crc.toNat ∧
    (crcGood f = true ↔ f.crc = crc32 (bs.take (36 + n))) ∧ crcGood (sealFrame f) = true

/-- Frames at their port: DATA is written inside an exchange window and its last frame bumps the token; a refused one
writes nothing and is reported; frames for another device wait
for its walker or go on along their route; a remote read is answered; an answer is kept for the read that asked; a sequenced frame out of
order, or one the link lost, is answered by a NAK; CTRL acknowledges, grants and asks for a replay; CROAK names the
neighbour (R267, R268, R271 to R273, R275, R277, R289). -/
def Sys2Proof.Claim.FramesAtTheirPort : Prop :=
  ∀ (p : PortId) (f : Frame) (s : State), s.dev.memWf = true →
    let d := s.dev
    let me := f.dst.toNat = d.rbits .fabDevid 8 0
    let a := (f.addr.toNat + f.off.toNat) % 2 ^ 48
    let n := f.payload.length
    let step := BitVec.ofNat 32 (d.regN .chrStep)
    let near := f.step = step ∨ f.step = step + 1 ∨ f.step + 1 = step
    (Expected d p 1 0 f → me → f.xid ∉ d.deadXids →
      (InExchange d 1 a n → near → PlainMemory d a n →
        d.isAtok f.core.toNat f.token.toNat = false → d.waitingWrites = [] → Runs (.dataFrame p f) s (fun t =>
          TookIn d t p f false ∧ t.physBytes a n = f.payload ∧ t.cores = d.cores ∧
          (∀ b, (b < a ∨ a + n ≤ b) → t.physBytes b 1 = d.physBytes b 1) ∧
          (f.lastf = true → f.tv = true → t.regN (.token f.core.toNat f.token.toNat) =
            (d.regN (.token f.core.toNat f.token.toNat) + 1) % 2 ^ 32) ∧
          RegsBut d t (fun b => IsCounter b ∨ (f.lastf = true ∧ f.tv = true ∧
            (b = (Reg.token f.core.toNat f.token.toNat).addr ∨ b = (Reg.trcPtr f.core.toNat).addr))))) ∧
      (¬ InExchange d 1 a n ∨ ¬ near → Runs (.dataFrame p f) s (fun t =>
        TookIn d t p f false ∧ Reports d t 0x0403 (6 * 2 ^ 28 + p.val) f.xid.toNat ∧ t.rbit .fabStatus 26 = true ∧
        (¬ InExchange d 1 a n → t.rbit .fabStatus 24 = true) ∧ (InExchange d 1 a n → t.rbit .fabStatus 25 = true) ∧
        (f.lastf = false → f.xid ∈ t.deadXids) ∧
        RegsBut d t (fun b => IsCounter b ∨ IsLog b ∨ b = Reg.fabStatus.addr ∨ b = (Reg.portStatus p).addr)))) ∧
    (Expected d p 1 0 f → me → f.xid ∈ d.deadXids → Runs (.dataFrame p f) s (fun t =>
      TookIn d t p f false ∧ t.mem = d.mem ∧ RegsBut d t IsCounter ∧ (f.lastf = true → f.xid ∉ t.deadXids))) ∧
    (Expected d p 2 2 f → me → d.twinDev ≠ some f.src.toNat → ∀ (r : Nat),
      let len := f.off.toNat
      let answer := fun (st : Nat) (bs : List Byte) => ownFrame d 3 2 f.src.toNat f.xid.toNat st bs
      d.route f.src.toNat = some r →
      (32 ≤ len → len ≤ 1024 → len % 32 = 0 → f.addr.toNat % 32 = 0 → InExchange d 0 f.addr.toNat len →
        d.memOk f.addr.toNat len = true → isRegSpace f.addr.toNat = false → d.badAt f.addr.toNat len = false →
        CanLeave d r (answer 0 (d.bytesAt f.addr.toNat len)) → Runs (.rdreqFrame p f) s (fun t =>
          Accepted d t p f false ∧ Leaves d t r (answer 0 (d.bytesAt f.addr.toNat len)) ∧ t.mem = d.mem ∧
          RegsBut d t (SendRegs d r))) ∧
      (len < 32 ∨ 1024 < len ∨ len % 32 ≠ 0 ∨ f.addr.toNat % 32 ≠ 0 ∨ ¬ InExchange d 0 f.addr.toNat len →
        CanLeave d r (answer 1 []) → Runs (.rdreqFrame p f) s (fun t =>
          Accepted d t p f false ∧ Leaves d t r (answer 1 []) ∧ t.mem = d.mem ∧ RegsBut d t (SendRegs d r)))) ∧
    (f.dst.toNat ≠ d.rbits .fabDevid 8 0 → ∀ r, d.route f.dst.toNat = some r →
      (Expected d p 1 0 f → Runs (.dataFrame p f) s (fun t =>
        TookIn d t p f true ∧ (t.link p).fwd = (d.link p).fwd ++ [kept f] ∧ Sent d t [] ∧ t.mem = d.mem ∧ RegsBut d t IsCounter)) ∧
      (∀ row ∈ passedOn, Expected d p row.2 2 f → CanLeave d r f → f.xid ∉ (d.link r).dropXids →
        Runs (row.1 p f) s (fun t =>
          Accepted d t p f false ∧ Leaves d t r (kept f) ∧ t.mem = d.mem ∧ RegsBut d t (SendRegs d r)))) ∧
    (Expected d p 3 2 f → me → bit f.xid 31 = false → Runs (.rdrspFrame p f) s (fun t =>
      let c := f.xid.toNat / 2 ^ 22
      let q := 12 + f.xid.toNat / 2 ^ 20 % 4
      TookIn d t p f false ∧ t.mem = d.mem ∧ RegsBut d t IsCounter ∧ (∀ e, e ≠ c → t.core e = d.core e) ∧
      t.core c = { d.core c with
        gse := { (d.core c).gse with reads := (t.core c).gse.reads, stopped := (t.core c).gse.stopped } } ∧
      ((mapGet (fun _ => []) (d.core c).gse.reads q).any (fun r => r.tag == f.xid.toNat && r.answer.isNone) = true →
        (t.core c).gse.stopped = (d.core c).gse.stopped) ∧
      ((mapGet (fun _ => []) (d.core c).gse.reads q).any (fun r => r.tag == f.xid.toNat && r.answer.isNone) = false →
        (t.core c).gse.stopped = (d.core c).gse.stopped.filter (fun r => r.2.tag ≠ f.xid.toNat)) ∧
      mapGet (fun _ => []) (t.core c).gse.reads q = (mapGet (fun _ => []) (d.core c).gse.reads q).map (fun r =>
        if r.tag = f.xid.toNat ∧ r.answer = none then { r with answer := some (f.off.toNat % 256, f.payload) } else r) ∧
      ∀ e, e ≠ q → mapGet (fun _ => []) (t.core c).gse.reads e = mapGet (fun _ => []) (d.core c).gse.reads e)) ∧
    (d.portUp p = true → d.portAbsent p = false →
      (∀ row ∈ sequencedRows, f.typ.toNat = row.2.1 → f.vc.toNat = row.2.2 → n % 32 = 0 → n ≤ 4096 →
        (d.link p).replay = [] → f.lseq ≠ (d.link p).rxNext →
        Runs (row.1 p f) s (fun t => CtrlLeaves d t p (some (d.link p).rxNext))) ∧
      Runs (.sequencedFrameDiscard p f) s (fun t => CtrlLeaves d t p (some (d.link p).rxNext))) ∧
    (d.portUp p = true → d.portAbsent p = false → crcGood f = true → f.typ = 7 → f.vc = 3 → n % 32 = 0 → n ≤ 4096 → (d.link p).sendq = [] →
      let num := fun (i k : Nat) => ofBytes ((f.payload.drop i).take k)
      let old := (d.link p).replay
      let ack := BitVec.ofNat 16 (num 0 2)
      let gone := match old with
        | [] => 0
        | g :: _ => if (ack - g.lseq).toNat < old.length then (ack - g.lseq).toNat + 1 else 0
      let left := old.drop gone
      32 ≤ n →
      (num 4 1 % 2 = 0 → Runs (.ctrlFrame p f) s (fun t =>
        LinkOnly d t p ∧ (t.link p).replay = left ∧ Sent d t [] ∧ (t.link p).rxNext = (d.link p).rxNext ∧
        ∀ v, v < 3 → mapGet vcInit (t.link p).granted v = BitVec.ofNat 16 (num (8 + 2 * v) 2))) ∧
      (num 4 1 % 2 = 1 → d.chorus.vote = none → ∀ g ∈ left.head?, ∀ i, i < left.length → BitVec.ofNat 16 (num 2 2) = g.lseq + BitVec.ofNat 16 i →
        left.length < 65536 → gone = 0 → (d.link p).replays < 32 → Runs (.ctrlFrame p f) s (fun t =>
          Sent d t ((left.drop i).map (fun h => .frame (d.member p h.lseq) (sealFrame { h with ack := (d.link p).rxNext - 1 }))) ∧
          (t.link p).replay = left ∧ (t.link p).replays = (d.link p).replays + 1 ∧ t.mem = d.mem))) ∧
    (d.portUp p = true → crcGood f = true → f.typ = 6 → f.vc = 3 → n % 32 = 0 → n ≤ 4096 → (d.link p).replay = [] →
      Runs (.croakFrame p f) s (fun t =>
        t = { d with links := t.links, regs := t.regs, outbox := t.outbox, msixPend := t.msixPend, traceQ := t.traceQ } ∧ RegsBut d t IsCounter ∧
        Sent d t [] ∧ t.portOwn p = { d.portOwn p with nbr := f.src.toNat } ∧ ∀ q, q ≠ p.val → t.portOwn q = d.portOwn q))

/-- Frames as they stand on the link, and what a port does with them. -/
def Obligations.FramesArrive : Prop := Claim.FrameLayout ∧ Claim.FramesAtTheirPort

namespace Sys2Proof.Claim

/-- Queue `q` of core `c` is an enabled fabric receive queue whose sender is the sender of the frame (R278). -/
def FromItsSender (d : Dev) (c q : Nat) (f : Frame) : Prop :=
  44 ≤ q ∧ q ≤ 51 ∧ d.queueOn c q = true ∧ d.rbits (.qbase c q) 56 48 = f.src.toNat ∧
  d.rbits (.qcfg c q) 22 8 = f.off.toNat % 2 ^ 15

/-- The payload is 64 bytes. -/
def n64 (f : Frame) : Prop := f.payload.length = 64

/-- The frame's 64 bytes are the next entry of ring `q`, and TAIL has advanced. -/
def EntersRing (d t : Dev) (c q : Nat) (f : Frame) : Prop :=
  let a := d.ringEntry c q (d.ringTail c q)
  t.physBytes a 64 = f.payload ∧ (∀ b, (b < a ∨ a + 64 ≤ b) → t.physBytes b 1 = d.physBytes b 1) ∧
  t.ringTail c q = (d.ringTail c q + 1) % d.ringSize c q ∧ t.ringHead c q = d.ringHead c q

end Sys2Proof.Claim

/-- Queue messages and TREE frames: an entry of a send queue leaves as one QMSG and HEAD advances; a QMSG from its sender
enters its ring, or waits while the ring is full and then enters it; one of another sender is discarded and reported; the
first message of a tree's child is its header, and those after it its data, complete with LASTF; agreed exponents
from the parent are written for a contributor, and the last frame ends its RTX (R278, R280, R282, R287). -/
def Obligations.QueueMessagesAndTreeFrames : Prop :=
  ∀ (p : PortId) (c : CoreId) (q : QueueId) (f : Frame) (s : State), s.dev.memWf = true → s.dev.prot = [] →
    let d := s.dev
    let me := f.dst.toNat = d.rbits .fabDevid 8 0
    let g := f.xid.toNat % 2 ^ 15
    let tail := d.ringEntry c q (d.ringTail c q)
    let room := d.ringFull c q = false ∧ d.rbits (.qcfg c q) 3 0 ≤ 12 ∧ PlainMemory d tail 64
    (36 ≤ q.val → q.val ≤ 43 → d.queueOn c q = true → mapGet (fun _ => false) (d.core c).stopped q.val = false →
      d.ringFill c q ≠ 0 → d.rbits (.qcfg c q) 3 0 ≤ 12 → ∀ r,
        let a := d.ringEntry c q (d.ringHead c q)
        let m := ownFrame d 8 2 (d.rbits (.qbase c q) 56 48) (d.rbits (.qcfg c q) 22 8) (c.val * 64 + q.val) (d.bytesAt a 64)
        d.memOk a 64 = true → d.badAt a 64 = false → d.route (d.rbits (.qbase c q) 56 48) = some r → CanLeave d r m →
        Runs (.qmsgSend c q) s (fun t =>
          Leaves d t r m ∧ t.ringHead c q = (d.ringHead c q + 1) % d.ringSize c q ∧ t.ringTail c q = d.ringTail c q ∧
          t.ringFull c q = false ∧ MemorySame d t ∧ RegsBut d t (fun b => SendRegs d r b ∨ b = (Reg.qptr c q).addr))) ∧
    (Expected d p 8 2 f → n64 f → me → g = c.val * 64 + q.val →
      (FromItsSender d c q f → room → (∀ h ∈ (d.link p).qheld, h.xid.toNat % 2 ^ 15 ≠ g) → Runs (.qmsgFrame p f) s (fun t =>
        TookIn d t p f false ∧ EntersRing d t c q f ∧ (t.link p).qheld = (d.link p).qheld)) ∧
      (FromItsSender d c q f → d.ringFull c q = true → Runs (.qmsgFrame p f) s (fun t =>
        TookIn d t p f true ∧ (t.link p).qheld = (d.link p).qheld ++ [kept f] ∧ t.mem = d.mem ∧ RegsBut d t IsCounter)) ∧
      (¬ FromItsSender d c q f → Runs (.qmsgFrame p f) s (fun t =>
        TookIn d t p f false ∧ Reports d t 0x0204 (3 * 2 ^ 28 + c.val) g ∧ (t.link p).qheld = (d.link p).qheld ∧
        RegsBut d t (fun b => IsCounter b ∨ IsLog b)))) ∧
    (d.linkOf p = p.val → (∀ r : PortId, r < p → (d.link r).qheld = []) → (d.link p).qheld = [f] → n64 f →
      g = c.val * 64 + q.val → FromItsSender d c q f → room → Runs (.qmsgRelease c q) s (fun t =>
        EntersRing d t c q f ∧ (t.link p).qheld = [] ∧
        mapGet vcInit (t.link p).rxGranted f.vc.toNat =
          mapGet vcInit (d.link p).rxGranted f.vc.toNat + BitVec.ofNat 16 (cost f))) ∧
    (Expected d p 4 1 f → bits f.xid 9 8 ≠ 3 →
      let x := d.treeRun (bits f.xid 7 0) (bits f.xid 9 8)
      let heads := fun (y : TreeRun) => mapGet (fun _ => []) y.heads (d.linkOf p)
      let kids := fun (y : TreeRun) => mapGet (fun _ => []) y.kids (d.linkOf p)
      let after := fun (t : Dev) => t.treeRun (bits f.xid 7 0) (bits f.xid 9 8)
      (bit f.xid 10 = false → x.failed = false → x.sent = false → x.desc = [] →
        (heads x = [] → f.payload ≠ [] → Runs (.treeFrame p f) s (fun t =>
          TookIn d t p f false ∧ heads (after t) = f.payload ∧ kids (after t) = kids x ∧ t.mem = d.mem ∧ RegsBut d t IsCounter)) ∧
        (heads x ≠ [] → Runs (.treeFrame p f) s (fun t =>
          TookIn d t p f false ∧ heads (after t) = heads x ∧ kids (after t) = kids x ++ f.payload ∧
          mapGet (fun _ => false) (after t).kidsDone (d.linkOf p) = f.lastf ∧ t.mem = d.mem ∧ RegsBut d t IsCounter))) ∧
      (∀ (r : Run) (e : Edge) (eq ord : Nat),
        let dst := (captured r.cmd ((2 * bits r.cmd.word 25 22 + 4) % 32) + f.off.toNat) % 2 ^ 48
        let bs := f.payload.take ((treeFields x.desc).nblk - f.off.toNat)
        bit f.xid 10 = true → bits f.xid 9 8 = 0 → x.sent = true → x.got = false → (treeFields x.desc).parent = some e →
        d.linkOf e.port = d.linkOf p → (treeFields x.desc).kids = [] → x.cores = [(c.val, ord)] →
        8 ≤ eq → eq < 12 → r ∈ (d.core c).runs eq → r.cmd.ord = ord →
        (∀ i v, 8 ≤ i → i < 12 → v ∈ (d.core c).runs i → v.cmd.ord = ord → i = eq ∧ v = r) → r.fin = .going → IsCmd r.cmd 2 6 → bs ≠ [] → Reaches d c r.cmd.ctx 1 dst bs.length →
        Runs (.treeFrame p f) s (fun t =>
          TookIn d t p f false ∧ t.physBytes dst bs.length = bs ∧
          (∀ b, (b < dst ∨ dst + bs.length ≤ b) → t.physBytes b 1 = d.physBytes b 1) ∧
          (t.core c).runs eq = ((d.core c).runs eq).map (fun v =>
            if v = r then { r with fin := if f.lastf then .ok else .going } else v) ∧ RegsBut d t IsCounter)))
namespace Sys2Proof.Claim

/-! ### Links, walkers and arbiters -/

/-- Every frame of the replay buffer from its oldest leaves again in order, on its member, with the current ACK (R268). -/
def allAgain (d : Dev) (p : Nat) : List Out :=
  (d.link p).replay.map (fun h => .frame (d.member p h.lseq) (sealFrame { h with ack := (d.link p).rxNext - 1 }))

/-- A port of the link that governs `p` holds what a link holds at link-up: nothing in flight, LSEQ 0, the initial credits
(R267, R270). -/
def FreshLink (k : Link) : Prop :=
  k.txNext = 0 ∧ k.rxNext = 0 ∧ k.replay = [] ∧ k.fwd = [] ∧ k.qheld = [] ∧ k.replays = 0 ∧ k.retrains = 0 ∧
  ∀ v, mapGet vcInit k.granted v = vcInit v ∧ mapGet vcInit k.rxGranted v = vcInit v ∧ mapGet (fun _ => 0) k.used v = 0

/-- The device ID of port `p`'s neighbour: as PORT_NBR names it where it is checked, else as its croak does. -/
def neighbourOf (d : Dev) (p : Nat) : Nat :=
  if d.rbit (.portNbr p) 31 then d.rbits (.portNbr p) 8 0 else (d.portOwn p).nbr

/-- Device `n` is the neighbour of an absent port, or its route names a port that is absent or has failed (R274). -/
def AbsentDevice (d : Dev) (n : Nat) : Prop :=
  (∃ p, p < 24 ∧ d.portAbsent p = true ∧ neighbourOf d p = n) ∨
  (d.rbit (.fabRoute n) 7 = true ∧ d.rbits (.fabRoute n) 4 0 < 24 ∧
    (d.portAbsent (d.rbits (.fabRoute n) 4 0) = true ∨ d.rbit (.portStatus (d.rbits (.fabRoute n) 4 0)) 1 = true ∨
      (d.portOwn (d.rbits (.fabRoute n) 4 0)).failed = true))

/-- Port `p` is to run at half width: stage 3 of the autotomy or a later one is in force, or the port is hot; the twin bond is
left out (10 R292; 15 R402, R409). -/
def Halved (d : Dev) (p : Nat) : Prop := d.inBond p = false ∧ (3 ≤ d.pwr.top ∨ d.rbit .pwrThport p = true)

/-- The registers of the members of the link of port `p`. -/
def LinkReg (d : Dev) (p : Nat) (a : Nat) : Prop :=
  IsCounter a ∨ a = Reg.fabStatus.addr ∨ a = (Reg.portSoptr (d.linkOf p)).addr ∨
  ∃ m ∈ d.members p, a = (Reg.portStatus m).addr ∨ a = (Reg.portRetry m).addr ∨ a = (Reg.portCtl m).addr

end Sys2Proof.Claim

/-- The links: PORT_CTL takes EN, RTO and a spare lane up to 16; clearing EN takes the port down, and with its last member the
link's frames are discarded; LINK_UP brings up an enabled port whose neighbour matches PORT_NBR, and sets NBRERR where it
does not; a new spare lane and a replay timeout send everything unacknowledged again; after 32 replays a retrain comes first,
and after three retrains the port fails, and the other member of a bond carries every frame; CTRL and CROAK leave; a missing croak marks the neighbour absent; FAB_ABSENT keeps
the bits whose condition holds (R264, R267 to R270, R274, R289, R290; 15 R402, R405; byte 2 of a CROAK is log entry 8's reading). -/
def Obligations.LinksComeAndGo : Prop :=
  ∀ (path : Path) (p : PortId) (v : W32) (lane : BitVec 5) (dev : BitVec 9) (port : BitVec 5) (k : Fin 16) (s : State),
    let d := s.dev
    let alone := ∀ m ∈ d.members p, m ≠ p.val → d.portUp m = false
    let lsp := d.rbits (.portCtl p) 12 8
    let again := fun (n : Nat) (t : Dev) => Sent d t (allAgain d p) ∧ (t.link p).replay = (d.link p).replay ∧
      (t.link p).replays = n ∧ MemorySame d t ∧ RegsBut d t (LinkReg d p)
    (PathReaches d path (.portCtl p) → (d.link p).soRestore = none → Runs (.portCtlWrite path p v) s (fun t =>
      (∀ i, bit (t.reg (.portCtl p)) i = if i = 31 ∨ (16 ≤ i ∧ i ≤ 23) ∨ (8 ≤ i ∧ i ≤ 12 ∧ bits v 12 8 ≤ 16) then bit v i
        else bit (d.reg (.portCtl p)) i) ∧
      MemorySame d t ∧ RegsBut d t (LinkReg d p) ∧
      (bit v 31 = false → d.rbit (.portCtl p) 31 = true → t.portUp p = false ∧ t.rbit .fabStatus p = false ∧
        (alone → FreshLink (t.link p) ∧ (t.link p).sendq = [])) ∧
      (bit v 31 = true → d.rbit (.portCtl p) 31 = false → (t.portOwn p).failed = false ∧ t.portUp p = d.portUp p) ∧
      ((bits v 12 8 = lsp ∨ 16 < bits v 12 8 ∨ d.portUp p = false) → Sent d t []))) ∧
    (d.rbit (.portCtl p) 31 = true → d.portUp p = false → d.portOff p = false → (d.portOwn p).failed = false →
      (d.clocksStopped = true → d.inBond p = true) →
      (24 ≤ port.toNat → Runs (.linkUp p dev port) s (fun t => t.portUp p = false ∧ t.links = d.links)) ∧ (port.toNat < 24 →
      (d.rbit (.portNbr p) 31 = true → (d.rbits (.portNbr p) 8 0 ≠ dev.toNat ∨ d.rbits (.portNbr p) 20 16 ≠ port.toNat) →
        Runs (.linkUp p dev port) s (fun t => t.rbit (.portStatus p) 3 = true ∧ t.portUp p = false ∧ OnlyRegs d t ∧
          RegsBut d t (fun a => a = (Reg.portStatus p).addr))) ∧
      (d.rbit (.portNbr p) 31 = false ∨ (d.rbits (.portNbr p) 8 0 = dev.toNat ∧ d.rbits (.portNbr p) 20 16 = port.toNat) →
        (d.link p).sendq = [] → Runs (.linkUp p dev port) s (fun t =>
          t.portUp p = true ∧ t.rbit .fabStatus p = true ∧ t.portAbsent p = false ∧ (t.portOwn p).nbr = dev.toNat ∧
          (t.rbit (.portStatus p) 29 = true ↔ Halved d p) ∧ (alone → FreshLink (t.link p)) ∧ Sent d t [] ∧ MemorySame d t ∧
          RegsBut d t (fun a => a = (Reg.portStatus p).addr ∨ a = Reg.fabStatus.addr))))) ∧
    (lane.toNat ≤ 16 → Runs (.laneSpareSwitch p lane) s (fun t =>
      t.rbits (.portCtl p) 12 8 = lane.toNat ∧
      (d.portUp p = false ∨ lsp = lane.toNat → Sent d t [] ∧ OnlyRegs d t ∧ RegsBut d t (fun a => a = (Reg.portCtl p).addr)) ∧
      (d.portUp p = true → lsp ≠ lane.toNat →
        t.rbits (.portRetry p) 15 0 = min (d.rbits (.portRetry p) 15 0 + 1) 65535 ∧ Sent d t (allAgain d p) ∧
        (t.link p).replay = (d.link p).replay ∧ MemorySame d t ∧ RegsBut d t (LinkReg d p)))) ∧
    (16 < lane.toNat → Runs (.laneSpareSwitch p lane) s (fun t => OnlyRegs d t ∧ ∀ r, t.reg r = d.reg r)) ∧
    (d.linkUp p = true → (d.link p).replay ≠ [] → d.chorus.vote = none →
      ((d.link p).replays < 32 → Runs (.replayTimeout p) s (again ((d.link p).replays + 1))) ∧
      (32 ≤ (d.link p).replays → (d.link p).retrains < 3 → Runs (.replayTimeout p) s (fun t =>
        again 1 t ∧ (t.link p).retrains = (d.link p).retrains + 1)) ∧
      (32 ≤ (d.link p).replays → 3 ≤ (d.link p).retrains → (∀ m ∈ d.members p, m < 24) →
        let m := if d.portUp p then p.val else ((d.members p).find? d.portUp).getD p
        Runs (.replayTimeout p) s (fun t =>
          t.portUp m = false ∧ t.rbit (.portStatus m) 1 = true ∧ (t.portOwn m).failed = true ∧
          (∀ n, n < 512 → d.rbit (.fabRoute n) 7 = true → d.rbits (.fabRoute n) 4 0 = m → t.isAbsent n = true) ∧
          (∀ o ∈ d.members p, o ≠ m → t.portUp o = d.portUp o) ∧
          ((∀ o ∈ d.members p, o ≠ m → d.portUp o = false) → Sent d t []) ∧
          (∀ o ∈ d.members p, o ≠ m → d.portUp o = true → d.portAbsent o = false →
            Sent d t ((d.link p).replay.map (fun h => .frame o (sealFrame { h with ack := (d.link p).rxNext - 1 }))))))) ∧
    (d.linkUp p = true → Runs (.ctrlSend p) s (fun t => CtrlLeaves d t p none)) ∧
    Runs .croakSend s (fun t =>
      Sent d t (((List.range 24).filter d.portUp).map (fun q => .frame q (sealFrame { ownFrame d 6 3 (neighbourOf d q) 0 0
        ([BitVec.ofNat 8 q, BitVec.ofNat 8 (d.rbits .pwrMode 1 0), if d.rbit .fabTwin 31 then 1 else 0] ++
          List.replicate 29 0) with ack := (d.link q).rxNext - 1 }))) ∧
      OnlyRegs d t ∧ RegsBut d t IsCounter) ∧
    (d.portUp p = true → d.portAbsent p = false → d.chorus.vote = none → neighbourOf d p < 512 → d.memWf = true →
      Runs (.croakMiss p) s (fun t =>
        t.portAbsent p = true ∧ t.isAbsent (neighbourOf d p) = true ∧
        Reports d t 0x0401 (6 * 2 ^ 28 + p.val) (neighbourOf d p) ∧
        RegsBut d t (fun a => IsCounter a ∨ IsLog a ∨ a = (Reg.portStatus p).addr ∨ ∃ i, i < 16 ∧ a = (Reg.fabAbsent i).addr))) ∧
    (PathReaches d path (.fabAbsent k) → Runs (.fabAbsentWrite path k v) s (fun t =>
      (∀ j, j < 32 → (t.isAbsent (32 * k + j) = true ↔
        (d.isAbsent (32 * k + j) = true ∧ bit v j = false) ∨ AbsentDevice d (32 * k + j))) ∧
      OnlyRegs d t ∧ RegsBut d t (fun a => IsCounter a ∨ a = (Reg.fabAbsent k).addr)))

namespace Sys2Proof.Claim

/-- The walker of the link at `q` stands at an entry with these 16 bytes (R275). -/
def AtEntry (d : Dev) (q : Nat) (bs : List Byte) : Prop :=
  let a := ((d.link q).sobase + 16 * d.rbits (.portSoptr q) 23 0) % 2 ^ 48
  d.linkOf q = q ∧ (d.link q).soStop = false ∧ 0 < (d.link q).socnt ∧ (d.link q).socnt < 2 ^ 24 ∧ d.portOff q = false ∧
  d.memOk a 16 = true ∧ d.badAt a 16 = false ∧ d.bytesAt a 16 = bs

/-- Table 10.4: XID, LEN, DST, KIND and INPORT of an entry, with every reserved bit 0. -/
def entryBytes (xid len dst kind inport : Nat) : List Byte :=
  toBytes 4 xid ++ toBytes 4 len ++ toBytes 2 dst ++ [BitVec.ofNat 8 (kind * 64 + inport)] ++ List.replicate 5 0

/-- The walker has gone on to the next entry; after the last one it counts a PASS, is at entry 0, and takes the slot order
of the registers (R275). -/
def WalkedOn (d t : Dev) (q : Nat) : Prop :=
  let i := d.rbits (.portSoptr q) 23 0 + 1
  (i < (d.link q).socnt → t.rbits (.portSoptr q) 23 0 = i ∧ t.rbits (.portSoptr q) 31 24 = d.rbits (.portSoptr q) 31 24) ∧
  ((d.link q).socnt ≤ i → t.rbits (.portSoptr q) 23 0 = 0 ∧
    t.rbits (.portSoptr q) 31 24 = (d.rbits (.portSoptr q) 31 24 + 1) % 256 ∧
    (t.link q).sobase = d.rbits (.portSobase q) 47 4 * 16 ∧ (t.link q).socnt = d.rbits (.portSocnt q) 23 0)

/-- The next DATA frame of a posted transfer (R276, R277, Table 10.2). -/
def postFrame (d : Dev) (x : Post) (n : Nat) : Frame :=
  { ownFrame d 1 0 x.dev x.xid.toNat x.sent (d.bytesAt ((x.src + x.sent) % 2 ^ 48) n) with
    lastf := decide (x.len ≤ x.sent + n), addr := BitVec.ofNat 48 x.dst, tv := x.tv, core := BitVec.ofNat 9 x.tcore,
    token := BitVec.ofNat 8 x.token }

/-- The input's line is raised and the instance has the input; the egress of PORTB of a bond gets no requests (R299). -/
def requests (d : Dev) (i r : Nat) (lines : W16) : Bool :=
  bit lines r && decide (r < (if i < 2048 then 12 else if i < 2072 then 7 else if (i - 2072) / 34 < 2 then 12 else 11)) &&
  !(d.rbit .fabTwin 31 && decide (d.rbits .fabTwin 4 0 < 24 ∧ d.rbits .fabTwin 12 8 < 24 ∧ i = 2048 + d.rbits .fabTwin 12 8))

/-- The priority level of an input. -/
def levelOf (d : Dev) (i r : Nat) : Nat :=
  if r < 8 then d.rbits (.arbPrio0 i) (4 * r + 3) (4 * r) else d.rbits (.arbPrio1 i) (4 * r - 29) (4 * r - 32)

/-- How far `r` is behind pointer `p` in circular order: the input just after it comes first (R300). -/
def behind (p r : Nat) : Nat := (r + 15 - p % 16) % 16

end Sys2Proof.Claim

/-- SLOT_ORDER_ENTRY: at a LOCAL entry the last frame of the posted transfer leaves, its descriptor completes and the walker
goes on; it waits while no transfer is posted; at a FORWARD entry the frame that has come leaves; a malformed entry, or frames at a wrong port, stop the
walker. SLOT_ORDER_STALL sets SOSTALL and reports the entry's XID (R275, R276). -/
def Obligations.WalkersFollowTheSlotOrder : Prop :=
  ∀ (p : PortId) (xid : W32) (len : W32) (dst : BitVec 9) (inport : PortId) (c : CoreId) (e : EngQueue) (k : Cmd)
      (ch : Chain) (s : State), s.dev.memWf = true →
    let d := s.dev
    let q := d.linkOf p
    let running := Chained d c e k ch ∧ ch.bytes.length = 64 ∧ ch.desc % 64 = 0 ∧ ch.desc < 2 ^ 48 ∧ ch.admitted = [] ∧
      Reaches d c k.ctx 1 (ch.desc + 56) 4
    let still := fun (t : Dev) => t.reg (.portSoptr q) = d.reg (.portSoptr q) ∧ Sent d t [] ∧ MemorySame d t
    let fits := 32 ≤ len.toNat ∧ len.toNat % 32 = 0
    (AtEntry d q (entryBytes xid.toNat len.toNat dst.toNat 0 0) → fits →
      ((∀ x ∈ (d.link q).posts, x.xid ≠ xid) → Runs (.slotOrderEntry p) s (fun t => still t ∧ t.links = d.links ∧
        ∀ r, t.reg r = d.reg r)) ∧
      (∀ x : Post, (d.link q).posts = [x] → x.xid = xid → x.len = len.toNat → x.dev = dst.toNat → x.sent < x.len →
        x.len ≤ x.sent + 4096 → x.core = c.val → x.q = 16 + e.val → running →
        let n := x.len - x.sent
        let a := (x.src + x.sent) % 2 ^ 48
        d.memOk a n = true → d.badAt a n = false →
        (CanLeave d q (postFrame d x n) → Runs (.slotOrderEntry p) s (fun t =>
          Leaves d t q (postFrame d x n) ∧ (t.link q).posts = [] ∧ WalkedOn d t q ∧
          DescriptorDone t c e k ch (decide (128 ≤ field ch.bytes 7 1)))) ∧
        ((d.linkUp q = false ∨ (d.link q).avail 0 < cost (postFrame d x n)) → Runs (.slotOrderEntry p) s (fun t =>
          still t ∧ (t.link q).posts = [x])))) ∧
    (AtEntry d q (entryBytes xid.toNat len.toNat dst.toNat 1 inport) → fits →
      (∀ x ∈ (d.link q).posts, x.xid ≠ xid) →
      (∀ f : Frame, (d.link inport).fwd = [f] → f.xid = xid → f.lastf = true → f.vc = 0 → CanLeave d q f →
        f.bad = false → f.xid ∉ (d.link q).dropXids → (∀ r, d.linkOf r ≠ d.linkOf inport → (d.link r).fwd = []) → Runs (.slotOrderEntry p) s (fun t =>
          Leaves d t q f ∧ (t.link inport).fwd = [] ∧ WalkedOn d t q ∧ MemorySame d t ∧
          mapGet vcInit (t.link inport).rxGranted 0 =
            mapGet vcInit (d.link inport).rxGranted 0 + BitVec.ofNat 16 (cost f))) ∧
      (∀ r : PortId, d.linkOf r = r.val → r.val ≠ d.linkOf inport → (∃ f ∈ (d.link r).fwd, f.xid = xid) →
        Runs (.slotOrderEntry p) s (fun t => still t ∧ t.rbit (.portStatus q) 2 = true ∧ (t.link q).soStop = true))) ∧
    (∀ bs : List Byte, AtEntry d q bs →
      let kind := (bs.getD 10 0).toNat / 64
      (2 ≤ kind ∨ ofBytes ((bs.drop 4).take 4) % 32 ≠ 0 ∨ ofBytes ((bs.drop 4).take 4) = 0 → bs.length = 16 →
        Runs (.slotOrderEntry p) s (fun t => still t ∧ t.rbit (.portStatus q) 2 = true ∧ (t.link q).soStop = true)) ∧
      (d.rbits .fabCfg 31 24 ≠ 0 → bs.length = 16 → Runs (.slotOrderStall p) s (fun t =>
        t.rbit (.portStatus q) 2 = true ∧ Reports d t 0x0404 (6 * 2 ^ 28 + q) (ofBytes (bs.take 4)) ∧ t.links = d.links ∧
        RegsBut d t (fun b => IsCounter b ∨ IsLog b ∨ b = (Reg.portStatus q).addr))))

/-- ARB_DECISION: with a candidate beside the owner the grant goes to the candidate of the highest level that comes first
behind that level's pointer, which service of the owner has moved to it; else it stays parked on the owner; the ages grow by
the cycles in which inputs waited since the last decision, then by this one's, and a served one's is 0; an age that reaches
AGETHR is due, and ARB_STARVE_FLAG, which counts the cycles waited so far, sets its bit (R299 to R303). -/
def Obligations.ArbitersGrantAndAge : Prop :=
  ∀ (i : Fin 2344) (lines more : W16) (waited : List W16) (input : Fin 16) (n : W16) (s : State),
    let d := s.dev
    let a := d.arb i
    let owner := d.rbits (.arbState i) 3 0
    let candidate := fun (r : Nat) => requests d i r lines = true ∧ (r = owner → bit more r = true)
    let served := requests d i owner lines = true
    let pointer := fun (l : Nat) =>
      if served ∧ l = (if d.rbit (.arbState i) 8 then levelOf d i owner else a.level) then owner else a.ptrOf l
    let age := fun (x : Arb) (r : Nat) => mapGet (fun _ => 0) x.age r
    let before := fun (r : Nat) =>
      if requests d i r 0xFFFF ∧ waited.getD r 0 ≠ 0 then min (age a r + (waited.getD r 0).toNat) 65535 else age a r
    let grown := fun (r : Nat) => min (before r + 1) 65535
    let due := fun (x : Arb) (r : Nat) => mapGet (fun _ => false) x.due r
    let thr := d.rbits (.arbAgecfg i) 15 0
    Runs (.arbDecision i lines more waited) s (fun t =>
      t = { d with regs := t.regs, arbs := t.arbs, outbox := t.outbox, msixPend := t.msixPend, traceQ := t.traceQ } ∧
      RegsBut d t (fun b => IsCounter b ∨ b = (Reg.arbState i).addr ∨ b = (Reg.arbMaxage i).addr) ∧
      (∀ j, j ≠ i.val → t.arb j = d.arb j) ∧ (∀ r, r < 16 → (t.rbit (.arbState i) (16 + r) = true ↔ requests d i r lines = true)) ∧
      ((∀ r, candidate r → r = owner) → t.rbits (.arbState i) 3 0 = owner ∧ t.rbit (.arbState i) 8 = true) ∧
      (∀ r, candidate r → (∃ o, candidate o ∧ o ≠ owner) →
        (∀ o, candidate o → levelOf d i o ≤ levelOf d i r) →
        (∀ o, candidate o → levelOf d i o = levelOf d i r → behind (pointer (levelOf d i r)) r ≤ behind (pointer (levelOf d i r)) o) →
        t.rbits (.arbState i) 3 0 = r ∧ t.rbit (.arbState i) 8 = false ∧ (t.arb i).level = levelOf d i r) ∧
      (∀ r, r < 16 → age (t.arb i) r = if served ∧ r = owner then 0 else if requests d i r lines then grown r else before r) ∧
      (∀ r, requests d i r 0xFFFF = true → age a r < thr → thr ≤ before r → due (t.arb i) r = true) ∧
      (∀ r, requests d i r lines = true → ¬ (served ∧ r = owner) → before r < thr → thr ≤ grown r →
        due (t.arb i) r = true)) ∧
    (let waits := n ≠ 0 ∧ d.rbit (.arbState i) (16 + input.val) = true
     let after := if waits then min (age a input + n.toNat) 65535 else age a input
     let flagged := due a input = true ∨ (waits ∧ age a input < thr ∧ thr ≤ after)
     let frame := fun (t : Dev) => age (t.arb i) input = after ∧ due (t.arb i) input = false ∧
       (∀ j, j ≠ i.val → t.arb j = d.arb j) ∧
       RegsBut d t (fun b => IsCounter b ∨ b = (Reg.arbStarve i).addr ∨ b = (Reg.arbMaxage i).addr)
     (flagged → Runs (.arbStarveFlag i input n) s (fun t => frame t ∧ t.rbit (.arbStarve i) input = true)) ∧
     (¬ flagged → Runs (.arbStarveFlag i input n) s (fun t => frame t ∧ t.reg (.arbStarve i) = d.reg (.arbStarve i))))
namespace Sys2Proof.Claim

/-! ### The chorus and the step boundary -/

/-- The payload of a CHORUS frame: kind, cause bits, decision, and the vote's step, LS and RUN (R288). -/
def chorusBytes (kind dec causes : Nat) (v : Vote) : List Byte :=
  [BitVec.ofNat 8 kind] ++ toBytes 2 causes ++ [BitVec.ofNat 8 dec] ++ toBytes 4 v.step.toNat ++ [BitVec.ofNat 8 v.ls, 0] ++
  toBytes 2 v.run ++ List.replicate 20 0

/-- The frame that carries it along an edge. -/
def chorusFrame (d : Dev) (e : Edge) (kind dec causes : Nat) (v : Vote) : Frame :=
  ownFrame d 5 1 e.dev 0 0 (chorusBytes kind dec causes v)

/-- The cause bits of two votes together, with CFG where their step, LS or RUN differ (R257). -/
def together (a b : Vote) : Nat :=
  let c := a.causes ||| b.causes
  if a.step = b.step ∧ a.ls = b.ls ∧ a.run = b.run then c else c ||| 32

/-- The decision at the root: HOLD on CFG or ABSENT, else SKIP on any cause, else COMMIT (R257). -/
def rootDecides (causes : Nat) : Nat := if causes / 32 ≠ 0 then 3 else if causes ≠ 0 then 2 else 1

/-- LS and RUN after a decision (R259). -/
def scaled (d : Dev) (dec causes : Nat) : Nat × Nat :=
  let ls := d.rbits .chrLs 5 0
  let run := d.rbits .chrLs 31 16
  let grow := d.rbits .chrLscfg 31 16
  if dec = 1 then
    if grow ≠ 0 ∧ grow ≤ run + 1 then (min (ls + 1) (d.rbits .chrLscfg 13 8), 0) else (ls, (run + 1) % 65536)
  else if causes % 4 ≠ 0 then (max (ls - 1) (d.rbits .chrLscfg 5 0), 0)
  else (ls, 0)

/-- Context `x` of core `c` is a participant (R255). -/
def Participant (d : Dev) (c x : Nat) : Prop := d.takesPart c = true ∧ d.isParticipant x = true ∧ (d.ctx c x).state ≠ 0

end Sys2Proof.Claim

/-- The last core to arrive makes the device vote; a child's vote is filed, and with this device's own goes up, or at the
root makes the decision, which goes down; a decision from the parent is kept and passed on; a vote without a decision in
time sets the timeout (R255 to R258, R288; that a FREE context is no participant is log entry 10's reading). -/
def Obligations.VotesAndDecisionsTravel : Prop :=
  ∀ (path : Path) (c : CoreId) (w : W32) (n : TokenId) (p : PortId) (f : Frame) (tree : Tree) (e : Edge) (s : State),
    let d := s.dev
    let num := fun (i k : Nat) => ofBytes ((f.payload.drop i).take k)
    let v : Vote := { causes := num 1 2 % 128, step := BitVec.ofNat 32 (num 4 4), ls := num 8 1, run := num 10 2 }
    let filed := fun (t : Dev) => TookIn d t p f false ∧ t.mem = d.mem ∧
      mapGet (fun _ => none) t.chorus.kids e.port = some v
    (d.takesPart c = true → n.val = d.rbits .chrCfg 23 16 → d.chorus.vote = none →
      mapGet (fun _ => 0) d.chorus.arrivals c.val + 1 = d.narr c →
      PathReaches d path (.token c n) → (∀ k, k < 4 → d.dieUp k = true) →
      (∀ k, k < 512 → k ≠ c.val → d.takesPart k = true → d.arrived k = true) → Runs (.tokenWrite path c n w) s (fun t =>
        ∃ v : Vote, t.chorus.vote = some v ∧ v.step = BitVec.ofNat 32 (d.regN .chrStep) ∧ v.ls = d.rbits .chrLs 5 0 ∧
          v.run = d.rbits .chrLs 31 16 ∧ v.causes < 32 ∧
          (v.causes % 2 = 1 ↔ ∃ k ∈ d.cores, ∃ x ∈ k.2.ctxs, d.takesPart k.1 = true ∧ d.isParticipant x.1 = true ∧
            x.2.state ≠ 0 ∧ bit x.2.cstatus 16 = true) ∧
          (v.causes / 2 % 2 = 1 ↔ d.rbit .chrCfg 1 = true ∧ ∃ k ∈ d.cores, ∃ x ∈ k.2.ctxs, d.takesPart k.1 = true ∧
            d.isParticipant x.1 = true ∧ x.2.state ≠ 0 ∧ bit x.2.cstatus 17 = true) ∧
          (v.causes / 4 % 2 = 1 ↔ d.rbit .chrVote 1 = true) ∧
          (v.causes / 8 % 2 = 1 ↔ ∃ u i r, u < 72 ∧ i < 32 ∧ d.region u i = some r ∧
            0 < d.rbits (.pregStat u i) 15 0 ∧ d.rbits (.pregStat u i) 15 0 < r.pages) ∧
          (v.causes / 16 % 2 = 1 ↔ d.rbit .chrVote 0 = true))) ∧
    (Expected d p 5 1 f → 32 ≤ f.payload.length → d.chorusTree = some tree →
      (num 0 1 = 1 → tree.kids = [e] → d.linkOf e.port = d.linkOf p →
        (d.chorus.vote = none → Runs (.chorusVoteFrame p f) s (fun t =>
          filed t ∧ t.chorus = { d.chorus with kids := t.chorus.kids } ∧ Sent d t [] ∧ RegsBut d t IsCounter)) ∧
        (∀ own : Vote, d.chorus.vote = some own → d.chorus.sent = false → own.causes < 128 → d.isAbsent e.dev = false →
          let causes := together own v
          (∀ up, tree.parent = some up → d.isAbsent up.dev = false → CanLeave d up.port (chorusFrame d up 1 0 causes own) →
            Runs (.chorusVoteFrame p f) s (fun t =>
              Leaves d t up.port (chorusFrame d up 1 0 causes own) ∧ t.chorus.sent = true ∧ t.mem = d.mem ∧
              t.chorus.vote = some own ∧ RegsBut d t (SendRegs d up.port))) ∧
          (tree.parent = none → CanLeave d e.port (chorusFrame d e 2 (rootDecides causes) causes own) →
            Runs (.chorusVoteFrame p f) s (fun t =>
              Leaves d t e.port (chorusFrame d e 2 (rootDecides causes) causes own) ∧
              t.chorus.decision = some (rootDecides causes, causes) ∧ t.rbit .chrStatus 1 = false ∧ t.mem = d.mem ∧
              RegsBut d t (fun a => SendRegs d e.port a ∨ a = Reg.chrStatus.addr ∨ a = Reg.fabSlack.addr))))) ∧
      (num 0 1 = 2 → 1 ≤ num 3 1 → num 3 1 ≤ 3 → d.chorus.decision = none → d.chorus.applying = 0 → ∀ up,
        tree.parent = some up → d.linkOf up.port = d.linkOf p →
        let stands := fun (t : Dev) => t.chorus.decision = some (num 3 1, num 1 2 % 128) ∧ t.rbit .chrStatus 1 = false ∧
          t.mem = d.mem ∧
          RegsBut d t (fun a => SendRegs d e.port a ∨ a = Reg.chrStatus.addr ∨ a = Reg.fabSlack.addr)
        (tree.kids = [] → Runs (.chorusDecisionFrame p f) s (fun t => stands t ∧ TookIn d t p f false ∧ Sent d t [])) ∧
        (tree.kids = [e] → CanLeave d e.port (chorusFrame d e 2 (num 3 1) v.causes v) →
          Runs (.chorusDecisionFrame p f) s (fun t =>
            stands t ∧ Accepted d t p f false ∧ Leaves d t e.port (chorusFrame d e 2 (num 3 1) v.causes v))))) ∧
    (d.rbit .chrStatus 1 = true → d.rbits .chrCfg 15 4 ≠ 0 → Runs .chorusTimeout s (fun t =>
      t.rbit .chrStatus 4 = true ∧ OnlyRegs d t ∧ RegsBut d t (fun a => a = Reg.chrStatus.addr)))

/-- The step boundary, with no round of Lular open: a COMMIT or SKIP adds 1 to CHR_STEP, applies the loss-scale rule,
records the decision, opens the boundary, adds 1 to every participant's STEP and clears the flags it voted; COMMIT switches
every fully written region to its other frame, behind a new header, and SKIP clears the written pages; HOLD changes neither
step nor vote and stops the device; the end bumps DTOK of every core that takes part and closes the boundary, unless it is withheld or the
device is to stop there (R252, R253, R258, R259; 14 R377, R385; what CHR_DREC records of a HOLD is log entry 10's
reading). -/
def Obligations.BoundariesApplyDecisions : Prop :=
  ∀ (dec causes : Nat) (s : State),
    let d := s.dev
    let drec := fun (ls k : Nat) => (d.regN .chrStep % 2 ^ 32) * 2 ^ 32 + ls * 2 ^ 16 + causes * 2 ^ 8 + k
    let cfg := fun (t : Dev) (r : Region) => t.reg (.pregStat r.unit r.num)
    let dtok := d.rbits .chrCfg 31 24
    (d.chorus.decision = some (dec, causes) → d.chorus.applying = 0 → causes < 128 →
      ((dec = 1 ∨ dec = 2) → d.lul.round = none → d.lul.merging = none → Runs .decisionApply s (fun t =>
        t.reg .chrStep = d.reg .chrStep + 1 ∧ t.regN .chrLs = (scaled d dec causes).2 * 2 ^ 16 + (scaled d dec causes).1 ∧
        t.regN .chrDrec = drec (scaled d dec causes).1 dec ∧ t.rbit .chrStatus 0 = true ∧
        t.chorus.applying = dec ∧ t.chorus.decision = none ∧ t.chorus.vote = none ∧
        (∀ (c : CoreId) (x : CtxId), (Participant d c x → (t.ctx c x).step = (d.ctx c x).step + 1 ∧
            (bit (t.ctx c x).cstatus 16 = true ↔ bit (d.ctx c x).cstatus 16 = true ∧ c.val * 128 + x.val ∉ d.chorus.nfOf) ∧
            (bit (t.ctx c x).cstatus 17 = true ↔ bit (d.ctx c x).cstatus 17 = true ∧ c.val * 128 + x.val ∉ d.chorus.satOf)) ∧
          (¬ Participant d c x → t.ctx c x = d.ctx c x) ∧ (t.ctx c x).s = (d.ctx c x).s ∧ (t.ctx c x).pc = (d.ctx c x).pc) ∧
        (∀ (c : CoreId) (n : TokenId), t.reg (.token c n) = d.reg (.token c n)) ∧
        ∀ (u : Fin 72) (n : Fin 32) (r : Region), d.region u n = some r → 0 < r.pages →
          (dec = 1 → bits (cfg d r) 15 0 = r.pages →
            bits (cfg t r) 31 31 = 1 - r.cur ∧ bits (cfg t r) 63 32 = (bits (cfg d r) 63 32 + 1) % 2 ^ 32 ∧
            bits (cfg t r) 15 0 = 0 ∧
            ((∀ v m, v < 72 → m < 32 → (v, m) ≠ (u.val, n.val) → d.region v m = none) → d.prot = [] → d.memWf = true →
              d.rbit .pwrMode 31 = false →
              t.physBytes (r.base + (1 - r.cur) * (r.pages * 65536)) 64 = toBytes 4 ((bits (cfg d r) 63 32 + 1) % 2 ^ 32) ++
                toBytes 4 (d.rbits .fabDevid 8 0 * 2 ^ 23 + u.val * 2 ^ 16 + n.val * 2 ^ 11) ++
                toBytes 8 ((d.regN .chrStep + 1) % 2 ^ 64) ++ List.replicate 48 0)) ∧
          (dec = 1 → bits (cfg d r) 15 0 ≠ r.pages → cfg t r = cfg d r) ∧
          (dec = 2 → bits (cfg t r) 15 0 = 0 ∧ bits (cfg t r) 31 31 = r.cur ∧ bits (cfg t r) 63 32 = bits (cfg d r) 63 32))) ∧
      (dec = 3 → Runs .decisionApply s (fun t =>
        t.reg .chrStep = d.reg .chrStep ∧ t.regN .chrDrec = drec (d.rbits .chrLs 5 0) 3 ∧ t.rbit .chrStatus 3 = true ∧
        t.rbit .fltStatus 0 = true ∧ t.rbits .fltStatus 19 16 = 4 ∧ t.cores = d.cores ∧ t.chorus.vote = d.chorus.vote ∧
        t.chorus.arrivals = d.chorus.arrivals ∧ t.chorus.applying = 0 ∧
        ∀ (c : CoreId) (n : TokenId), t.reg (.token c n) = d.reg (.token c n)))) ∧
    (d.chorus.applying ≠ 0 → d.chorus.order = 5 →
      (d.chorus.stopAsked = 0 → d.rbit .pwrStatus 28 = false → d.flt.withheld = false → d.lulOn = false →
        dtok ≠ d.rbits .chrCfg 23 16 → Runs .boundaryFinish s (fun t =>
          (∀ c : CoreId, t.regN (.token c dtok) =
            if d.takesPart c then (d.regN (.token c dtok) + 1) % 2 ^ 32 else d.regN (.token c dtok)) ∧
          t.rbit .chrStatus 0 = false ∧ t.chorus.applying = 0 ∧ t.cores = d.cores ∧ MemorySame d t ∧
          RegsBut d t (fun a => a = Reg.chrStatus.addr ∨ ∃ c : CoreId, a = (Reg.token c dtok).addr ∨ a = (Reg.trcPtr c).addr))) ∧
      (d.chorus.stopAsked = 0 → (d.rbit .pwrStatus 28 = true ∨ d.flt.withheld = true) → Runs .boundaryFinish s (fun t =>
        OnlyRegs d t ∧ ∀ r, t.reg r = d.reg r)) ∧
      (d.chorus.stopAsked ≠ 0 → d.chorus.stopAsked < 16 → d.memWf = true → Runs .boundaryFinish s (fun t =>
        t.rbit .fltStatus 0 = true ∧ t.rbits .fltStatus 19 16 = d.chorus.stopAsked ∧ t.flt.withheld = true ∧
        t.chorus = { d.chorus with stopAsked := 0 } ∧ Reports d t 0x0606 0 d.chorus.stopAsked ∧
        RegsBut d t (fun a => IsCounter a ∨ IsLog a))))
namespace Sys2Proof.Claim

/-! ### The Lular exchange -/

/-- The state of the open round (Table 12.6): 0 IDLE, 1 FORMING, 2 SENDING, 3 WAITING, 4 DECIDED, 5 HELD, 6 JOINING. -/
def roundState (d : Dev) : Nat := d.rbits .lulStatus 31 28

/-- Two registers as one number of 128 bits, the lower one first. -/
def wide (a b : W64) : BitVec 128 := BitVec.ofNat 128 (a.toNat + b.toNat * 2 ^ 64)

/-- The outer headers of a frame say that it is Lular for this device (R308): MAC, EtherType behind a tag with the port's VID or
none, UDP, this device's address, the address of a peer, and the port of LUL_UDP. -/
def Addressed (d : Dev) (l : Nat) (f : LulFrame) : Prop :=
  f.env.dstMac.toNat = d.rbits (.lhpMac l) 47 0 ∧ f.env.etherType = 0x86DD ∧
  (∀ v, f.env.tag = some v → bits v 11 0 = d.rbits (.lhpPctl l) 27 16) ∧ f.env.nextHeader = 17 ∧
  f.env.dstIp = wide (d.reg (.lulSrcip 0)) (d.reg (.lulSrcip 1)) ∧
  (∃ x, x < 64 ∧ d.rbit (.lulPeer (4 * x + 2)) 0 = true ∧
    f.env.srcIp = wide (d.reg (.lulPeer (4 * x))) (d.reg (.lulPeer (4 * x + 1)))) ∧
  f.env.dstPort.toNat = d.rbits .lulUdp 15 0

/-- VER, TYPE, DEV and DSTSITE of a frame are right (R312). -/
def Named (d : Dev) (f : LulFrame) : Prop :=
  f.ver = 1 ∧ 1 ≤ f.typ.toNat ∧ f.typ.toNat ≤ 10 ∧ f.dev.toNat = d.rbits .fabDevid 8 0 ∧
  f.dstSite.toNat = d.rbits .lulCtl 13 8

/-- A frame of type `t` passes R308, R311 and R312 at port `l`: Lular runs, the port is up, the frame is addressed to this
device, its UDP checksum and its Lular CRC check, and its header names this device. -/
def Accepts (d : Dev) (l t : Nat) (f : LulFrame) : Prop :=
  d.rbit (.lhpPstat l) 31 = true ∧ d.rbit .lulCtl 31 = true ∧ f.typ.toNat = t ∧ Addressed d l f ∧ lulChecks f = true ∧ Named d f

/-- No boundary waits for Lular, nothing is replayed, and no long-haul port idles (R327, R334; 15 R403, R409). -/
def Calm (d : Dev) : Prop :=
  (d.chorus.applying = 0 ∨ d.chorus.order ≠ 2) ∧ d.rbit .lulCtl 29 = false ∧ d.pwr.top < 4 ∧ d.rbit .pwrThport 24 = false ∧ d.rbit .pwrThport 25 = false

/-- The header of a frame other than DATA (Table 12.2). -/
def lulFrame (d : Dev) (typ : BitVec 4) (dst round seq nframes : Nat) (payload : List Byte) : LulFrame :=
  { env := {}, rsv := 0, crc := 0, ver := 1, typ := typ, joined := d.lul.joined, reform := false,
    srcSite := BitVec.ofNat 6 (d.rbits .lulCtl 13 8), dstSite := BitVec.ofNat 6 dst,
    dev := BitVec.ofNat 9 (d.rbits .fabDevid 8 0), nshard := BitVec.ofNat 9 (d.rbits .lulShcnt 8 0),
    round := BitVec.ofNat 32 round, seq := BitVec.ofNat 32 seq, nframes := BitVec.ofNat 32 nframes, step := d.reg .chrStep,
    dprop := match d.lul.round with | some r => BitVec.ofNat 16 r.d | none => 0, txtime := d.reg .timNow,
    terr := BitVec.ofNat 32 (if d.rbit .timCtl 0 then d.regN .timTerrsw else d.regN .timTerr),
    since := BitVec.ofNat 32 (min (d.regN .chrStep - d.regN .lulLmstep) (2 ^ 32 - 1)), payload := payload }

/-- DATA frame `seq` of round `r` (Table 12.2). -/
def lulDataFrame (d : Dev) (r : LulRound) (seq : Nat) : LulFrame :=
  { lulFrame d 1 r.partner r.round seq d.lulFrames (d.payloadFrame seq) with
    reform := r.reform, step := BitVec.ofNat 64 r.s, dprop := BitVec.ofNat 16 r.d, since := BitVec.ofNat 32 r.since }

/-- A frame on the line of port `l`: the outer headers of R308 and Table 12.1, and the lengths, the Lular CRC and the UDP
checksum filled in (R311). -/
def onLine (d : Dev) (l : Nat) (f : LulFrame) : LulFrame :=
  sealLul { f with env :=
    { dstMac := BitVec.ofNat 48 (d.rbits (.lhpNhmac l) 47 0), srcMac := BitVec.ofNat 48 (d.rbits (.lhpMac l) 47 0),
      tag := if d.rbit (.lhpPctl l) 1 then some (BitVec.ofNat 16 (d.rbits (.lhpPctl l) 27 16)) else none,
      etherType := 0x86DD, ipVersion := 6, tclass := BitVec.ofNat 8 (d.rbits (.lhpPctl l) 13 8 * 4),
      flow := BitVec.ofNat 20 (f.srcSite.toNat * 64 + f.dstSite.toNat), ipLen := 0, nextHeader := 17, hopLimit := 64,
      srcIp := wide (d.reg (.lulSrcip 0)) (d.reg (.lulSrcip 1)),
      dstIp := wide (d.reg (.lulPeer (4 * f.dstSite.toNat))) (d.reg (.lulPeer (4 * f.dstSite.toNat + 1))),
      srcPort := BitVec.ofNat 16 (d.rbits .lulUdp 31 16), dstPort := BitVec.ofNat 16 (d.rbits .lulUdp 15 0), udpLen := 0,
      udpSum := 0 } }

/-- The frames leave, each on the port that R309 gives; a frame for which no port is up is lost. -/
def lulOuts (d : Dev) (fs : List LulFrame) : List Out :=
  fs.filterMap (fun f => (d.lhpFor f.seq.toNat).map (fun l => .lular l (onLine d l f)))

/-- The payload of a DEC: kind, k, eft, T (Table 12.3). -/
def decisionBytes (kind k eft t : Nat) : List Byte :=
  [BitVec.ofNat 8 kind, BitVec.ofNat 8 k, BitVec.ofNat 8 eft] ++ List.replicate 5 0 ++ toBytes 8 t ++ List.replicate 16 0

/-- The steps from s to T that this side knows of: none before the peer's DATA (R323, R333). -/
def stepsToT (d : Dev) (r : LulRound) : Nat :=
  match r.peer with | none => 0 | some p => min (max r.d p.d) (d.rbits .lulSpan 28 16)

/-- T where this side knows it, else 0. -/
def knownT (d : Dev) (r : LulRound) : Nat :=
  match r.peer with | none => 0 | some p => (if r.reform then max r.s p.s else r.s) + stepsToT d r

/-- The merge log entry of a skipped round (Table 12.5). -/
def skipEntry (d : Dev) (r : LulRound) (cause : Nat) : List Byte :=
  let s := match r.peer with | none => r.s | some p => if r.reform then max r.s p.s else r.s
  toBytes 8 (d.regN .chrStep) ++ toBytes 4 r.round ++ [BitVec.ofNat 8 (r.partner % 64)] ++
  [BitVec.ofNat 8 (2 + (if r.reform then 8 else 0) + (if d.rbits .lulCtl 13 8 < r.partner then 16 else 0))] ++
  [BitVec.ofNat 8 cause, 0] ++ toBytes 8 s ++ toBytes 4 (stepsToT d r) ++ toBytes 2 r.d ++
  toBytes 2 (match r.peer with | none => 0 | some p => p.d)

/-- The round has ended as a SKIP: IDLE, STATUS bit 3, and an entry with its cause in the merge log where its place can be
written (R321, R333). -/
def Skipped (d t : Dev) (r : LulRound) (cause : Nat) : Prop :=
  let a := d.rbits .lulMlbase 47 5 * 32 + d.regN .lulMlwp % 2 ^ d.rbits .lulMlcfg 4 0 * 32
  t.lul.round = none ∧ roundState t = 0 ∧ t.rbit .lulStatus 3 = true ∧ t.reg .lulMlwp = d.reg .lulMlwp + 1 ∧
  (PlainMemory d a 32 → d.memWf = true → t.physBytes a 32 = skipEntry d r cause ∧
    ∀ p, (p < a ∨ a + 32 ≤ p) → t.physBytes p 1 = d.physBytes p 1)

/-- The open round is `r`, the frame's sender is its partner, and the frame names it. -/
def Open (d : Dev) (r : LulRound) (f : LulFrame) : Prop :=
  d.lul.round = some r ∧ r.partner = f.srcSite.toNat ∧ r.round = f.round.toNat

/-- T of R323: s + min(max of both D, S), s the later one in a re-formed round. -/
def targetStep (d : Dev) (r : LulRound) (p : LulPeerSide) : Nat :=
  (if r.reform then max r.s p.s else r.s) + min (max r.d p.d) (d.rbits .lulSpan 28 16)

/-- This device decides a round with a partner: its site is the lower one (R321). -/
def Decider (d : Dev) (r : LulRound) : Prop := d.rbits .lulCtl 13 8 < r.partner

/-- Memory is untouched, and of the registers only counters differ. -/
def Untouched (d t : Dev) : Prop := t.mem = d.mem ∧ RegsBut d t IsCounter

end Sys2Proof.Claim

/-- Frames of the exchange: DATA is filed once, with a NAK at a gap and a RACK when the payload is complete, and a different
layout ends the round; a NAK has its frames sent again; with payload and RACK the decider decides MERGE, or EFT
beyond DMAX; a DEC is answered by DACK and taken; CROAK gives a delay sample and JOINED; BUSY skips the round; a join stream is sent, filed and acknowledged; a bad frame
is counted (R308, R311, R312, R315, R321 to R325, R328 to R332; a SKIP in a DEC is logged as RWIN by log entry 19, the
bytes of a join stream are log entry 20's free value, and the byte order of the outer headers is log entry 58's). -/
def Obligations.LularFramesAct : Prop :=
  ∀ (l : LhpId) (f : LulFrame) (r : LulRound) (s : State), s.dev.memWf = true →
    let d := s.dev
    let me := d.rbits .lulCtl 13 8
    let src := f.srcSite.toNat
    let sq := f.seq.toNat
    let got := fun (x : LulRound) (i : Nat) => mapGet (fun _ => false) x.got i
    let reply := fun (typ : BitVec 4) (nframes : Nat) (payload : List Byte) => lulFrame d typ src f.round.toNat 0 nframes payload
    let num := fun (i k : Nat) => ofBytes ((f.payload.drop i).take k)
    let decides := fun (t : Dev) (kind k eft : Nat) (tgt : Nat) =>
      Sent d t (lulOuts d [lulFrame d 4 r.partner r.round 0 d.lulFrames (decisionBytes kind k eft tgt)]) ∧
      t.lul.decOut = d.lul.decOut.filter (fun y => !(y.1 == r.round && y.2.1 == r.partner)) ++
        [(r.round, r.partner, { kind := kind, k := k, eft := eft, t := tgt })]
    Calm d →
    (Accepts d l 1 f → Open d r f → (roundState d = 1 ∨ roundState d = 2) → f.reform = r.reform → r.reformNext = false →
      (f.nframes.toNat = d.lulFrames → f.nshard.toNat % 512 = d.shardCnt → sq < d.lulFrames → (∀ e ∈ r.got, e.1 ≠ sq) →
        (d.fileFrame sq f.payload).shards = d.shards →
        let p : LulPeerSide := { s := f.step.toNat, d := f.dprop.toNat, since := f.since.toNat }
        let filed := fun (t : Dev) => (∃ x : LulRound, t.lul.round = some x ∧
            x = { r with peer := some p, got := x.got, high := max r.high (sq + 1) } ∧
            ∀ i, got x i = if i = sq then true else got r i) ∧
          t.mem = (d.fileFrame sq f.payload).mem ∧ t.reg .lulTgt = BitVec.ofNat 64 (targetStep d r p) ∧
          t.reg .lulDpair = BitVec.ofNat 64 (f.dprop.toNat * 65536 + r.d)
        let ends := r.got.length + 1 = d.lulFrames
        (sq ≤ r.high → ¬ ends → Runs (.lulData l f) s (fun t => filed t ∧ Sent d t [] ∧ roundState t = roundState d)) ∧
        (r.high < sq → ¬ ends → (∀ i, i < r.high → got r i = true) → (∀ i, r.high ≤ i → got r i = false) →
          Runs (.lulData l f) s (fun t => filed t ∧ roundState t = roundState d ∧
            Sent d t (lulOuts d [reply 2 d.lulFrames (toBytes 4 r.high ++ toBytes 4 (sq - r.high))]))) ∧
        (sq ≤ r.high → ends → (roundState d = 1 ∨ ¬ Decider d r) → Runs (.lulData l f) s (fun t =>
          filed t ∧ Sent d t (lulOuts d [reply 3 d.lulFrames []]) ∧
          roundState t = if roundState d = 1 then 1 else 3)) ∧
        (d.shardCnt = 1 →
          let a := (d.shard 0).rbuf + sq * d.psz
          let n := min (min d.psz f.payload.length) ((d.shard 0).len - sq * d.psz)
          PlainMemory d a n → (d.fileFrame sq f.payload).physBytes a n = f.payload.take n ∧
            ∀ b, (b < a ∨ a + n ≤ b) → (d.fileFrame sq f.payload).physBytes b 1 = d.physBytes b 1)) ∧
      (f.nframes.toNat ≠ d.lulFrames ∨ f.nshard.toNat % 512 ≠ d.shardCnt → Runs (.lulData l f) s (fun t =>
        Skipped d t r 2 ∧ t.rbit .lulStatus 5 = true ∧ (Decider d r → decides t 2 0 0 (knownT d r)) ∧ (¬ Decider d r → Sent d t []))) ∧
      (f.nframes.toNat = d.lulFrames → f.nshard.toNat % 512 = d.shardCnt → got r sq = true → Runs (.lulData l f) s (fun t =>
        t.lul = d.lul ∧ Untouched d t ∧ Sent d t []))) ∧
    (Accepts d l 2 f → Open d r f → (roundState d = 2 ∨ roundState d = 3) → d.lul.joinOut = none →
      f.payload.length % 8 = 0 → Runs (.lulNak l f) s (fun t =>
        let seqs := ((List.range (min 8 (f.payload.length / 8))).flatMap (fun i =>
          (List.range (num (8 * i + 4) 4)).map (fun j => num (8 * i) 4 + j))).filter (fun q => decide (q < d.lulFrames))
        Sent d t (lulOuts d (seqs.map (lulDataFrame d r))) ∧ t.lul = d.lul ∧ Untouched d t)) ∧
    (Accepts d l 3 f → Open d r f → d.lul.joinOut = none →
      (∀ p : LulPeerSide, r.peer = some p → Decider d r → roundState d = 2 → r.got.length = d.lulFrames →
        let delta := max r.since p.since
        let tgt := targetStep d r p
        (delta ≤ d.regN .lulDmax → ∀ k, k < 64 → delta ≤ d.regN .lulDfull * 2 ^ k →
          (∀ j, j < k → d.regN .lulDfull * 2 ^ j < delta) → Runs (.lulRack l f) s (fun t =>
            decides t 1 k 0 tgt ∧ roundState t = 4 ∧ t.reg .lulTgt = BitVec.ofNat 64 tgt ∧ t.mem = d.mem ∧
            t.lul.round = some { r with rack := true, dec := some { kind := 1, k := k, eft := 0, t := tgt } })) ∧
        (d.regN .lulDmax < delta →
          let eft := if r.s < p.s then me else if p.s < r.s then r.partner else max me r.partner
          Runs (.lulRack l f) s (fun t => decides t 4 0 eft tgt ∧ Skipped d t { r with rack := true } 7 ∧
            (eft = me → t.rbit .lulStatus 6 = true ∧ t.lul.joined = false) ∧
            (eft ≠ me → eft < 64 → t.rbit .lulJoined eft = false)))) ∧
      (¬ Decider d r ∨ roundState d ≠ 2 ∨ r.got.length ≠ d.lulFrames → Runs (.lulRack l f) s (fun t =>
        t.lul = { d.lul with round := some { r with rack := true } } ∧ Untouched d t ∧ Sent d t []))) ∧
    (Accepts d l 4 f → 16 ≤ f.payload.length →
      let acked := fun (t : Dev) => Sent d t (lulOuts d [reply 5 d.lulFrames []])
      (d.lul.round = none → Runs (.lulDec l f) s (fun t => acked t ∧ t.lul = d.lul ∧ Untouched d t)) ∧
      (Open d r f → ¬ Decider d r → roundState d ≠ 0 → roundState d ≠ 4 →
        (num 0 1 = 1 → Runs (.lulDec l f) s (fun t => acked t ∧ roundState t = 4 ∧ t.regN .lulTgt = num 8 8 ∧ t.mem = d.mem ∧
          t.lul.round = some { r with dec := some { kind := 1, k := num 1 1, eft := num 2 1, t := num 8 8 } })) ∧
        (num 0 1 = 2 → Runs (.lulDec l f) s (fun t => acked t ∧ Skipped d t r 1)) ∧
        (num 0 1 = 3 → r.reformNext = false → (r.reform = false ∨ roundState d = 5) → Runs (.lulDec l f) s (fun t =>
          acked t ∧ Untouched d t ∧
          t.lul.round = some { r with reformNext := true, peer := none, got := [], high := 0, rack := false, formed := [] })) ∧
        (num 0 1 = 4 → num 2 1 < 64 → Runs (.lulDec l f) s (fun t => acked t ∧ Skipped d t r 7 ∧
          (num 2 1 = me → t.rbit .lulStatus 6 = true ∧ t.lul.joined = false) ∧
          (num 2 1 ≠ me → t.rbit .lulJoined (num 2 1) = false))))) ∧
    (Accepts d l 5 f → Runs (.lulDack l f) s (fun t =>
      t.lul = { d.lul with decOut := d.lul.decOut.filter (fun x => !(x.1 == f.round.toNat && x.2.1 == src)) } ∧
      Untouched d t ∧ Sent d t [])) ∧
    (Accepts d l 6 f → (d.site src).absent = false → Runs (.lulCroak l f) s (fun t =>
      t.site src = { d.site src with
        samples := (((d.regN .timNow : Int) - f.txtime.toNat) :: (d.site src).samples).take (max 1 (d.rbits .lulDwin 7 0)),
        terr := f.terr.toNat, absent := false } ∧
      (∀ x, x ≠ src → t.site x = d.site x) ∧ t.rbit .lulJoined src = (f.joined || d.rbit .lulJoined src) ∧
      t.regN .lulOwd = (t.owdmax (d.rbits .lulRnd 29 24) % 2 ^ 32).toNat ∧ t.mem = d.mem ∧ Sent d t [] ∧
      RegsBut d t (fun a => IsCounter a ∨ a = Reg.lulJoined.addr ∨ a = Reg.lulOwd.addr))) ∧
    (Accepts d l 7 f → (Open d r f → roundState d ≠ 4 → Runs (.lulBusy l f) s (fun t => Skipped d t r 5 ∧ Sent d t [])) ∧
      (d.lul.round = none → Runs (.lulBusy l f) s (fun t =>
        t.site src = { d.site src with busy := some f.round.toNat } ∧ (∀ x, x ≠ src → t.site x = d.site x) ∧
        Untouched d t ∧ Sent d t []))) ∧
    (Accepts d l 8 f → 8 ≤ f.payload.length → Runs (.lulJreq l f) s (fun t =>
      let bs := (List.range d.shardCnt).flatMap (fun i =>
        let sh := d.shard i
        let a := if sh.cur then sh.a1 else sh.a0
        Config.joinStream (d.freeCtr + 2 * i) (d.bytesAt a (2 * sh.nelem)) ++
        Config.joinStream (d.freeCtr + 2 * i + 1) (d.bytesAt (a + 2 * sh.nelem) (sh.nelem / 32)))
      let n := (bs.length + d.psz - 1) / d.psz
      let out := fun (typ : BitVec 4) (seq : Nat) (pl : List Byte) => lulFrame d typ src (num 0 8) seq n pl
      Sent d t (lulOuts d ((List.range n).map (fun i => out 9 i ((bs.drop (i * d.psz)).take d.psz)) ++ [out 10 n []])) ∧
      t.lul = { d.lul with joinOut := some (src, num 0 8, bs) } ∧ Untouched d t)) ∧
    (Accepts d l 9 f → roundState d = 6 → src = d.lul.donor → sq ≤ d.lul.joinHigh → Runs (.lulJdata l f) s (fun t =>
      (sq, f.payload) ∈ t.lul.joinGot ∧ (∀ e ∈ d.lul.joinGot, e.1 ≠ sq → e ∈ t.lul.joinGot) ∧
      t.lul.joinHigh = max d.lul.joinHigh (sq + 1) ∧ Untouched d t ∧ Sent d t [])) ∧
    (Accepts d l 10 f → roundState d = 6 → src = d.lul.donor → d.lul.joinGot.length = f.nframes.toNat →
      Runs (.lulJend l f) s (fun t => Sent d t (lulOuts d [reply 3 d.lulFrames []]) ∧ roundState t = 6 ∧
        t.lul = { d.lul with joinDone := true } ∧ Untouched d t)) ∧
    (d.rbit (.lhpPstat l) 31 = true →
      let crcerr := fun (t : Dev) =>
        t.rbits (.lhpCrcerr l) 31 0 = min (d.rbits (.lhpCrcerr l) 31 0 + 1) (2 ^ 32 - 1) ∧ OnlyRegs d t ∧
        RegsBut d t (fun a => IsCounter a ∨ a = (Reg.lhpCrcerr l).addr)
      let rxdrop := fun (t : Dev) =>
        t.rbits (.lhpRxdrop l) 31 0 = min (d.rbits (.lhpRxdrop l) 31 0 + 1) (2 ^ 32 - 1) ∧ OnlyRegs d t ∧
        RegsBut d t (fun a => IsCounter a ∨ a = (Reg.lhpRxdrop l).addr)
      Runs (.lularFrameDrop l true f) s crcerr ∧
      (¬ Addressed d l f → Runs (.lularFrameDrop l false f) s rxdrop) ∧
      (Addressed d l f → lulChecks f = false → Runs (.lularFrameDrop l false f) s crcerr) ∧
      (Addressed d l f → lulChecks f = true → ¬ Named d f → Runs (.lularFrameDrop l false f) s rxdrop))
namespace Sys2Proof.Claim

/-! ### The rounds of Lular -/

/-- The counters of merge kernels: TOKEN[n] of core `c` has taken one bump, and no other token has. -/
def OneBump (d t : Dev) (c n : Nat) : Prop :=
  t.regN (.token c n) = (d.regN (.token c n) + 1) % 2 ^ 32 ∧
  ∀ (e : CoreId) (m : TokenId), (e.val ≠ c ∨ m.val ≠ n) → t.reg (.token e m) = d.reg (.token e m)

/-- The merge log entry of an applied MERGE (Table 12.5). -/
def mergeEntry (d : Dev) (r : LulRound) (k tgt : Nat) : List Byte :=
  let s := match r.peer with | none => r.s | some p => if r.reform then max r.s p.s else r.s
  toBytes 8 (d.regN .chrStep) ++ toBytes 4 r.round ++ [BitVec.ofNat 8 (r.partner % 64)] ++
  [BitVec.ofNat 8 (1 + (if tgt < d.regN .chrStep then 4 else 0) + (if r.reform then 8 else 0) +
    (if d.rbits .lulCtl 13 8 < r.partner then 16 else 0))] ++
  [0, BitVec.ofNat 8 k] ++ toBytes 8 s ++ toBytes 4 (tgt - s) ++ toBytes 2 r.d ++
  toBytes 2 (match r.peer with | none => 0 | some p => p.d)

/-- D of R322, rounded up, from 1 to 65,535; S while TSTEP reads 0 (R315). -/
def delayOf (d : Dev) (site : Nat) : Nat :=
  let tstep := d.regN .lulTstep
  let twice : Int := 2 * d.owdmax site + d.lulFrames * (if d.rbit (.lhpPctl 0) 0 then 15 else 91) *
    (if d.rbit .lulCtl 30 then 1 else 2) + 2 * (d.timErr + (d.site site).terr + d.regN .lulMargin)
  if tstep = 0 then d.rbits .lulSpan 28 16 else min 65535 (max 1 (-((-twice).fdiv (2 * tstep))).toNat)

end Sys2Proof.Claim

/-- A round's course: kernels report, and with the last one the payload leaves; the decider's window ends it; what is
missing or unanswered is repeated; an absent partner holds the round, and DROP ends it; a joiner asks its donor; croaks go to
every member; a long-haul port goes down and comes up; a due MERGE bumps the merge kernels' tokens and holds order 3, an
undecided round past its bound stalls it; the last merge report commits, logs, and lets the boundary go on; the send boundary
opens the next round (R309, R315, R317 to R322, R324 to R328, R332, R333). -/
def Obligations.LularRoundsRun : Prop :=
  ∀ (path : Path) (l : LhpId) (site : SiteId) (v : W32) (r : LulRound) (s : State), s.dev.memWf = true →
    let d := s.dev
    let me := d.rbits .lulCtl 13 8
    let idx := bits v 7 0
    let rest := fun (t : Dev) => t.lul = d.lul ∧ Untouched d t
    let on := d.rbit .lulCtl 31 = true
    let sh := d.shard 0
    let round := match d.lul.round with | some x => x.round | none => d.rbits .lulRnd 63 32
    (∀ (is : List Nat) (k : Nat) (c : LulDecision) (x : Region), PathReaches d path .lulMdone →
      d.lul.merging = some (is, k) → idx ∈ is →
      d.rbit .lulStatus 26 = false → d.rbit .pwrMode 31 = false →
      let rec0 := d.shard idx
      let byte := d.shardAt idx + 6
      let header := x.base + (1 - x.cur) * (x.pages * 65536)
      let stat := fun (t : Dev) => t.reg (.pregStat rec0.unit rec0.reg)
      d.region rec0.unit rec0.reg = some x → bits (stat d) 15 0 = x.pages → 0 < x.pages → PlainMemory d byte 1 →
      Apart header 64 byte 1 →
      let merged := fun (t : Dev) => bits (stat t) 31 31 = 1 - x.cur ∧ bits (stat t) 15 0 = 0 ∧
        bits (stat t) 63 32 = (bits (stat d) 63 32 + 1) % 2 ^ 32
      let flipped := fun (t : Dev) => ∀ y ∈ (d.physBytes byte 1).head?,
        t.physBytes byte 1 = [BitVec.ofNat 8 ((y.toNat + 128) % 256)]
      (is.filter (· ≠ idx) ≠ [] → Runs (.lulMdone path v) s (fun t => merged t ∧ flipped t ∧
        t.lul = { d.lul with merging := some (is.filter (· ≠ idx), k) } ∧ Sent d t [])) ∧
      (is = [idx] → d.lul.round = some r → r.dec = some c → d.rbit .lulCtl 29 = false → d.rbit .snpRacfg 7 = false →
        let a := d.rbits .lulMlbase 47 5 * 32 + d.regN .lulMlwp % 2 ^ d.rbits .lulMlcfg 4 0 * 32
        PlainMemory d a 32 → Apart a 32 byte 1 → Runs (.lulMdone path v) s (fun t => merged t ∧ flipped t ∧
          t.physBytes a 32 = mergeEntry d r k c.t ∧ t.reg .lulMlwp = d.reg .lulMlwp + 1 ∧ t.lul.round = none ∧
          t.lul.merging = none ∧ roundState t = 0 ∧ t.rbit .lulStatus 2 = true ∧ t.regN .lulLmstep = d.regN .chrStep ∧
          (t.rbit .lulStatus 4 = true ↔ c.t < d.regN .chrStep ∨ d.rbit .lulStatus 4 = true) ∧
          (d.chorus.applying ≠ 0 → d.chorus.order = 2 → d.rbit .snpCtl 31 = false → d.rbit .snpFstep 63 = false →
            t.chorus.order = 5)))) ∧
    (Calm d →
    (on → PathReaches d path .lulFdone → d.lul.round = some r → roundState d = 1 → idx < d.shardCnt → (∀ e ∈ r.formed, e.1 ≠ idx) →
      (r.formed.length + 1 ≠ d.shardCnt → Runs (.lulFdone path v) s (fun t => Untouched d t ∧ Sent d t [] ∧
        ∃ x : LulRound, t.lul = { d.lul with round := some x } ∧ x = { r with formed := x.formed } ∧
          ∀ i, mapGet (fun _ => false) x.formed i = if i = idx then true else mapGet (fun _ => false) r.formed i)) ∧
      (r.formed.length + 1 = d.shardCnt → d.rbit .lulCtl 29 = false → r.peer = none → Runs (.lulFdone path v) s (fun t =>
        roundState t = 2 ∧ t.mem = d.mem ∧ Sent d t (lulOuts d ((List.range d.lulFrames).map (lulDataFrame d r)))))) ∧
    (d.lul.round = some r →
      (roundState d = 2 → Decider d r → r.dec = none → Runs .roundWindowExpire s (fun t => Skipped d t r 1 ∧
        Sent d t (lulOuts d [lulFrame d 4 r.partner r.round 0 d.lulFrames (decisionBytes 2 0 0 (knownT d r))]))) ∧
      (∀ a n, (roundState d = 1 ∨ roundState d = 2) → 0 < n → a + n ≤ r.high →
        (∀ i, i < r.high → (mapGet (fun _ => false) r.got i = false ↔ a ≤ i ∧ i < a + n)) →
        Runs .lulNakRepeat s (fun t => rest t ∧
          Sent d t (lulOuts d [lulFrame d 2 r.partner r.round 0 d.lulFrames (toBytes 4 a ++ toBytes 4 n)]))) ∧
      ((roundState d = 2 ∨ roundState d = 3) → r.rack = false → 0 < d.lulFrames → d.rbit .lulCtl 29 = false →
        d.lul.joinOut = none → Runs .lulLastResend s (fun t => rest t ∧
          Sent d t (lulOuts d [lulDataFrame d r (d.lulFrames - 1)]))) ∧
      (r.peer ≠ none → r.got.length = d.lulFrames → r.reformNext = false → r.dec = none → Runs .lulRackRepeat s (fun t =>
        rest t ∧ Sent d t (lulOuts d [lulFrame d 3 r.partner r.round 0 d.lulFrames []]))) ∧
      (roundState d = 5 → r.partner < 64 → PathReaches d path .lulCmd → Runs (.lulDrop path v) s (fun t =>
        Skipped d t r 6 ∧ t.rbit .lulJoined r.partner = false ∧ Sent d t []))) ∧
    Runs .lulDecRepeat s (fun t => rest t ∧ Sent d t (lulOuts d (d.lul.decOut.map (fun x =>
      lulFrame d 4 x.2.1 x.1 0 d.lulFrames (decisionBytes x.2.2.kind x.2.2.k x.2.2.eft x.2.2.t))))) ∧
    (on → PathReaches d path .lulCmd → d.rbit .lulCtl 28 = true → roundState d = 0 → Runs (.lulJoin path v) s (fun t =>
      roundState t = 6 ∧ t.lul = { d.lul with donor := bits v 29 24, joinGot := [], joinHigh := 0, joinDone := false } ∧ t.mem = d.mem ∧
      Sent d t (lulOuts d [lulFrame d 8 (bits v 29 24) round 0 d.lulFrames (toBytes 8 round)]))) ∧
    (on → Runs .lulCroakSend s (fun t => rest t ∧
      Sent d t (lulOuts d (((List.range 64).filter (fun x =>
        d.rbit .lulMemb x && x != me && d.rbit (.lulPeer (4 * x + 2)) 0)).map (fun x => lulFrame d 6 x round 0 d.lulFrames []))))) ∧
    (on → d.rbit .lulMemb site = true → (d.site site).absent = false → site.val ≠ me → Runs (.lulAbsence site) s (fun t =>
      (t.site site).absent = true ∧ t.rbit .lulStatus 1 = true ∧ t.mem = d.mem ∧ Sent d t [] ∧
      (∀ x : LulRound, d.lul.round = some x → roundState t =
        if x.partner = site.val ∧ 1 ≤ roundState d ∧ roundState d ≤ 3 then 5 else roundState d))) ∧
    (d.rbit (.lhpPstat l) 31 = true → Runs (.lhpLinkDown l) s (fun t =>
      t.rbit (.lhpPstat l) 31 = false ∧ t.rbit (.lhpPstat l) 0 = true ∧ Reports d t 0x0501 (10 * 2 ^ 28 + l.val) 0 ∧
      RegsBut d t (fun a => IsCounter a ∨ IsLog a ∨ a = (Reg.lhpPstat l).addr))) ∧
    (d.rbit (.lhpPctl l) 31 = true → d.rbit (.lhpPstat l) 31 = false → d.rbits .pwrStatus 31 29 ≠ 6 →
      Runs (.lhpLinkUp l) s (fun t => t.rbit (.lhpPstat l) 31 = true ∧ t.lulHeld = [] ∧ t.mem = d.mem ∧
        (d.lulHeld = [] → Sent d t []) ∧
        (∀ x f y, d.lulHeld = [(x, f)] → t.lhpFor f.seq.toNat = some y →
          Sent d t [.lular y (onLine d y { f with txtime := d.reg .timNow })]))) ∧
    (∀ dec causes : Nat, d.chorus.decision = some (dec, causes) → (dec = 1 ∨ dec = 2) → d.chorus.applying = 0 → on →
      d.rbit .lulCtl 29 = false → d.lul.round = some r → d.regN .chrStep + 1 < 2 ^ 64 →
      (∀ u n x, u < 72 → n < 32 → d.region u n = some x → d.rbits (.pregStat u n) 15 0 ≠ x.pages) →
      (∀ c : LulDecision, roundState d = 4 → r.dec = some c → c.t ≤ d.regN .chrStep + 1 → d.shardCnt = 1 →
        d.isAtok sh.core sh.mtok = false → Runs .decisionApply s (fun t =>
          t.regN .lulMshift = (c.k + 1) % 32 ∧ OneBump d t sh.core sh.mtok ∧ t.lul.merging = some ([0], c.k) ∧
          t.lul.round = some r ∧ t.chorus.order = 2 ∧ t.rbit .chrStatus 0 = true ∧ t.rbit .lulStatus 26 = false)) ∧
      (1 ≤ roundState d → roundState d ≤ 3 → r.reformNext = false → r.s + d.rbits .lulSpan 28 16 ≤ d.regN .chrStep + 1 →
        Runs .decisionApply s (fun t => t.rbit .lulStatus 26 = true ∧ t.chorus.order = 2 ∧ t.lul.round = some r ∧
          ∀ (c : CoreId) (n : TokenId), t.reg (.token c n) = d.reg (.token c n)))) ∧
    (∀ n : Nat, d.chorus.applying ≠ 0 → d.chorus.order = 5 → d.chorus.stopAsked = 0 → d.rbit .pwrStatus 28 = false →
      d.flt.withheld = false → on → d.rbit .lulCtl 28 = false → d.lul.joined = true → d.lul.round = none →
      roundState d = 0 → n < 2 ^ 32 → 0 < d.rbits .lulSpan 12 0 →
      d.regN .chrStep = d.regN .lulBase + (n + 1) * d.rbits .lulSpan 12 0 → d.isMember me = true →
      d.rbits .chrCfg 31 24 ≠ d.rbits .chrCfg 23 16 →
      (d.partnerOf n = some none → Runs .boundaryFinish s (fun t =>
        t.lul.round = none ∧ roundState t = 0 ∧ t.regN .lulRnd = n * 2 ^ 32 + 2 ^ 31 ∧ t.rbit .lulStatus 3 = true ∧
        t.reg .lulMlwp = d.reg .lulMlwp + 1 ∧ Sent d t [])) ∧
      (∀ p, d.partnerOf n = some (some p) → p < 64 →
        (d.rbit .lulJoined p = false → Runs .boundaryFinish s (fun t =>
          t.lul.round = none ∧ roundState t = 0 ∧ t.reg .lulMlwp = d.reg .lulMlwp + 1 ∧ Sent d t [])) ∧
        (d.rbit .lulJoined p = true → (d.site p).busy = some n → Runs .boundaryFinish s (fun t =>
          t.lul.round = none ∧ roundState t = 0 ∧ t.reg .lulMlwp = d.reg .lulMlwp + 1 ∧ Sent d t [])) ∧
        (d.rbit .lulJoined p = true → (d.site p).busy ≠ some n → (d.site p).absent = true → Runs .boundaryFinish s (fun t =>
          (∃ x : LulRound, t.lul.round = some x ∧ x.round = n ∧ x.partner = p) ∧ roundState t = 5 ∧ Sent d t [])) ∧
        (d.rbit .lulJoined p = true → (d.site p).busy ≠ some n → (d.site p).absent = false → d.shardCnt = 1 → d.isAtok sh.core sh.ftok = false →
          sh.ftok ≠ d.rbits .chrCfg 31 24 → Runs .boundaryFinish s (fun t =>
            t.lul.round = some { round := n, partner := p, s := d.regN .chrStep, d := delayOf t p,
                                 since := min (d.regN .chrStep - d.regN .lulLmstep) (2 ^ 32 - 1) } ∧
            roundState t = 1 ∧ t.regN .lulRnd = n * 2 ^ 32 + p * 2 ^ 24 ∧ t.rbit .chrStatus 0 = false ∧
            t.regN (.token sh.core sh.ftok) = (d.regN (.token sh.core sh.ftok) + 1) % 2 ^ 32 ∧ Sent d t [])))))

/-- Partners (R320): the members are the sites of LUL_MEMB in ascending order; the partner of member i in round r, by the formula
of the rule, is a bye where it is an index that does not exist; the partner's partner is the member, no member is its own
partner, and over m rounds every pair of members meets exactly once. -/
def Obligations.EveryPairMeetsOnce : Prop :=
  (∀ (d : Dev) (r : Nat) (sites : List Nat), sites.Pairwise (· < ·) → (∀ a, a ∈ sites ↔ a < 64 ∧ d.rbit .lulMemb a = true) →
    (d.mySite ∉ sites → d.partnerOf r = none) ∧
    ∀ i (h : i < sites.length), sites[i] = d.mySite →
      (∀ p (hp : p < sites.length), p = partnerIndex sites.length i r → d.partnerOf r = some (some sites[p])) ∧
      (sites.length ≤ partnerIndex sites.length i r → d.partnerOf r = some none)) ∧
  ∀ n i : Nat, 2 ≤ n → i < n →
    let m := (if n % 2 = 0 then n else n + 1) - 1
    (∀ r,
      let k := r % m
      let j := ((2 * (k : Int) - (i : Int)) % (m : Int)).toNat
      (i < m → partnerIndex n i r = if j ≠ i then j else m) ∧ (i = m → partnerIndex n i r = k)) ∧
    (∀ r, partnerIndex n i r ≠ i ∧ partnerIndex n i r ≤ m ∧
      (partnerIndex n i r < n → partnerIndex n (partnerIndex n i r) r = i)) ∧
    ∀ j, j < n → j ≠ i → ∃ k, k < m ∧ partnerIndex n i k = j ∧ ∀ k', k' < m → partnerIndex n i k' = j → k' = k
namespace Sys2Proof.Claim

/-! ### Time -/

/-- Nothing differs but the time unit and its registers; messages to the host apart. -/
def TimeOnly (d t : Dev) : Prop :=
  t = { d with regs := t.regs, tim := t.tim, outbox := t.outbox, msixPend := t.msixPend, traceQ := t.traceQ } ∧
  RegsBut d t (fun a => IsCounter a ∨ a = Reg.timStatus.addr ∨ a = Reg.timNow.addr ∨ a = Reg.timTerr.addr ∨ a = Reg.timHoldt.addr)

/-- TIM is LOCKED on an edge labelled `u`, converted with LEAP, and its error is 100 ns. -/
def LockedOn (d t : Dev) (u : Nat) : Prop :=
  t.rbits .timStatus 31 30 = 1 ∧ t.rbits .timStatus 2 0 = d.rbits .timStatus 2 0 ∧
  t.regN .timNow = (u + d.rbits .timCtl 23 16) * 1000000000 % 2 ^ 64 ∧ t.regN .timTerr = 100 ∧ t.regN .timHoldt = 0 ∧
  t.tim.holdNs = 0

/-- TIM has lost its lock: HOLDOVER begins, with LOCKLOST and the bit of its cause. -/
def LostLock (d t : Dev) (cause : Nat) : Prop :=
  t.rbits .timStatus 31 30 = 2 ∧ t.rbit .timStatus 0 = true ∧ t.rbit .timStatus cause = true ∧ t.regN .timTerr = 100 ∧
  t.regN .timHoldt = 0 ∧ t.tim.holdNs = 0 ∧ t.reg .timNow = d.reg .timNow

/-- The time registers are as before. -/
def TimeStands (d t : Dev) : Prop :=
  t.reg .timStatus = d.reg .timStatus ∧ t.reg .timNow = d.reg .timNow ∧ t.reg .timTerr = d.reg .timTerr ∧
  t.reg .timHoldt = d.reg .timHoldt

end Sys2Proof.Claim

/-- The time unit: a sentence labels the next edge; edges with agreeing labels lock TIM on their label, a disagreeing
label or 1.1 s without an edge ends LOCKED in HOLDOVER, whose error grows with the time that passes; with SRC = 1 only
TIM_ADJ moves TIM. PTP messages enter the RX ring with their stamp, or are dropped on a full ring; the next entry of the TX
ring leaves on its port, stamped, or completes unsent (R313, R314, R447; what agreeing labels are, and which status bit
names a cause, is log entry 28's reading). -/
def Obligations.TimeAndStamps : Prop :=
  ∀ (gap : W32) (utc v : W64) (valid : Bool) (path : Path) (l : LhpId) (msg : List Byte) (s : State),
    s.dev.memWf = true →
    let d := s.dev
    let labelled := 100 ≤ gap.toNat ∧ gap.toNat ≤ 900
    let mode := d.rbits .timStatus 31 30
    (d.rbit .timCtl 0 = false →
      (∀ u, labelled → d.tim.label = some u → (d.tim.last = none ∨ ∃ w, d.tim.last = some w ∧ w + 1 = u) →
        Runs (.ppsEdge gap) s (fun t => TimeOnly d t ∧ t.tim.label = none ∧ t.tim.last = some u ∧
          t.tim.agree = min (d.tim.agree + 1) 3 ∧ (mode = 1 ∨ 2 ≤ d.tim.agree → LockedOn d t u) ∧
          (mode ≠ 1 → d.tim.agree < 2 → TimeStands d t))) ∧
      (∀ u w, labelled → d.tim.label = some u → d.tim.last = some w → w + 1 ≠ u →
        Runs (.ppsEdge gap) s (fun t => TimeOnly d t ∧ t.tim.label = none ∧ t.tim.last = some u ∧ t.tim.agree = 1 ∧
          (mode = 1 → LostLock d t 2) ∧ (mode ≠ 1 → TimeStands d t))) ∧
      ((¬ labelled ∨ d.tim.label = none) → Runs (.ppsEdge gap) s (fun t => TimeOnly d t ∧ TimeStands d t ∧
          t.tim.label = none ∧ (mode = 1 → t.tim.last = d.tim.last.map (· + 1) ∧ t.tim.agree = d.tim.agree) ∧
          (mode ≠ 1 → t.tim.last = none ∧ t.tim.agree = 0))) ∧
      Runs (.todSentence utc valid) s (fun t => TimeOnly d t ∧
        (valid = true → t.tim = { d.tim with label := some utc.toNat } ∧ TimeStands d t) ∧
        (valid = false → t.tim = d.tim ∧ t.rbit .timStatus 2 = true ∧ t.rbits .timStatus 31 30 = mode ∧
          t.rbits .timStatus 1 0 = d.rbits .timStatus 1 0 ∧ t.reg .timNow = d.reg .timNow)) ∧
      Runs .ppsTimeout s (fun t => TimeOnly d t ∧ t.tim.last = none ∧ t.tim.agree = 0 ∧ t.tim.label = d.tim.label ∧
        (mode = 1 → LostLock d t 1) ∧
        (mode ≠ 1 → t.rbit .timStatus 1 = true ∧ t.rbits .timStatus 31 30 = mode ∧ t.reg .timNow = d.reg .timNow ∧
          t.reg .timTerr = d.reg .timTerr ∧ t.reg .timHoldt = d.reg .timHoldt)) ∧
      (PathReaches d path .timAdj → Runs (.timAdjWrite path v) s (fun t => TimeOnly d t ∧ TimeStands d t ∧ t.tim = d.tim))) ∧
    (d.rbit .timCtl 0 = true →
      (∀ i ∈ [Instr.ppsEdge gap, .todSentence utc valid, .ppsTimeout], Runs i s (fun t =>
        TimeOnly d t ∧ TimeStands d t ∧ t.tim = d.tim)) ∧
      (PathReaches d path .timAdj → Runs (.timAdjWrite path v) s (fun t => TimeOnly d t ∧ t.tim = d.tim ∧ t.reg .timNow = d.reg .timNow + v ∧
        t.reg .timStatus = d.reg .timStatus ∧ t.reg .timTerr = d.reg .timTerr ∧ t.reg .timHoldt = d.reg .timHoldt))) ∧
    (mode = 2 → d.flt.subs = [] → d.heldBumps = [] →
      (d.rbit .fltStatus 0 = false ∨ d.rbits .fltStatus 19 16 ≠ 1 ∨ d.rbits .fltDvsel 7 0 = 0xFF) → ∃ t, step { s with pending := [] } = .next t ∧
      let ns := d.tim.holdNs + Config.elapsed d.freeCtr
      t.dev.tim.holdNs = ns ∧ t.dev.regN .timHoldt = ns / 1000000000 % 2 ^ 32 ∧
      t.dev.regN .timTerr = min (100 + (ns + 3599999999) / 3600000000) (2 ^ 32 - 1)) ∧
    (d.lhpUp l = true → d.rbit .hstTscfg 31 = true → msg.length ≤ 240 → 4 ≤ d.rbits .hstTscfg 3 0 →
      d.rbits .hstTscfg 3 0 ≤ 12 →
      let n := 2 ^ d.rbits .hstTscfg 3 0
      let wp := d.rbits .hstTsrxwp 15 0
      let fill := (wp + 65536 - d.rbits .hstTsrxrp 15 0) % 65536
      let a := d.rbits .hstTsrxbase 47 8 * 256 + wp % n * 256
      (n ≤ fill → Runs (.ptpRx l msg) s (fun t => t.rbit .hstTsstat 0 = true ∧
        t.rbits (.lhpRxdrop l) 31 0 = min (d.rbits (.lhpRxdrop l) 31 0 + 1) (2 ^ 32 - 1) ∧ OnlyRegs d t ∧
        RegsBut d t (fun b => IsCounter b ∨ b = (Reg.lhpRxdrop l).addr ∨ b = Reg.hstTsstat.addr))) ∧
      (fill < n → PlainMemory d a 256 → Runs (.ptpRx l msg) s (fun t =>
        t.physBytes a 256 = toBytes 8 (d.regN .timNow) ++ [BitVec.ofNat 8 l.val, 2] ++ toBytes 2 msg.length ++ toBytes 4 0 ++
          msg ++ toBytes (240 - msg.length) 0 ∧
        (∀ b, (b < a ∨ a + 256 ≤ b) → t.physBytes b 1 = d.physBytes b 1) ∧ t.regN .hstTsrxwp = (wp + 1) % 65536 ∧
        Sent d t [] ∧ RegsBut d t (fun b => IsCounter b ∨ b = Reg.hstTsrxwp.addr)))) ∧
    (d.rbit .hstTscfg 31 = true → 4 ≤ d.rbits .hstTscfg 11 8 → d.rbits .hstTscfg 11 8 ≤ 12 →
      let rp := d.rbits .hstTstxrp 15 0
      let a := d.rbits .hstTstxbase 47 8 * 256 + rp % 2 ^ d.rbits .hstTscfg 11 8 * 256
      let e := d.physBytes a 256
      let port := field e 8 1 % 2
      let n := field e 10 2
      rp ≠ d.rbits .hstTstxwp 15 0 → PlainMemory d a 256 →
      (d.lhpUp port = true → 60 ≤ n → n ≤ 240 → Runs .tsTxSend s (fun t =>
        Sent d t [.ptp port ((e.drop 16).take n)] ∧ t.physBytes a 8 = toBytes 8 (d.regN .timNow) ∧
        t.physBytes (a + 9) 1 = [3] ∧ (∀ b, (b < a ∨ a + 8 ≤ b) → b ≠ a + 9 → t.physBytes b 1 = d.physBytes b 1) ∧
        t.regN .hstTstxrp = (rp + 1) % 65536 ∧ RegsBut d t (fun b => IsCounter b ∨ b = Reg.hstTstxrp.addr))) ∧
      ((d.lhpUp port = false ∨ n < 60 ∨ 240 < n) → Runs .tsTxSend s (fun t =>
        Sent d t [] ∧ t.physBytes (a + 9) 1 = [1] ∧ (∀ b, b ≠ a + 9 → t.physBytes b 1 = d.physBytes b 1) ∧
        t.regN .hstTstxrp = (rp + 1) % 65536 ∧ RegsBut d t (fun b => IsCounter b ∨ b = Reg.hstTstxrp.addr))))
namespace Sys2Proof.Claim

/-! ### Clutches -/

/-- Entry `i` of the lock table is the lowest free one, and no held entry conflicts with activity `a` on scope `u`
(R387 to R389). -/
def Grants (d : Dev) (a u i : Nat) : Prop :=
  i < 16 ∧ d.rbit (.fltLock i) 63 = false ∧ (∀ j, j < i → d.rbit (.fltLock j) 63 = true) ∧
  ∀ j, j < 16 → d.rbit (.fltLock j) 63 = true → conflicts a u (d.rbits (.fltLock j) 59 56) (d.rbits (.fltLock j) 31 0) = false

/-- Entry `i` of the lock table is held for an activity on a scope, by the owner that an access path stands for, or by the
device itself. -/
def Holds (t : Dev) (i a u : Nat) (by' : Option Path) : Prop :=
  t.rbit (.fltLock i) 63 = true ∧ t.rbits (.fltLock i) 59 56 = a ∧ t.rbits (.fltLock i) 31 0 = u ∧
  t.rbits (.fltLock i) 55 52 = match by' with
    | none => 0
    | some .host | some (.bdp _) => 1
    | some .smbus | some .jtag | some .mgc => 2
    | some (.ctx _ _) => 3

/-- The bytes of page `pg` of physical memory. -/
def pageBytes (d : Dev) (pg : Nat) : List Byte := d.physBytes (pg * 65536) 65536

/-- The copy of an uncopied page and its leaf have places of their own, and the page reads without error. -/
def CopyReady (d : Dev) (pg : Nat) (q : ProtPage) : Prop :=
  let dst := d.physOf q.dest
  let leaf := d.physOf (d.regN (.slotDbase q.slot) + 8 * q.leaf)
  q.twin = false ∧ q.slot < 2 ∧ d.regN (.slotDbase q.slot) % 8 = 0 ∧ d.physBad (pg * 65536) 65536 = false ∧ Apart dst 65536 (pg * 65536) 65536 ∧
  Apart leaf 8 (pg * 65536) 65536 ∧ Apart leaf 8 dst 65536

/-- Page `pg` has been copied as it stood: its copy, its leaf, LEFT, and its protection (R343, R344, R354). -/
def Copied (d t : Dev) (pg : Nat) (q : ProtPage) : Prop :=
  t.physBytes (d.physOf q.dest) 65536 = pageBytes d pg ∧
  t.physBytes (d.physOf (d.regN (.slotDbase q.slot) + 8 * q.leaf)) 8 = toBytes 8 (leafOf q.area q.page (pageBytes d pg)).toNat ∧
  mapGet (fun _ => none) t.prot pg = none ∧ ∀ p, p ≠ pg → mapGet (fun _ => none) t.prot p = mapGet (fun _ => none) d.prot p

/-- A remote read of `n` bytes at `a` leaves for device `dev` on the link of port `r` (R273). -/
def AsksTwin (d t : Dev) (r dev a n : Nat) : Prop :=
  ∃ x : Nat, Leaves d t r { ownFrame d 2 2 dev x n [] with addr := BitVec.ofNat 48 a }

/-- STATE of a clutch slot (Table 13.2). -/
def slotOf (d : Dev) (k : Nat) : Nat := d.rbits (.slotState k) 2 0

end Sys2Proof.Claim

/-- Taking a clutch: a due one starts once no slot is running, in the slot of R339, with the next sequence number, every page
of every area protected, and the boundary goes on; a malformed area makes it BAD; each region unit copies its lowest page,
and a write to an uncopied page copies it first; the last copy makes the slot COMPARING in Mirror mode and else GOOD, and the
slot that was GOOD EMPTY; the twin's PULLSEQ counts its pages, of which none that the twin has not read whole is left without a
leaf (R337, R339, R341 to R345, R352, R354). -/
def Obligations.ClutchesAreTaken : Prop :=
  ∀ (pg : W64) (v : W64) (s : State), s.dev.memWf = true →
    let d := s.dev
    let as := d.areas
    let total := (as.map Area.pages).sum
    let k := if slotOf d 0 = 3 then 1 else if slotOf d 1 = 3 then 0 else if slotOf d 0 = 0 then 0 else if slotOf d 1 = 0 then 1 else 0
    let rcd := d.rbits (.slotRbase k) 47 16 * 65536
    (d.snp.due = true → (∀ j, j < 2 → slotOf d j ≠ 1 ∧ slotOf d j ≠ 2) → d.prot = [] → d.rbit .pwrMode 31 = false →
      d.chorus.order ≠ 2 → ∀ i, Grants d 8 0 i →
      let started := fun (t : Dev) => t.reg .snpLast = d.reg .chrStep ∧ t.reg (.slotStep k) = d.reg .chrStep ∧
        t.reg (.slotClseq k) = d.snp.clseq + 1 ∧ t.snp.clseq = d.snp.clseq + 1 ∧ t.snp.due = false ∧ slotOf t (1 - k) = slotOf d (1 - k) ∧
        (d.chorus.applying ≠ 0 → d.chorus.order = 3 → t.chorus.order = 5)
      (as.any (d.areaBad as) = false → 0 < total → total < 2 ^ 32 → Runs .clutchStart s (fun t =>
        started t ∧ t.regN (.slotState k) = 1 ∧ t.regN (.slotLeft k) = total ∧ Holds t i 8 0 none ∧
        (∀ e ∈ pagesFrom as 0, mapGet (fun _ => none) t.prot (e.1.base / 65536 + e.2.1) =
          some { slot := k, area := e.1.idx, page := e.2.1, leaf := e.2.2, dest := e.1.dst k + e.2.1 * 65536, twin := e.1.twin }) ∧
        (PlainMemory d rcd 0x1510000 → t.physBytes (rcd + 8) 16 = toBytes 8 (d.regN .chrStep) ++ toBytes 8 (d.snp.clseq + 1).toNat))) ∧
      (as.any (d.areaBad as) = true → Runs .clutchStart s (fun t =>
        started t ∧ t.regN (.slotState k) = 0x304 ∧ t.rbit .snpStatus 8 = true ∧ t.prot = [] ∧ t.reg (.fltLock i) = 0))) ∧
    (∀ (q : ProtPage) (u : Nat), d.heldBumps = [] → mapGet (fun _ => none) d.prot pg.toNat = some q → CopyReady d pg.toNat q →
      unitOf (pg.toNat * 65536) = some u → slotOf d q.slot = 1 → slotOf d (1 - q.slot) ≠ 1 →
      (∀ e ∈ d.prot, ∀ x, e.2 = some x → x.twin = false → unitOf (e.1 * 65536) = some u → (e.1 = pg.toNat ∧ x = q) ∨ q.leaf < x.leaf) →
      (2 ≤ d.regN (.slotLeft q.slot) → Runs (.clutchPageCopy pg) s (fun t =>
        Copied d t pg.toNat q ∧ t.regN (.slotLeft q.slot) = d.regN (.slotLeft q.slot) - 1 ∧ slotOf t q.slot = 1 ∧
        RegsBut d t (fun a => IsCounter a ∨ a = (Reg.slotLeft q.slot).addr ∨
          ∃ (x : Fin 72) (n : Fin 32), a = (Reg.pregStat x n).addr))) ∧
      (d.regN (.slotLeft q.slot) = 1 → d.prot = [(pg.toNat, some q)] → Runs (.clutchPageCopy pg) s (fun t =>
        t.prot = [] ∧ t.regN (.slotLeft q.slot) = 0 ∧
        (d.rbits .snpCtl 5 4 = 1 → t.regN (.slotState q.slot) = 2 ∧ slotOf t (1 - q.slot) = slotOf d (1 - q.slot)) ∧
        (d.rbits .snpCtl 5 4 ≠ 1 → t.regN (.slotState q.slot) = 3 ∧ t.rbit .snpStatus 4 = true ∧
          slotOf t (1 - q.slot) = (if slotOf d (1 - q.slot) = 3 then 0 else slotOf d (1 - q.slot)) ∧
          ∀ i, i < 16 → d.snp.lock = some i → t.reg (.fltLock i) = 0)))) ∧
    (∀ (p : Nat) (bs : List Byte) (q : ProtPage), bs ≠ [] → p / 65536 = (p + bs.length - 1) / 65536 → d.regionAt p = none →
      mapGet (fun _ => none) d.prot (p / 65536) = some q → CopyReady d (p / 65536) q →
      Copied d (d.writeAt p bs) (p / 65536) q ∧ (d.writeAt p bs).physBytes p bs.length = bs ∧
      (d.writeAt p bs).regN (.slotLeft q.slot) = d.regN (.slotLeft q.slot) - 1) ∧
    (∀ j : Fin 2, slotOf d j = 1 → slotOf d (1 - j.val) ≠ 1 → d.reg (.slotClseq j) = v → 0 < d.snp.twinLeft →
      d.waitingWrites = [] → d.heldBumps = [] →
      (d.snp.twinLeft < d.regN (.slotLeft j) → Runs (.pullseqPoll v) s (fun t =>
        t.regN (.slotLeft j) = d.regN (.slotLeft j) - d.snp.twinLeft ∧ t.snp.twinLeft = 0 ∧ slotOf t j = 1 ∧ t.snp.sawPull = v ∧
        (∀ e, e ∈ t.prot ↔ e ∈ d.prot ∧ ∀ x, e.2 = some x → x.twin = false) ∧
        (∀ e ∈ t.spills, ∀ x, e.2 = some x → x.slot ≠ j.val) ∧
        ((∀ e ∈ d.prot, ∀ x, e.2 = some x → x.twin = true → 65536 ≤ x.got) → d.spills = [] →
          t.mem = d.mem ∧ RegsBut d t (fun a => a = (Reg.slotLeft j.val).addr)) ∧
        (∀ q : ProtPage, d.prot = [(pg.toNat, some q)] → q.twin = true → q.got < 65536 → q.slot < 2 →
          d.regN (.slotDbase q.slot) % 8 = 0 →
          t.physBytes (d.physOf (d.regN (.slotDbase q.slot) + 8 * q.leaf)) 8 =
            toBytes 8 (leafOf q.area q.page (pageBytes d pg.toNat)).toNat))) ∧
      (d.snp.twinLeft = d.regN (.slotLeft j) → (∀ e ∈ d.prot, ∃ x, e.2 = some x ∧ x.twin = true) → d.rbits .snpCtl 5 4 = 2 →
        Runs (.pullseqPoll v) s (fun t => t.prot = [] ∧ t.regN (.slotLeft j) = 0 ∧ t.regN (.slotState j) = 3 ∧
          t.rbit .snpStatus 4 = true ∧ slotOf t (1 - j.val) = if slotOf d (1 - j.val) = 3 then 0 else slotOf d (1 - j.val))))

/-- What becomes of a clutch: the twin is asked for its pages, or for its root, and equal roots make the slot GOOD; COMPARE
asks the twin without changing a slot; DISCARD frees a BAD or MISMATCH slot; a RESTORE from local copies writes back pages,
step, tokens and contexts, which it leaves HALTED, and says whether the result verifies; ESTEV counts an event (R339, R345,
R348, R355, R358 to R361, R389). -/
def Obligations.ClutchesServe : Prop :=
  ∀ (path : Path) (k : Fin 2) (slots : List Byte) (v : W32) (s : State), s.dev.memWf = true →
    let d := s.dev
    let slot := bits v 4 4
    let rejected := fun (t : Dev) => t.rbit .snpStatus 6 = true ∧ OnlyRegs d t ∧
      RegsBut d t (fun a => IsCounter a ∨ a = Reg.snpStatus.addr ∨ a = Reg.fltBusyrec.addr)
    let way := PathReaches d path .snpCmd
    (∀ n r, d.twinDev = some n → d.route n = some r → CanLeave d r (ownFrame d 2 2 n 0 512 []) → n < 512 →
      (d.rbits .snpCtl 5 4 = 2 → (slotOf d k = 1 ∨ slotOf d k = 3) → d.job 0 = none →
        d.reg .snpPullseq ≠ d.reg (.slotClseq k) → Runs (.twinPull k) s (fun t =>
          AsksTwin d t r n 0xFF00300000 512 ∧ (∃ j, t.job 0 = some j ∧ j.kind = 0 ∧ j.slot = k.val ∧ j.stage = 0) ∧
          t.mem = d.mem ∧ RegsBut d t (SendRegs d r))) ∧
      (slotOf d 0 = 3 ∨ slotOf d 1 = 3 → d.job 2 = none → way → ∀ i, Grants d 10 0 i → Runs (.snpCompare path v) s (fun t =>
        AsksTwin d t r n 0xFF00300000 512 ∧ Holds t i 10 0 (some path) ∧ slotOf t 0 = slotOf d 0 ∧ slotOf t 1 = slotOf d 1 ∧
        (∃ j, t.job 2 = some j ∧ j.kind = 2 ∧ j.lock = some i ∧ j.stage = 0 ∧
          j.slot = if slotOf d 0 = 3 then 0 else 1) ∧
        t.mem = d.mem ∧ RegsBut d t (fun a => SendRegs d r a ∨ a = (Reg.fltLock i).addr))) ∧
      (∀ x : Fin 2, slotOf d k = 2 → slotOf d (1 - k.val) ≠ 2 → d.job 1 = none → slots.length = 256 →
        field slots (x.val * 128 + 32) 8 = d.regN (.slotClseq k) → field slots ((1 - x.val) * 128 + 32) 8 ≠ d.regN (.slotClseq k) →
        field slots (x.val * 128 + 48) 4 % 8 ∈ [2, 3, 5] →
        (field slots (x.val * 128 + 40) 8 = d.regN (.slotRoot k) → Runs (.twinComparePoll slots) s (fun t =>
          t.regN (.slotState k) = 3 ∧ t.rbit .snpStatus 4 = true ∧ t.mem = d.mem ∧ Sent d t [] ∧
          slotOf t (1 - k.val) = if slotOf d (1 - k.val) = 3 then 0 else slotOf d (1 - k.val))) ∧
        (field slots (x.val * 128 + 40) 8 ≠ d.regN (.slotRoot k) → Runs (.twinComparePoll slots) s (fun t =>
          AsksTwin d t r n (field slots (x.val * 128) 8 / 65536 * 65536) 64 ∧ slotOf t k = 2 ∧
          (∃ j, t.job 1 = some j ∧ j.kind = 1 ∧ j.slot = k.val ∧ j.stage = 1) ∧ t.mem = d.mem ∧ RegsBut d t (SendRegs d r))))) ∧
    (way → (slotOf d 0 ≠ 3 ∧ slotOf d 1 ≠ 3) ∨ d.twinDev = none ∨ d.job 2 ≠ none → Runs (.snpCompare path v) s rejected) ∧
    (way → (slotOf d slot = 4 ∨ slotOf d slot = 5) → Runs (.snpDiscard path v) s (fun t =>
      t.reg (.slotState slot) = 0 ∧ OnlyRegs d t ∧ RegsBut d t (fun a => IsCounter a ∨ a = (Reg.slotState slot).addr))) ∧
    (way → slotOf d slot ≠ 4 → slotOf d slot ≠ 5 → Runs (.snpDiscard path v) s rejected) ∧
    (let may := d.rbit .chrCfg 0 = false ∧ (∀ c : CoreId, d.rbit (.seqCtl c) 0 = false) ∧
      ∀ j, j < 2 → slotOf d j ≠ 1 ∧ slotOf d j ≠ 2
     (way → bit v 8 = false → (¬ may ∨ slotOf d slot ≠ 3 ∨ d.job 3 ≠ none) → Runs (.snpRestore path v) s rejected) ∧
     (way → bit v 8 = false → may → slotOf d slot = 3 → d.job 3 = none → d.rbits .snpCtl 5 4 ≠ 1 → ∀ i, Grants d 9 0 i →
      mapGet (fun _ => false) d.flt.swHeld i = false →
      let rcd := d.bytesAt (d.rbits (.slotRbase slot) 47 16 * 65536) 0x1510000
      let ps := pagesFrom (d.areasAt rcd) 0
      let page := fun (e : Area × Nat × Nat) => e.1.base + e.2.1 * 65536
      let copy := fun (e : Area × Nat × Nat) => d.physOf (e.1.dst slot + e.2.1 * 65536)
      let entry := fun (c : CoreId) (x : CtxId) (o n : Nat) => field rcd (0x110000 + (c.val * 80 + x.val) * 512 + o) n
      Runs (.snpRestore path v) s (fun t =>
        t.regN .chrStep = field rcd 0x40 8 ∧ (t.rbit .snpStatus 12 = true ∨ t.rbit .snpStatus 13 = true) ∧
        t.reg (.fltLock i) = 0 ∧ t.lul.round = none ∧ Sent d t [] ∧
        (∀ c : CoreId, (t.core c).fifo = []) ∧
        (∀ (c : CoreId) (n : TokenId), t.regN (.token c n) = field rcd (0x10000 + c.val * 1024 + n.val * 4) 4) ∧
        (∀ (c : CoreId) (x : CtxId), (t.ctx c x).pc.toNat = entry c x 0x100 8 ∧
          (t.ctx c x).state = (if entry c x 0x108 1 % 8 = 0 then 0 else 1) ∧
          ∀ r : SRegId, ((t.ctx c x).sreg r).toNat = entry c x (8 * r.val) 8) ∧
        (d.shardCnt = 0 → (∀ e ∈ ps, ∀ f ∈ ps, Apart (page e) 65536 (copy f) 65536) → ps.Pairwise (fun e f => page e ≠ page f) →
          t.written = [] ∧ ∀ e ∈ ps, t.physBytes (page e) 65536 = d.physBytes (copy e) 65536)))) ∧
    (PathReaches d path .snpEstev → Runs (.snpEstev path v) s (fun t => OnlyRegs d t ∧
      RegsBut d t (fun a => IsCounter a ∨ a = Reg.snpRate.addr) ∧ t.regN .snpRate = if bit v 0 then (d.regN .snpRate + 2 ^ 48 / 2 ^ d.rbits .snpEstcfg 4 0) % 2 ^ 64 else d.regN .snpRate))
namespace Sys2Proof.Claim

/-! ### Locks, repairs and the commands of FLT_CMD -/

/-- Held entry `j` is the lowest one that conflicts with activity `a` on scope `u`. -/
def Blocks (d : Dev) (a u j : Nat) : Prop :=
  j < 16 ∧ d.rbit (.fltLock j) 63 = true ∧
  conflicts a u (d.rbits (.fltLock j) 59 56) (d.rbits (.fltLock j) 31 0) = true ∧
  ∀ x, x < j → d.rbit (.fltLock x) 63 = true →
    conflicts a u (d.rbits (.fltLock x) 59 56) (d.rbits (.fltLock x) 31 0) = false

/-- FLT_CMDST says that a command is done, with its lock entry. -/
def CmdDone (t : Dev) (i : Nat) : Prop := t.regN .fltCmdst = 2 ^ 31 + i * 2 ^ 16

/-- FLT_CMDST says that a command runs, with its lock entry. -/
def CmdRuns (t : Dev) (i : Nat) : Prop := t.regN .fltCmdst = 2 ^ 28 + i * 2 ^ 16

/-- A command ends in an error code, and nothing else happens. -/
def CmdFails (d t : Dev) (code : Nat) : Prop :=
  t.regN .fltCmdst = 2 ^ 29 + code ∧ OnlyRegs d t ∧ RegsBut d t (fun a => IsCounter a ∨ a = Reg.fltCmdst.addr)

/-- The owner code of an access path. -/
def ownerCode (p : Path) : Nat :=
  match p with
  | .host | .bdp _ => 1
  | .smbus | .jtag | .mgc => 2
  | .ctx _ _ => 3

/-- A start of activity `a` is refused with BUSY by entry `j`, which FLT_CMDST and FLT_BUSYREC show (R389). -/
def CmdBusy (d t : Dev) (path : Path) (a j : Nat) : Prop :=
  let held := d.rbits (.fltLock j) 59 56
  t.regN .fltCmdst = 2 ^ 30 + held * 2 ^ 20 + j * 2 ^ 16 ∧
  t.regN .fltBusyrec = a * 2 ^ 28 + held * 2 ^ 24 + j * 2 ^ 20 + ownerCode path * 2 ^ 16 ∧ OnlyRegs d t ∧
  RegsBut d t (fun b => IsCounter b ∨ b = Reg.fltCmdst.addr ∨ b = Reg.fltBusyrec.addr)

/-- CTX of a lock entry that an access path takes. -/
def ctxCode (p : Path) : Nat :=
  match p with
  | .ctx c x => c.val * 128 + x.val
  | _ => 0

/-- Software holds entry `i` for activity `a` on scope `u` by a LOCK on this path (R387). -/
def OwnEntry (d : Dev) (path : Path) (a u i : Nat) : Prop :=
  i < 16 ∧ d.rbit (.fltLock i) 63 = true ∧ mapGet (fun _ => false) d.flt.swHeld i = true ∧
  d.reg (.fltLock i) = BitVec.ofNat 64 (2 ^ 63 + a * 2 ^ 56 + ownerCode path * 2 ^ 52 + ctxCode path * 2 ^ 32 + u)

/-- A start on this path runs under entry `i`: the one that it has taken with LOCK, else the lowest free one, with no held
entry in conflict (R387, R389). -/
def StartsUnder (d : Dev) (path : Path) (a u i : Nat) : Prop :=
  (OwnEntry d path a u i ∧ ∀ j, j < i → ¬ OwnEntry d path a u j) ∨ ((∀ j, ¬ OwnEntry d path a u j) ∧ Grants d a u i)

/-- A start on this path is refused: it has taken no entry with LOCK, and held entry `j` is the lowest that conflicts. -/
def Refused (d : Dev) (path : Path) (a u j : Nat) : Prop := (∀ i, ¬ OwnEntry d path a u i) ∧ Blocks d a u j

/-- The entry of an activity that has ended is free again, but for one taken with LOCK, which stays until UNLOCK (R387). -/
def Freed (d t : Dev) (i : Nat) : Prop :=
  (mapGet (fun _ => false) d.flt.swHeld i = false → t.reg (.fltLock i) = 0) ∧
  (mapGet (fun _ => false) d.flt.swHeld i = true → d.rbit (.fltLock i) 63 = true → t.reg (.fltLock i) = d.reg (.fltLock i))

/-- Nothing but registers differs, and whether software holds lock entry `i`. -/
def LockOnly (d t : Dev) (i : Nat) (b : Bool) : Prop :=
  t = { d with regs := t.regs, flt := { d.flt with swHeld := t.flt.swHeld }, outbox := t.outbox, msixPend := t.msixPend,
               traceQ := t.traceQ } ∧
  mapGet (fun _ => false) t.flt.swHeld i = b ∧
  (∀ j, j ≠ i → mapGet (fun _ => false) t.flt.swHeld j = mapGet (fun _ => false) d.flt.swHeld j) ∧
  RegsBut d t (fun a => IsCounter a ∨ a = (Reg.fltLock i).addr ∨ a = Reg.fltCmdst.addr)

/-- A migration of channel `chan` of stack `n` into a spare has begun (R199, R380). -/
def Migrating (t : Dev) (n chan spare : Nat) (lock : Option Nat) : Prop :=
  mapGet (fun _ => none) t.flt.migs n = some { chan := chan, spare := spare, lock := lock } ∧
  (spare = 32 → t.rbits (.stkChmap n) 4 0 = chan ∧ t.rbits (.stkChmap n) 17 16 = 1) ∧
  (spare = 33 → t.rbits (.stkChmap n) 12 8 = chan ∧ t.rbits (.stkChmap n) 17 16 = 2) ∧
  t.reg (.stkMigptr n) = 0 ∧ t.rbit .fltStatus 1 = true

/-- Both spare channels of stack `n` are free. -/
def SparesFree (d : Dev) (n : Nat) : Prop :=
  d.rbit (.stkChmap n) 7 = false ∧ d.rbit (.stkChmap n) 15 = false ∧
  mapGet (fun _ => false) d.flt.retired (2 * n) = false ∧ mapGet (fun _ => false) d.flt.retired (2 * n + 1) = false

/-- Lane `lane` of port `p` is the new spare's place: LSPARE names it, the port's spare is used, and the repair is noted
(R379, R382). -/
def LaneSpared (t : Dev) (p lane : Nat) : Prop :=
  t.rbits (.portCtl p) 12 8 = lane ∧ mapGet (fun _ => false) t.flt.spareLanes p = true ∧ t.rbit .fltStatus 7 = true

end Sys2Proof.Claim

/-- FLT_CMD: LOCK and UNLOCK; ENGRST stores and resets the contexts with work on the engine, which keep their leases; CORESUB
stores and resets the core's contexts while the cluster's spare fills, and at its end the spare has the core's place and the
contexts return, or are lost; DIERST holds the die in reset, and a substitution on it yields; LANESP, CHMIG and ROWSP use a
spare, or find none; RELEASE and REVOTE end a stop; a start runs under the entry that the same software has taken with LOCK, or
is refused with BUSY where a held entry conflicts, and an operand that names no unit of its kind is an error (R364, R374 to
R377, R379 to R382, R385, R387 to R389; when a substitution ends is log entry 32's choice). -/
def Obligations.FltCommandsAct : Prop :=
  ∀ (path : Path) (v : W32) (s : State), s.dev.memWf = true →
    let d := s.dev
    let u := d.rbits .fltCmdarg 31 0
    let kind := u / 2 ^ 28
    let idx := u % 2 ^ 28
    let act := d.rbits .fltCmdarg 35 32
    let held := fun (e : Nat) => d.rbit (.fltLock e) 63
    let bank := idx / 2 ^ 27 * 2 ^ 27 + idx % 2 ^ 16 + 9 * 2 ^ 28
    let cluster := 2 * 2 ^ 28 + (if idx < 2 ^ 27 then idx / 32 % 512 / 8 else idx / 32 % 64)
    let rows := if idx < 2 ^ 27 then 2 else 4
    let stays := fun (n : Nat) => ∀ x ∈ d.flt.subs, x.core / 128 ≠ n
    PathReaches d path .fltCmd →
    (lockOk act u = true →
      (∀ i, Grants d act u i → Runs (.fltLock path v) s (fun t => Holds t i act u (some path) ∧ CmdDone t i ∧ LockOnly d t i true)) ∧
      (∀ j, Blocks d act u j → Runs (.fltLock path v) s (fun t => CmdBusy d t path act j))) ∧
    (lockOk act u = false → Runs (.fltLock path v) s (fun t => CmdFails d t 1)) ∧
    (let i := d.rbits .fltCmdarg 3 0
     (held i = true → Runs (.fltUnlock path v) s (fun t => t.reg (.fltLock i) = 0 ∧ CmdDone t i ∧ LockOnly d t i false)) ∧
     (held i = false → Runs (.fltUnlock path v) s (fun t => CmdFails d t 2))) ∧
    (∀ x ∈ [(Instr.fltEngrst path v, 4), (.fltCoresub path v, 3), (.fltDierst path v, 1), (.fltLanesp path v, 6),
        (.fltChmig path v, 8), (.fltRowsp path v, 9)],
      (kind ≠ x.2 ∨ unitOk u = false) → Runs x.1 s (fun t => CmdFails d t 1)) ∧
    (unitOk u = true →
      (kind = 4 → d.dieUp (idx % 512 / 128) = true → d.episode (idx % 512) (idx / 512) = none →
        let c := idx % 512
        let e := idx / 512
        let users := fun (x : Nat) => x < 80 ∧ ∃ q, q < 20 ∧ q / 4 = e ∧
          ((∃ k ∈ (d.core c).queue q, k.ctx = x) ∨ ∃ r ∈ (d.core c).runs q, r.cmd.ctx = x)
        (∀ i, StartsUnder d path 2 (3 * 2 ^ 28 + c) i → Runs (.fltEngrst path v) s (fun t =>
          CmdRuns t i ∧ Holds t i 2 (3 * 2 ^ 28 + c) (some path) ∧ t.rbit .fltStatus 6 = true ∧ t.rbit .chrVote 0 = true ∧
          MemorySame d t ∧ (e = 0 → (t.core c).mxe = {}) ∧ ((e = 1 ∨ e = 2) → (t.core c).vxe = {}) ∧
          (e = 3 → (t.core c).gse.tabs = []) ∧ (∀ y, ((t.core c).lease y).owner = ((d.core c).lease y).owner) ∧
          (∀ x, users x → (t.ctx c x).state = 1 ∧ (t.ctx c x).pc = (d.ctx c x).pc) ∧
          ∃ p : Episode, t.episode c e = some p ∧ p.resetting = true ∧ p.level = 2 ∧ p.lock = some i ∧
            ∀ q x, users x → q < 20 → ∀ k ∈ (d.core c).queue q, k.ctx = x → k.isExt = false →
              ∃ st ∈ p.stored, st.q = q ∧ st.cmd = k)) ∧
        (∀ j, Refused d path 2 (3 * 2 ^ 28 + c) j → Runs (.fltEngrst path v) s (fun t => CmdBusy d t path 2 j))) ∧
      (kind = 3 → idx < 512 → d.dieUp (idx / 128) = true → d.rbit (.slotmap (idx / 8)) 36 = true →
        (∀ x ∈ d.flt.subs, x.core / 8 ≠ idx / 8) → (∀ e, e < 5 → d.episode idx e = none) →
        (∀ i, StartsUnder d path 3 u i → Runs (.fltCoresub path v) s (fun t =>
          CmdRuns t i ∧ Holds t i 3 u (some path) ∧ t.rbit .fltStatus 1 = true ∧ t.rbit .fltStatus 6 = true ∧
          t.rbit .chrVote 0 = true ∧ t.chorus.stopAsked = d.chorus.stopAsked ∧ MemorySame d t ∧
          t.reg (.slotmap (idx / 8)) = d.reg (.slotmap (idx / 8)) ∧
          (∀ x : CtxId, (t.ctx idx x).s = (d.ctx idx x).s ∧ (t.ctx idx x).pc = (d.ctx idx x).pc ∧
            (t.ctx idx x).state = if (d.ctx idx x).state = 0 ∨ (d.ctx idx x).state = 5 then (d.ctx idx x).state else 1) ∧
          (∀ n : TokenId, t.reg (.token idx n) = d.reg (.token idx n)) ∧
          ∃ x : Subst, t.flt.subs = d.flt.subs ++ [x] ∧ x.core = idx ∧ x.lock = some i ∧
            (d.physBad (0xF000000000 + idx * 0x200000) 0x180000 = false → (∀ e ∈ (d.core idx).ctxs, e.2.bad = []) →
              (∀ e ∈ (d.core idx).fifo, ∀ k ∈ e.2, k.bad = false) → x.lost = false) ∧
            (d.physBad (0xF000000000 + idx * 0x200000) 0x180000 = true → x.lost = true) ∧
            ∀ q k, q < 20 → k ∈ (d.core idx).queue q → k.isExt = false → k.ctx < 80 →
              (d.ctx idx k.ctx).state ≠ 0 → (d.ctx idx k.ctx).state ≠ 5 → ∃ st ∈ x.stored, st.q = q ∧ st.cmd = k)) ∧
        (∀ j, Refused d path 3 u j → Runs (.fltCoresub path v) s (fun t => CmdBusy d t path 3 j))) ∧
      (kind = 3 → idx < 512 → d.rbit (.slotmap (idx / 8)) 36 = false → Runs (.fltCoresub path v) s (fun t => CmdFails d t 2)) ∧
      (kind = 1 → stays idx → (∀ i, StartsUnder d path 4 u i → d.snp.lock ≠ some i → Runs (.fltDierst path v) s (fun t =>
          CmdRuns t i ∧ Holds t i 4 u (some path) ∧ t.dieUp idx = false ∧ (∀ n, n ≠ idx → t.dieUp n = d.dieUp n) ∧
          t.rbit .fltStatus 6 = true ∧ t.rbit .chrVote 0 = true ∧
          (∀ c : CoreId, c.val / 128 = idx → t.core c = {} ∧ ∀ x : CtxId, (t.ctx c x).state = 0) ∧
          (∀ c : CoreId, c.val / 128 ≠ idx → t.core c = d.core c) ∧
          (∀ p : PortId, p.val / 6 = idx → t.portUp p = false) ∧
          ((∀ w m, w < 72 → m < 32 → d.region w m = none) → ∀ a, memDie a = some idx → t.physBytes a 1 = [0]))) ∧
        (∀ j, Refused d path 4 u j → Runs (.fltDierst path v) s (fun t => CmdBusy d t path 4 j))) ∧
      (kind = 1 → ∀ (x : Subst) (j : Nat), d.flt.subs = [x] → x.core / 128 = idx → x.lock = some j → j < 16 →
        mapGet (fun _ => false) d.flt.swHeld j = false → (∀ e, e < 16 → held e = true → e = j) →
        Runs (.fltDierst path v) s (fun t => t.dieUp idx = false ∧ t.flt.subs = [] ∧ x.core ∈ t.flt.unfinished)) ∧
      (kind = 6 → 1 ≤ idx / 256 →
        let p := idx % 32
        (∀ i, StartsUnder d path 5 (6 * 2 ^ 28 + p) i →
          (mapGet (fun _ => false) d.flt.spareLanes p = false → Runs (.fltLanesp path v) s (fun t =>
            LaneSpared t p (idx / 256 - 1) ∧ CmdDone t i ∧ Freed d t i ∧
            Reports d t 0x0701 u (d.rbits (.portCtl p) 12 8))) ∧
          (mapGet (fun _ => false) d.flt.spareLanes p = true → Runs (.fltLanesp path v) s (fun t =>
            t.rbit .fltStatus 9 = true ∧ t.regN .fltCmdst = 2 ^ 29 + 3 ∧ Freed d t i ∧ Reports d t 0x0702 u 0 ∧
            t.reg (.portCtl p) = d.reg (.portCtl p)))) ∧
        (∀ j, Refused d path 5 (6 * 2 ^ 28 + p) j → Runs (.fltLanesp path v) s (fun t => CmdBusy d t path 5 j))) ∧
      (kind = 8 →
        let n := idx / 64
        (∀ i, StartsUnder d path 6 (7 * 2 ^ 28 + n) i →
          (SparesFree d n → idx % 64 < 32 → Runs (.fltChmig path v) s (fun t =>
            Migrating t n (idx % 64) 32 (some i) ∧ CmdRuns t i ∧ Holds t i 6 (7 * 2 ^ 28 + n) (some path) ∧ MemorySame d t)) ∧
          (d.rbit (.stkChmap n) 7 = true → d.rbit (.stkChmap n) 15 = false → idx % 64 = 32 →
            mapGet (fun _ => false) d.flt.retired (2 * n + 1) = false → Runs (.fltChmig path v) s (fun t =>
            Migrating t n (d.rbits (.stkChmap n) 4 0) 33 (some i) ∧ CmdRuns t i ∧ MemorySame d t)) ∧
          (d.rbit (.stkChmap n) 7 = true → d.rbit (.stkChmap n) 15 = true → idx % 64 = 32 → Runs (.fltChmig path v) s (fun t =>
            t.rbit .fltStatus 9 = true ∧ t.regN .fltCmdst = 2 ^ 29 + 3 ∧ Freed d t i ∧
            t.reg (.stkChmap n) = d.reg (.stkChmap n))))) ∧
      (kind = 9 → ∀ i, StartsUnder d path 7 cluster i →
        let used := mapGet (fun _ => 0) d.flt.spareRows bank
        (used < rows → Runs (.fltRowsp path v) s (fun t =>
          mapGet (fun _ => 0) t.flt.spareRows bank = used + 1 ∧ t.rbit .fltStatus 7 = true ∧ CmdDone t i ∧
          Freed d t i ∧ Reports d t 0x0701 u used)) ∧
        (rows ≤ used → Runs (.fltRowsp path v) s (fun t =>
          t.rbit .fltStatus 9 = true ∧ t.regN .fltCmdst = 2 ^ 29 + 3 ∧ Freed d t i ∧ Reports d t 0x0702 u 0 ∧
          t.flt.spareRows = d.flt.spareRows)))) ∧
    (let dtok := d.rbits .chrCfg 31 24
     (d.rbit .fltStatus 0 = true → d.rbit .pwrStatus 28 = false → d.lulOn = false → dtok ≠ d.rbits .chrCfg 23 16 →
      Runs (.fltRelease path v) s (fun t =>
        t.rbit .fltStatus 0 = false ∧ t.rbits .fltStatus 19 16 = 0 ∧ t.flt.withheld = false ∧ CmdDone t 0 ∧ MemorySame d t ∧
        (∀ c : CoreId, t.regN (.token c dtok) =
          if d.takesPart c then (d.regN (.token c dtok) + 1) % 2 ^ 32 else d.regN (.token c dtok)) ∧
        (d.chorus.applying ≠ 0 → d.chorus.order = 5 → t.chorus.applying = 0 ∧ t.rbit .chrStatus 0 = false) ∧
        (d.chorus.applying = 0 → t.chorus = d.chorus ∧ t.rbit .chrStatus 0 = d.rbit .chrStatus 0))) ∧
     (d.rbit .fltStatus 0 = false → Runs (.fltRelease path v) s (fun t => CmdFails d t 2) ∧
      Runs (.fltRevote path v) s (fun t => CmdFails d t 2)) ∧
     (∀ (own : Vote) (tree : Tree) (up : Edge), d.rbit .fltStatus 0 = true → d.rbits .fltStatus 19 16 = 4 →
      d.chorus.vote = some own → own.causes < 128 → d.chorusTree = some tree → tree.kids = [] → tree.parent = some up →
      d.isAbsent up.dev = false → CanLeave d up.port (chorusFrame d up 1 0 own.causes own) →
      Runs (.fltRevote path v) s (fun t =>
        Leaves d t up.port (chorusFrame d up 1 0 own.causes own) ∧ t.rbit .fltStatus 0 = false ∧
        t.rbits .fltStatus 19 16 = 0 ∧ CmdDone t 0 ∧ t.chorus.vote = some own ∧ t.mem = d.mem))) ∧
    (∀ x : Subst, x.core < 512 →
      let m := Reg.slotmap (x.core / 8)
      let lo := 4 * (x.core % 8)
      let old := d.rbits m (lo + 3) lo
      old < 9 →
      let t := d.subFinish x
      t.rbits m (lo + 3) lo = d.rbits m 35 32 ∧ t.rbit m (37 + old) = true ∧ t.rbit m 36 = false ∧ t.rbits m 35 32 = 15 ∧
      t.rbit .fltStatus 7 = true ∧ (∀ y ∈ t.flt.subs, y.core ≠ x.core) ∧
      (x.lost = false → t.chorus.stopAsked = d.chorus.stopAsked ∧
        (∀ y : CtxId, y.val ∈ x.ctxs → (d.ctx x.core y).state = 1 → (d.ctx x.core y).prior ≠ 0 → (d.ctx x.core y).prior < 8 →
          (t.ctx x.core y).state = (d.ctx x.core y).prior ∧ (t.ctx x.core y).pc = (d.ctx x.core y).pc) ∧
        ∀ st ∈ x.stored, st.q < 20 → st.cmd ∈ (t.core x.core).queue st.q) ∧
      (x.lost = true → t.rbit .fltStatus 11 = true ∧ (d.chorus.stopAsked = 0 → t.chorus.stopAsked = 3) ∧ t.core x.core = {}) ∧
      ∀ i, i < 16 → x.lock = some i → Freed d t i)

/-- Repairs that the FLT starts itself, its waits, and the crash dump: a lane or channel that meets its threshold is
reported and repaired, waits for its lock, or finds no spare; a spare that fails while it fills gives way to the other; a
waiting start begins with its lock, but a substitution in a cluster whose spare is filling loses the cluster; a dump writes a record for each section of its scope, a unit without answer an
unreadable token (R202, R379 to R383, R387, R389, R391, R392; how a failing spare is told is log entry 43's reading). -/
def Obligations.RepairsAndDumps : Prop :=
  ∀ (path : Path) (p : PortId) (lane : BitVec 5) (n : StackId) (chan : BitVec 6) (count v : W32) (again : Bool) (s : State),
    s.dev.memWf = true →
    let d := s.dev
    let way := PathReaches d path .fltCmd
    let laneUnit := 6 * 2 ^ 28 + (lane.toNat + 1) * 256 + p.val
    let port := 6 * 2 ^ 28 + p.val
    let stack := 7 * 2 ^ 28 + n.val
    let logs := fun (a : Nat) => IsCounter a ∨ IsLog a
    let counted := fun (t : Dev) => t.rbits (.stkEcc n) 15 0 = min (d.rbits (.stkEcc n) 15 0 + count.toNat) 65535
    let waitsFor := fun (t : Dev) (w : LockWait) => t.flt = { d.flt with waits := d.flt.waits ++ [w] }
    (d.rbits .fltRepthr 31 16 ≤ count.toNat → lane.toNat ≤ 16 →
      (d.rbit .fltRepcfg 0 = false → Runs (.laneRepairTrigger p lane count) s (fun t =>
        Reports d t 0x0405 laneUnit count.toNat ∧ t.flt = { d.flt with rows := t.flt.rows } ∧ RegsBut d t logs)) ∧
      (d.rbit .fltRepcfg 0 = true → mapGet (fun _ => false) d.flt.spareLanes p.val = false →
        (∀ i, Grants d 5 port i → Runs (.laneRepairTrigger p lane count) s (fun t =>
          LaneSpared t p lane.toNat ∧ Freed d t i ∧ t.flt = { d.flt with rows := t.flt.rows, spareLanes := t.flt.spareLanes })) ∧
        (∀ j, Blocks d 5 port j → Runs (.laneRepairTrigger p lane count) s (fun t =>
          Reports d t 0x0405 laneUnit count.toNat ∧ t.flt.waits = d.flt.waits ++ [{ act := 5, scope := port, arg := lane.toNat }] ∧
          RegsBut d t logs))) ∧
      (d.rbit .fltRepcfg 0 = true → mapGet (fun _ => false) d.flt.spareLanes p.val = true →
        Runs (.laneRepairTrigger p lane count) s (fun t => t.rbit .fltStatus 9 = true ∧ RegsBut d t logs))) ∧
    (chan.toNat < 32 → (d.rbits .fltRepthr 15 0 ≤ count.toNat ∨ again = true) → d.rbit .fltRepcfg 1 = true →
      (SparesFree d n → ∀ i, Grants d 6 stack i → Runs (.channelRepairTrigger n chan count again) s (fun t =>
        Migrating t n chan.toNat 32 (some i) ∧ Holds t i 6 stack none ∧ counted t ∧
        (count.toNat < d.rbits .fltRepthr 15 0 → t.mem = d.mem) ∧
        (d.rbits .fltRepthr 15 0 ≤ count.toNat → Reports d t 0x0302 (8 * 2 ^ 28 + n.val * 64 + chan.toNat) count.toNat))) ∧
      (d.rbit (.stkChmap n) 7 = true → d.rbit (.stkChmap n) 15 = true → ∀ i, Grants d 6 stack i →
        Runs (.channelRepairTrigger n chan count again) s (fun t =>
          t.rbit .fltStatus 9 = true ∧ Freed d t i ∧ counted t ∧ t.reg (.stkChmap n) = d.reg (.stkChmap n))) ∧
      (∀ j, Blocks d 6 stack j → count.toNat < d.rbits .fltRepthr 15 0 → Runs (.channelRepairTrigger n chan count again) s (fun t =>
        waitsFor t { act := 6, scope := stack, arg := chan.toNat } ∧ counted t ∧ t.mem = d.mem ∧
        OnlyRegs { d with flt := t.flt } t))) ∧
    (chan.toNat < 32 → count.toNat < d.rbits .fltRepthr 15 0 → again = false → Runs (.channelRepairTrigger n chan count again) s (fun t =>
      counted t ∧ OnlyRegs d t ∧ RegsBut d t (fun a => a = (Reg.stkEcc n).addr))) ∧
    (∀ m : Migration, mapGet (fun _ => none) d.flt.migs n.val = some m → m.spare = 32 → chan.toNat = 32 → again = true →
      m.chan < 32 → SparesFree d n → Runs (.channelRepairTrigger n chan count again) s (fun t =>
        Migrating t n m.chan 33 m.lock ∧ mapGet (fun _ => false) t.flt.retired (2 * n.val) = true)) ∧
    (∀ (w : LockWait) (rest : List LockWait), d.flt.waits = w :: rest → (∀ x ∈ rest, x.act ≠ 3) → w.act = 6 → w.scope = stack → w.arg < 32 →
      SparesFree d n → ∀ i, Grants d 6 stack i → Runs .lockWaitGrant s (fun t =>
        t.flt.waits = rest ∧ Migrating t n w.arg 32 (some i) ∧ Holds t i 6 stack none ∧ t.mem = d.mem)) ∧
    (∀ (c : CoreId) (j : Nat), d.flt.waits = [{ act := 3, scope := 3 * 2 ^ 28 + c.val }] → j < 16 → d.rbit (.fltLock j) 63 = true →
      d.rbits (.fltLock j) 59 56 = 3 → d.rbits (.fltLock j) 31 0 % 512 / 8 = c.val / 8 → Runs .lockWaitGrant s (fun t =>
        t.flt.waits = [] ∧ t.rbit .fltCllost (c.val / 8) = true ∧ t.rbit .fltStatus 10 = true ∧
        ∀ x ∈ t.flt.subs, x.core / 8 ≠ c.val / 8)) ∧
    ((∀ w ∈ d.flt.waits, w.act ≠ 3 ∧ ∃ j, Blocks d w.act w.scope j) → Runs .lockWaitGrant s (fun t => OnlyRegs d t ∧ ∀ r, t.reg r = d.reg r)) ∧
    (let base := d.regN .fltCmdarg2 % 2 ^ 48
     way → d.rbits .fltCmdarg 31 0 = port → ∀ i, StartsUnder d path 11 0 i →
      (d.dieUp (p.val / 6) = true → PlainMemory d base 304 → Runs (.fltDump path v) s (fun t =>
        t.physBytes base 16 = toBytes 4 port ++ toBytes 2 0 ++ [0, 0] ++ toBytes 4 288 ++ toBytes 4 0 ∧
        (∀ b, (b < base ∨ base + 304 ≤ b) → t.physBytes b 1 = d.physBytes b 1) ∧ t.regN .fltDumplen = 304 ∧
        t.rbit .fltDumpst 31 = false ∧ t.rbit .fltDumpst 30 = true ∧ Freed d t i ∧ CmdDone t i ∧ t.flt.dump = none)) ∧
      (d.dieUp (p.val / 6) = false → Runs (.fltDump path v) s (fun t =>
        t.flt.dump = some { todo := [(port, 0)], base := base, next := 0, lock := some i } ∧ CmdRuns t i ∧
        Holds t i 11 0 (some path) ∧ t.regN .fltDumpst = 2 ^ 31 ∧ t.regN .fltDumplen = 0 ∧ t.mem = d.mem))) ∧
    (way → unitOk (d.rbits .fltCmdarg 31 0) = false → Runs (.fltDump path v) s (fun t => CmdFails d t 1)) ∧
    (∀ (x : Dump) (u sec : Nat), d.flt.dump = some x → x.todo = [(u, sec)] → u < 2 ^ 32 → sec < 2 ^ 16 →
      let o := (x.next + 15) / 16 * 16
      PlainMemory d (x.base + o) 16 → o + 16 < 2 ^ 32 → Runs .dumpReadTimeout s (fun t =>
        t.physBytes (x.base + o) 16 = toBytes 4 u ++ toBytes 2 sec ++ [1, 0] ++ toBytes 4 0 ++ toBytes 4 0 ∧
        (∀ b, (b < x.base + o ∨ x.base + o + 16 ≤ b) → t.physBytes b 1 = d.physBytes b 1) ∧ t.regN .fltDumplen = o + 16 ∧
        t.rbits .fltDumpst 23 0 = min (d.rbits .fltDumpst 23 0 + 1) (2 ^ 24 - 1) ∧ t.rbit .fltDumpst 31 = false ∧
        t.rbit .fltDumpst 30 = true ∧ t.flt.dump = none ∧ ∀ i, i < 16 → x.lock = some i → Freed d t i))
namespace Sys2Proof.Claim

/-! ### The escalation ladder -/

/-- Context `x` has a command queued, held or running on engine `e` of core `c` (R371). -/
def UsesEngine (d : Dev) (c e x : Nat) : Prop :=
  x < 80 ∧ ∃ q, q < 20 ∧ q / 4 = e ∧ ((∃ k ∈ (d.core c).queue q, k.ctx = x) ∨ ∃ r ∈ (d.core c).runs q, r.cmd.ctx = x)

/-- Command `r` is the one whose engine's watchdog fires: it runs in the lowest queue of engine `e` that has one, the
watchdogs are enabled, and the core runs. -/
def Stalled (d : Dev) (c e : Nat) (r : Run) : Prop :=
  d.rbit .fltWdcfg 0 = true ∧ d.coreRuns c = true ∧
  ∃ i, i < 4 ∧ (d.core c).run (4 * e + i) = some r ∧ ∀ j, j < i → (d.core c).run (4 * e + j) = none

/-- No episode stands on core `c`. -/
def NoEpisode (d : Dev) (c : Nat) : Prop := ∀ e, e < 5 → d.episode c e = none

/-- The context is HALTED with EXCCODE WDOG (R371). -/
def HaltedByWatchdog (t : Dev) (c x : Nat) : Prop := (t.ctx c x).state = 1 ∧ bits (t.ctx c x).cstatus 31 24 = 0x0C

/-- Level `n` is above MAXAUTO: ADVISE names it, and the device is to stop at the next boundary with SCAUSE 6 (R373). -/
def Advises (d t : Dev) (n : Nat) : Prop :=
  t.rbits .fltStatus 22 20 = n ∧ (d.chorus.stopAsked = 0 → t.chorus.stopAsked = 6)

/-- An engine reset has begun: its contexts are HALTED, the device votes to skip the step, and the lock is held (R374). -/
def ResetsEngine (d t : Dev) (c e i : Nat) : Prop :=
  (∃ p : Episode, t.episode c e = some p ∧ p.level = 2 ∧ p.resetting = true ∧ p.lock = some i) ∧
  (∀ x, UsesEngine d c e x → (t.ctx c x).state = 1) ∧ Holds t i 2 (3 * 2 ^ 28 + c) none ∧ t.rbit .fltStatus 6 = true ∧
  t.rbit .chrVote 0 = true

/-- The cluster of core `c` is lost, no variant covers it, and the device is to stop at the next boundary (R384). -/
def LosesCluster (d t : Dev) (c : Nat) : Prop :=
  t.rbit .fltCllost (c / 8) = true ∧ t.rbit .fltStatus 10 = true ∧ t.regN .fltDvsel = 0xFF ∧
  (d.chorus.stopAsked = 0 → t.chorus.stopAsked = 2)

/-- MAXAUTO of FLT_ESCCFG. -/
def autoLevel (d : Dev) : Nat := d.rbits .fltEsccfg 2 0

end Sys2Proof.Claim

/-- Watchdogs and level 1: a firing watchdog sets ABORT, stores and resets the suspects and makes the lowest current; a
second one while a suspect is current makes it guilty; after a clean episode on the engine, level 2; after two on the core,
level 3, which loses the cluster where it has no spare; a level above MAXAUTO stops the device; a suspect whose commands
cannot start gives way to the next; cores that have not arrived are made to arrive (R367, R369 to R373, R384; UNIT and
DETAIL of EXCREC are log entry 33's reading, an empty variant directory log entry 34's). -/
def Obligations.WatchdogsEscalate : Prop :=
  ∀ (c : CoreId) (e : Fin 5) (r : Run) (p : Episode) (x : CtxId) (s : State),
    let d := s.dev
    let unit := 3 * 2 ^ 28 + c.val
    let w := d.rbits .fltEsccfg 31 16
    let log := fun (g n step : Nat) => c.val * 2 ^ 55 + e.val * 2 ^ 52 + 2 ^ 51 + g * 2 ^ 44 + 2 ^ 40 + n % 256 * 2 ^ 32 + step % 2 ^ 32
    let fired := fun (t : Dev) => t.rbit .fltStatus 4 = true ∧ t.rbit .chrVote 0 = true
    (Stalled d c e r → NoEpisode d c →
      (d.flt.past = [] →
        (1 ≤ autoLevel d → r.cmd.ctx < 80 → ∀ i, Grants d 1 unit i → d.snp.lock ≠ some i → Runs (.engineWatchdog c e) s (fun t =>
          fired t ∧ Holds t i 1 unit none ∧ (∀ y, UsesEngine d c e y → HaltedByWatchdog t c y) ∧
          ∃ (q : Episode) (y : Nat), t.episode c e = some q ∧ q.level = 1 ∧ q.lock = some i ∧ q.current = some y ∧
            (∀ z, z ∈ q.suspects ↔ UsesEngine d c e z) ∧ UsesEngine d c e y ∧ (∀ z, UsesEngine d c e z → y ≤ z) ∧
            (∀ n z, n < 20 → UsesEngine d c e z → ∀ k ∈ (d.core c).queue n, k.ctx = z → k.isExt = false →
              ∃ st ∈ q.stored, st.q = n ∧ st.cmd = k) ∧
            t.regN .fltWdlog = log 0x7F q.suspects.length (d.regN .chrStep))) ∧
        (1 ≤ autoLevel d → ∀ j, Blocks d 1 unit j → Runs (.engineWatchdog c e) s (fun t =>
          fired t ∧ t.flt.waits = d.flt.waits ++ [{ act := 1, scope := unit, arg := e.val }] ∧ t.cores = d.cores)) ∧
        (autoLevel d = 0 → Runs (.engineWatchdog c e) s (fun t => fired t ∧ Advises d t 1 ∧ t.cores = d.cores))) ∧
      (∀ o : PastEpisode, d.flt.past = [o] → o.core = c.val → o.eng = e.val → o.level = 1 → o.clean = true →
        d.regN .chrStep ≤ o.step + w →
        (2 ≤ autoLevel d → ∀ i, Grants d 2 unit i → Runs (.engineWatchdog c e) s (fun t => fired t ∧ ResetsEngine d t c e i)) ∧
        (autoLevel d < 2 → Runs (.engineWatchdog c e) s (fun t => fired t ∧ Advises d t 2 ∧ t.cores = d.cores))) ∧
      (∀ o₁ o₂ : PastEpisode, d.flt.past = [o₁, o₂] → (∀ o ∈ [o₁, o₂], o.core = c.val ∧ o.level ≤ 2 ∧ d.regN .chrStep ≤ o.step + w) →
        3 ≤ autoLevel d → d.rbit (.slotmap (c.val / 8)) 36 = false → d.rbits .fltDvcnt 7 0 = 0 →
        Runs (.engineWatchdog c e) s (fun t => fired t ∧ LosesCluster d t c))) ∧
    (Stalled d c e r → d.episode c e = some p → p.level = 1 → (∀ f, f < 5 → f ≠ e.val → d.episode c f = none) →
      p.current = some r.cmd.ctx → r.cmd.ctx < 80 → (∀ st ∈ p.stored, st.cmd.ctx ∈ p.suspects) →
      Runs (.engineWatchdog c e) s (fun t =>
        fired t ∧ t.rbit .fltStatus 5 = true ∧ t.flt.force = true ∧ HaltedByWatchdog t c r.cmd.ctx ∧
        t.regN .fltWdlog = log (r.cmd.ctx % 128) p.suspects.length p.step ∧
        ((∀ st ∈ p.stored, st.cmd.ctx = r.cmd.ctx) → t.episode c e = none ∧ ∀ i, i < 16 → p.lock = some i → Freed d t i) ∧
        ((∃ st ∈ p.stored, st.cmd.ctx ≠ r.cmd.ctx) → ∃ (q : Episode) (y : Nat), t.episode c e = some q ∧ q.current = some y ∧
          y ≠ r.cmd.ctx ∧ q.guilty = some r.cmd.ctx ∧ q.stored = p.stored.filter (fun st => st.cmd.ctx ≠ r.cmd.ctx) ∧
          ∃ st ∈ q.stored, st.cmd.ctx = y))) ∧
    (d.episode c e = some p → p.level = 1 → p.current = some x.val → p.suspects.Pairwise (· < ·) →
      (∀ q, q < 20 → ∀ k ∈ (d.core c).runs q, k.cmd.ctx ≠ x.val) →
      (∀ q h, q < 20 → d.headOf c q = some h → d.mayStart c q h = false) →
      let waiting := fun (y : Nat) => y ∈ p.suspects ∧ ∃ st ∈ p.stored, st.cmd.ctx = y
      (∃ y, waiting y) → Runs (.suspectAdvance c e) s (fun t =>
        ∃ y, t.episode c e = some { p with current := some y } ∧ waiting y ∧ t.cores = d.cores ∧ t.mem = d.mem ∧
          (∀ z, waiting z → x.val < z → x.val < y ∧ y ≤ z) ∧ ((∀ z, waiting z → z ≤ x.val) → ∀ z, waiting z → y ≤ z))) ∧
    (let late := fun (y : Nat) => d.isParticipant y = true ∧ ((d.ctx c y).state = 2 ∨ (d.ctx c y).state = 3) ∧
      ¬ ((d.ctx c y).state = 3 ∧ bits (d.ctx c y).wait 7 0 = 1 ∧ bits (d.ctx c y).wait 15 8 = d.rbits .chrCfg 31 24)
     let atok := d.rbits .chrCfg 23 16
     let missing := d.narr c - mapGet (fun _ => 0) d.chorus.arrivals c.val
     d.flt.force = true → (∀ n : DieId, d.dieUp n = true) → d.takesPart c = true → d.coreRuns c = true → 0 < missing → d.chorus.vote = none →
      (∀ k : CoreId, k ≠ c → d.takesPart k = true → d.arrived k = true) → Runs .forcedArrival s (fun t =>
        t.flt.force = false ∧ (∀ y, y < 80 → late y → (t.ctx c y).state = 1) ∧
        (∀ y, y < 80 → ¬ late y → (t.ctx c y).state = (d.ctx c y).state) ∧ t.chorus.vote ≠ none ∧
        t.regN (.token c atok) = (d.regN (.token c atok) + missing) % 2 ^ 32))

/-- Levels 2 to 4: a context reset that misses its time resets an engine; an engine whose reset misses its time or fails its
self-test goes to level 3; one that passes replays what was stored, in the order of issue, and the contexts return to their
states; a die-shared unit's watchdog resets its die; a die comes back with its stacks zeroed, and with it the substitutions
that its reset had abandoned; the repair record is saved in the other sector
(R368, R369, R373, R374, R376, R382; 17 R440; which engine a late context reset blames is log entry 34's, the record's
layout log entry 30's). -/
def Obligations.ResetsEnd : Prop :=
  ∀ (c : CoreId) (e : Fin 5) (x : CtxId) (die : DieId) (kind : Byte) (num : W16) (p : Episode) (s : State),
    let d := s.dev
    let unit := 3 * 2 ^ 28 + c.val
    let n := num.toNat % 4
    let noSpare := d.rbit (.slotmap (c.val / 8)) 36 = false ∧ d.rbits .fltDvcnt 7 0 = 0
    ((d.ctx c x).state = 5 → 2 ≤ autoLevel d → NoEpisode d c → ∀ i, Grants d 2 unit i →
      ((d.core c).draining x = true → Runs (.contextResetTimeout c x) s (fun t => ResetsEngine d t c 4 i)) ∧
      ((d.core c).draining x = false → (d.core c).readsOpen x = true →
        Runs (.contextResetTimeout c x) s (fun t => ResetsEngine d t c 3 i)) ∧
      ((d.core c).draining x = false → (d.core c).readsOpen x = false →
        Runs (.contextResetTimeout c x) s (fun t => ∃ f, f < 5 ∧ ResetsEngine d t c f i))) ∧
    (∀ j, (d.ctx c x).state = 1 → 2 ≤ autoLevel d → d.episode c e = some p → p.level = 1 → e ≠ 4 → x.val ∈ p.suspects →
      (∀ f, f < 5 → f ≠ e.val → d.episode c f = none) → p.lock = some j → j < 16 → mapGet (fun _ => false) d.flt.swHeld j = false →
      (∀ k, k < 16 → d.rbit (.fltLock k) 63 = true → k = j) → (d.core c).draining x = true →
      Runs (.contextResetTimeout c x) s (fun t => ∃ i, ResetsEngine d t c 4 i)) ∧
    (d.episode c e = some p → p.resetting = true →
      (∀ run ∈ [Instr.engineResetTimeout c e, .engineResetDone c e false],
        (3 ≤ autoLevel d → noSpare → Runs run s (fun t => LosesCluster d t c ∧
          ∀ i, i < 16 → p.lock = some i → Freed d t i ∧
            (d.regN .fltCmdst = 2 ^ 28 + i * 2 ^ 16 → t.regN .fltCmdst = 2 ^ 29 + 3))) ∧
        (autoLevel d < 3 → Runs run s (fun t => Advises d t 3 ∧ t.cores = d.cores ∧ t.mem = d.mem))) ∧
      (s.dev.memWf = true → Runs (.engineResetDone c e true) s (fun t =>
        t.episode c e = none ∧
        (∀ q, q < 20 →
          let back := (p.stored.filter (fun st => st.q = q)).flatMap Stored.entries
          List.Perm ((t.core c).queue q) (back ++ (d.core c).queue q) ∧
          (back ≠ [] → ((t.core c).queue q).Pairwise (fun k l => k.ord ≤ l.ord))) ∧
        (∀ y : CtxId, y.val ∈ p.suspects → (d.ctx c y).state = 1 → (d.ctx c y).prior ≠ 0 → (d.ctx c y).prior ≤ 5 →
          (t.ctx c y).state = (d.ctx c y).prior ∧ (t.ctx c y).pc = (d.ctx c y).pc ∧ (t.ctx c y).s = (d.ctx c y).s) ∧
        ∀ i, i < 16 → p.lock = some i → Freed d t i ∧
          (d.regN .fltCmdst = 2 ^ 28 + i * 2 ^ 16 → t.regN .fltCmdst = 2 ^ 31 + i * 2 ^ 16)))) ∧
    ((∀ y ∈ d.flt.subs, y.core / 128 ≠ n) → unitOk (12 * 2 ^ 28 + n * 256 + kind.toNat) = true → d.rbit .fltWdcfg 0 = true →
      (4 ≤ autoLevel d → (∃ i, Grants d 4 (2 ^ 28 + n) i) → Runs (.unitWatchdog kind num) s (fun t =>
        t.rbit .fltStatus 4 = true ∧ t.rbit .fltStatus 6 = true ∧ t.rbit .chrVote 0 = true ∧ t.dieUp n = false ∧
        ∀ k : CoreId, t.core k = if k.val / 128 = n then {} else d.core k)) ∧
      (4 ≤ autoLevel d → (∃ j, Blocks d 4 (2 ^ 28 + n) j) → Runs (.unitWatchdog kind num) s (fun t =>
        t.rbit .fltStatus 4 = true ∧ t.flt.waits = d.flt.waits ++ [{ act := 4, scope := 2 ^ 28 + n }] ∧ t.diesUp = d.diesUp)) ∧
      (autoLevel d < 4 → Runs (.unitWatchdog kind num) s (fun t =>
        t.rbit .fltStatus 4 = true ∧ Advises d t 4 ∧ t.diesUp = d.diesUp))) ∧
    (∀ lock : Option Nat, d.flt.dies = [(die.val, lock)] → d.dieUp die = false →
      (Runs (.dieResetDone die true) s (fun t =>
        t.dieUp die = true ∧ t.rbit (.stkInit (2 * die.val)) 0 = true ∧ t.rbit (.stkInit (2 * die.val + 1)) 0 = true ∧
        t.flt.dies = [] ∧ (∀ y ∈ t.flt.unfinished, y / 128 ≠ die.val) ∧
        ((∀ y ∈ d.flt.unfinished, y / 128 ≠ die.val) → t.cores = d.cores) ∧
        (∀ y, d.flt.unfinished = [y] → y < 512 → y / 128 = die.val → d.rbit (.slotmap (y / 8)) 36 = true →
          t.rbits (.slotmap (y / 8)) (4 * (y % 8) + 3) (4 * (y % 8)) = d.rbits (.slotmap (y / 8)) 35 32) ∧
        ∀ i, i < 16 → lock = some i → Freed d t i ∧
          (d.regN .fltCmdst = 2 ^ 28 + i * 2 ^ 16 → t.regN .fltCmdst = 2 ^ 31 + i * 2 ^ 16))) ∧
      Runs (.dieResetDone die false) s (fun t => t.dieUp die = false ∧ t.flt.dies = [] ∧ t.cores = d.cores ∧ t.mem = d.mem ∧
        ∀ i, i < 16 → lock = some i → Freed d t i)) ∧
    (∀ k, d.rrSector = some k → mapWf (fun _ => 0xFF) d.mgc.spi = true → Runs .repairRecordSave s (fun t =>
      let new := 0x100000 + (1 - k) * 0x10000
      t.spiBytes new 4 = toBytes 4 (d.rrSeq k + 1) ∧ t.spiBytes (new + 8) 16 = toBytes 8 (d.regN .pwrTjacc) ++ toBytes 8 (d.regN .pwrTjtime) ∧
      (∀ a, (a < new ∨ new + 0x10000 ≤ a) → t.spiBytes a 1 = d.spiBytes a 1) ∧
      t = { d with mgc := { d.mgc with spi := t.mgc.spi }, outbox := t.outbox, msixPend := t.msixPend, traceQ := t.traceQ }))
namespace Sys2Proof.Claim

/-! ### Power and heat -/

/-- The clock in MHz of mode `m` (Table 15.1). -/
def clockOf (m : Nat) : Nat := if m = 1 then 1800 else if m = 2 then 1200 else 1600

/-- EFF of island `c`: what SET or the mode asks for, under the cap of stage 2 and of thermal step 2 (R397). -/
def effOf (t : Dev) (c : Nat) : Nat :=
  let set := t.rbits (.pwrIclk c) 11 0
  let want := if set = 0 then clockOf (t.rbits .pwrMode 1 0) else set
  if 2 ≤ t.pwr.top ∨ t.rbit .pwrThl2 c = true then min want (if t.rbits .pwrMode 1 0 = 2 then 900 else 1200) else want

/-- Every island runs at its clock, and each die asks for the level of its fastest island (R395, R397). -/
def ClocksRight (t : Dev) : Prop :=
  (∀ c : ClusterId, t.rbits (.pwrIclk c) 27 16 = effOf t c) ∧
  ∀ n : DieId, mapGet (fun _ => 0) t.pwr.vdd n.val =
    vddFor (((List.range 16).map (fun i => effOf t (16 * n.val + i))).foldl max 400)

/-- A write or command of the power block is ignored, and CFGERR is set. -/
def PowerIgnores (d t : Dev) : Prop :=
  t.rbit .pwrStatus 0 = true ∧ OnlyRegs d t ∧ RegsBut d t (fun a => IsCounter a ∨ a = Reg.pwrStatus.addr)

/-- The level in mV that is requested for monitored rail `n`: seven rails on each die, VDD_IO18 and VDD_MGT (R395, Table 15.3). -/
def railLevelOf (d : Dev) (n : Nat) : Nat :=
  if n = 28 then 1800 else if n = 29 then 800
  else [mapGet (fun _ => 0) d.pwr.vdd (n / 7), 800, 750, 750, 1200, 1050, 700].getD (n % 7) 0

/-- The state of rail `n` after a sample: below 88 % of its level 3, below 94 % 2, below 95 % 1, else 0; a monitor that gave no
reading keeps its state (R400). -/
def railAfter (d : Dev) (x : Supply) (n : Nat) : Nat :=
  match x.rails[n]? with
  | some mv =>
    let level := railLevelOf d n
    if mv.toNat * 100 < level * 88 then 3 else if mv.toNat * 100 < level * 94 then 2 else if mv.toNat * 100 < level * 95 then 1 else 0
  | none => mapGet (fun _ => 0) d.pwr.rails n

/-- What a SAG record of a stage entered for this sample names: 0 for the pin, or the first monitor below its warning threshold,
plus 1 (Table 15.8). -/
def SagCause (d : Dev) (x : Supply) (k : Nat) : Prop :=
  (x.warnLow = true → k = 0) ∧
  (x.warnLow = false → ∃ n, k = n + 1 ∧ n < 29 ∧ 2 ≤ railAfter d x n ∧ ∀ m, m < n → railAfter d x m < 2)

/-- A reading of a sensor in units of 0.125 C. -/
def Reads (rs : List W16) (i : Nat) (v : Int) : Prop := ∃ r, rs[i]? = some r ∧ r.toInt = v

/-- TJMAX of the mode, T1, T2, HYST and TTRIP in units of 0.125 C (R409, Table 15.1). -/
def tjmaxOf (d : Dev) : Int := (if d.rbits .pwrMode 1 0 = 2 then 115 else 105) * 8
/-- T1 or T2. -/
def limitOf (d : Dev) (n : Nat) : Int := tjmaxOf d - (if n = 1 then d.rbits .pwrThcfg 7 0 else d.rbits .pwrThcfg 15 8 : Nat) * 8
/-- HYST. -/
def hystOf (d : Dev) : Int := (d.rbits .pwrThcfg 31 24 : Nat) * 8
/-- TTRIP, 125 C at most. -/
def tripOf (d : Dev) : Int := min (tjmaxOf d + (d.rbits .pwrThcfg 23 16 : Nat) * 8) 1000

/-- The thermal step that a reading asks of a sensor's unit: islands have two steps, ports and LHPs one (R409). -/
def stepFor (d : Dev) (i : Nat) (v : Int) : Nat := if i < 64 ∧ limitOf d 2 ≤ v then 2 else if limitOf d 1 ≤ v then 1 else 0

/-- The sensor throttles a unit: an island, a port outside the twin bond, an LHP. -/
def Throttling (d : Dev) (i : Nat) : Prop := i < 64 ∨ (76 ≤ i ∧ i < 100 ∧ d.inBond (i - 76) = false) ∨ i = 100 ∨ i = 101

/-- Stage `n` of autotomy has been entered (R402, R413). -/
def EntersStage (d t : Dev) (n : Nat) : Prop :=
  t.pwr.top = n ∧ t.rbits .pwrStatus 31 29 = max n (d.rbits .pwrStatus 31 29) ∧ t.rbit .pwrStatus 4 = true ∧
  t.pwr.reversing = false

end Sys2Proof.Claim

/-- Power: a mode change is asked for under a MODE lock, and applied at its step; island clocks follow SET, the mode and the
caps, and VDD_CL follows the fastest island; what the monitors and the pins show makes the supply low, recovered, neither or
failing, and VDD_MGT below its reset threshold resets the device as POR_N does; stages are entered one after the other while the
supply is low, stage 5 ends in the reversal or in stage 6; after a dwell the stages are reversed; WAKE and RESUME end stage 6
and the freeze; a failing supply holds every die in reset (R395 to R398, R400 to R407, R413; 17 R435; log entries 26, 35 and
47). -/
def Obligations.PowerFollowsTheSupply : Prop :=
  ∀ (path : Path) (c : ClusterId) (v : W32) (x : Supply) (s : State), s.dev.memWf = true →
    let d := s.dev
    let status := fun (t : Dev) (i : Nat) => t.rbit .pwrStatus i
    let low := status d 27
    let top := d.pwr.top
    let lock := ∃ i, i < 16 ∧ d.rbit (.fltLock i) 63 = true ∧ d.rbits (.fltLock i) 59 56 = 12
    let same := fun (t : Dev) => OnlyRegs d t ∧ ∀ r, t.reg r = d.reg r
    let cause := fun (t : Dev) (n : Nat) => ∃ k, k < 30 ∧ (d.pwr.warnLow = true → k = 0) ∧ Reports d t 0x0A01 0 (n + 256 * k)
    let mgt := railAfter d x 29 = 3
    let warn := x.warnLow = true ∨ ∃ n, n < 29 ∧ 2 ≤ railAfter d x n
    let fail := x.failLow = true ∨ ∃ n, n < 29 ∧ 3 ≤ railAfter d x n
    let good := x.warnLow = false ∧ x.failLow = false ∧ ∀ n, n < 30 → railAfter d x n = 0
    let seen := fun (t : Dev) => t.pwr.warnLow = x.warnLow ∧ t.pwr.failLow = x.failLow ∧ ∀ n, n < 30 →
      mapGet (fun _ => 0) t.pwr.rails n = railAfter d x n ∧
      ∀ mv, x.rails[n]? = some mv → railLevelOf d n < 65536 → t.rbits (.pwrRail n) 31 16 = mv.toNat ∧
        t.rbits (.pwrRail n) 15 0 = max (d.rbits (.pwrRail n) 15 0) (railLevelOf d n - mv.toNat)
    let supplyRegs := fun (t : Dev) => RegsBut d t (fun a => a = Reg.pwrStatus.addr ∨ ∃ n, n < 30 ∧ a = (Reg.pwrRail n).addr)
    let stopped := fun (t : Dev) => t.pwr.top = 6 ∧ 6 ≤ t.rbits .pwrStatus 31 29 ∧
      (∀ p : PortId, d.inBond p = false → t.portUp p = false) ∧ t.lhpUp 0 = false ∧ t.lhpUp 1 = false
    let dtok := d.rbits .chrCfg 31 24
    let f := bits v 11 0
    (PathReaches d path .pwrMode → bits v 17 16 ≠ 3 → lock → d.regN .chrStep < d.regN .pwrModestep → Runs (.modeChangeRequest path v) s (fun t =>
      t.rbits .pwrMode 17 16 = bits v 17 16 ∧ t.rbit .pwrMode 31 = true ∧ t.rbits .pwrMode 1 0 = d.rbits .pwrMode 1 0 ∧
      OnlyRegs d t ∧ RegsBut d t (fun a => IsCounter a ∨ a = Reg.pwrMode.addr))) ∧
    (PathReaches d path .pwrMode → (bits v 17 16 = 3 ∨ ¬ lock ∨ d.regN .pwrModestep ≤ d.regN .chrStep) → Runs (.modeChangeRequest path v) s (fun t =>
      PowerIgnores d t)) ∧
    ((∀ p, (d.portOwn p).fwd = []) → d.rbit .pwrMode 31 = true → d.reg .chrStep = d.reg .pwrModestep → d.rbits .pwrMode 17 16 < 2 → d.rbits .pwrMode 1 0 < 2 →
      let t := d.modeAtBoundary
      t.rbits .pwrMode 1 0 = d.rbits .pwrMode 17 16 ∧ t.rbit .pwrMode 31 = false ∧ status t 8 = true ∧ ClocksRight t ∧
      Reports d t 0x0A08 0 (d.regN .chrStep % 2 ^ 56 * 256 + d.rbits .pwrMode 17 16)) ∧
    (PathReaches d path (.pwrIclk c) → (f = 0 ∨ (400 ≤ f ∧ f ≤ 2000 ∧ f % 25 = 0)) → Runs (.islandClockChange path c v) s (fun t =>
      t.rbits (.pwrIclk c) 11 0 = f ∧ (∀ k : ClusterId, k ≠ c → t.rbits (.pwrIclk k) 11 0 = d.rbits (.pwrIclk k) 11 0) ∧
      ClocksRight t ∧ t.mem = d.mem ∧ RegsBut d t (fun a => IsCounter a ∨ ∃ k : ClusterId, a = (Reg.pwrIclk k).addr))) ∧
    (PathReaches d path (.pwrIclk c) → f ≠ 0 → (f < 400 ∨ 2000 < f ∨ f % 25 ≠ 0) → Runs (.islandClockChange path c v) s (fun t => PowerIgnores d t)) ∧
    (∀ run ∈ [Instr.supplyWarning x, .supplyRecovered x, .supplyFail x],
      (mgt → Runs run s (fun t => ∃ p, exec .porLow s = .next p ∧ t = p.dev)) ∧
      (¬ mgt → Runs run s seen) ∧
      (¬ mgt → ¬ fail → warn → low = false → Runs run s (fun t => status t 27 = true ∧ status t 26 = false ∧ t.pwr.steady = false ∧
        t.pwr.recovered = false ∧ t.pwr.reversing = false ∧
        (top = 0 → EntersStage d t 1 ∧ ∀ k, SagCause d x k → Reports d t 0x0A01 0 (1 + 256 * k)) ∧
        (top ≠ 0 → t.pwr.top = top ∧ t.mem = d.mem))) ∧
      (¬ mgt → ¬ fail → warn → low = true → Runs run s (fun t => t.reg .pwrStatus = d.reg .pwrStatus ∧ t.pwr.top = top ∧
        t.mem = d.mem ∧ supplyRegs t)) ∧
      (¬ mgt → good → Runs run s (fun t => status t 27 = false ∧ status t 26 = (!d.pwr.recovered || status d 26) ∧
        t.pwr.recovered = true ∧ t.pwr.top = top ∧ t.mem = d.mem ∧ supplyRegs t)) ∧
      (¬ mgt → ¬ warn → ¬ fail → ¬ good → Runs run s (fun t => status t 27 = false ∧ status t 26 = false ∧
        t.pwr.recovered = false ∧ t.pwr.steady = false ∧ t.pwr.top = top ∧ t.mem = d.mem ∧ supplyRegs t)) ∧
      (¬ mgt → fail → d.pwr.failing = true → Runs run s (fun t => status t 7 = status d 7 ∧ t.diesUp = d.diesUp)) ∧
      (¬ mgt → fail → d.pwr.failing = false → Runs run s (fun t =>
        status t 7 = true ∧ (∀ n : DieId, t.dieUp n = false) ∧ t.pwr.flush = 0 ∧ t.pwr.failing = true ∧ t.pwr.recovered = false ∧
        t.pwr.steady = false ∧ (d.pwr.flush ≠ 0 → t.pwr.top ≤ 4 ∧ t.pwr.hot = false) ∧
        (∀ k, k < 2 → t.regN (.slotState k) = 0x404) ∧ (∀ k : CoreId, t.core k = {}) ∧
        (d.waitingWrites = [] → (∀ w m, w < 72 → m < 32 → d.region w m = none) → ∀ a n, memDie a = some n →
          t.physBytes a 1 = [0])))) ∧
    (low = true → top < 5 → Runs .autotomyStage s (fun t => EntersStage d t (top + 1) ∧ cause t (top + 1) ∧
      (top + 1 = 2 → ClocksRight t) ∧ (top + 1 = 5 → t.pwr.flush = 1 ∧ t.pwr.slot = none) ∧
      (top + 1 = 3 → ∀ p : PortId, d.portUp p = true → d.inBond p = false → t.rbit (.portStatus p) 29 = true))) ∧
    ((low = false ∨ 5 ≤ top) → Runs .autotomyStage s same) ∧
    (∀ k, d.pwr.flush = 2 → status d 28 = true → d.pwr.slot = some k → slotOf d k ≠ 1 → d.rbits .snpCtl 5 4 ≠ 2 →
      (low = false → d.pwr.hot = false → Runs .flushEnd s (fun t => t.pwr.flush = 0 ∧ t.pwr.top = 4 ∧
        t.pwr.reversing = d.pwr.steady ∧ t.mem = d.mem ∧ status t 28 = true)) ∧
      ((low = true ∨ d.pwr.hot = true) → Runs .flushEnd s (fun t => t.pwr.flush = 0 ∧ stopped t))) ∧
    (d.pwr.flush ≠ 0 →
      (low = false → d.pwr.hot = false → Runs .flushTimeout s (fun t => status t 6 = true ∧ t.pwr.flush = 0 ∧ t.pwr.top = 4 ∧
        t.pwr.reversing = d.pwr.steady ∧ status t 28 = true ∧
        ∀ k, d.pwr.slot = some k → Reports d t 0x0A04 0 (d.regN (.slotState k)))) ∧
      ((low = true ∨ d.pwr.hot = true) → Runs .flushTimeout s (fun t => status t 6 = true ∧ status t 28 = true ∧ t.pwr.flush = 0 ∧ stopped t))) ∧
    (status d 26 = true → Runs .recoveryDwellEnd s (fun t => status t 26 = false ∧ t.pwr.steady = true ∧
      (t.pwr.reversing = true ↔ 1 ≤ top ∧ top ≤ 4) ∧ t.mem = d.mem ∧ RegsBut d t (fun a => a = Reg.pwrStatus.addr))) ∧
    (d.pwr.reversing = true → 1 ≤ top → top ≤ 4 → Runs .stageReverseDone s (fun t => t.pwr.top = top - 1 ∧
      (top = 1 → t.rbits .pwrStatus 31 29 = 0 ∧ status t 5 = true ∧ t.pwr.reversing = false ∧
        Reports d t 0x0A02 0 (min 4 (d.rbits .pwrStatus 31 29))) ∧
      (top ≠ 1 → t.pwr.reversing = true ∧ t.reg .pwrStatus = d.reg .pwrStatus ∧ t.mem = d.mem) ∧
      (top = 2 → ClocksRight t) ∧
      (top = 3 → ∀ p : PortId, d.portUp p = true → d.inBond p = false → d.rbit .pwrThport p = false →
        t.rbit (.portStatus p) 29 = false))) ∧
    (let may := d.rbits .pwrStatus 31 29 = 6 ∧ d.pwr.steady = true ∧ low = false ∧ (d.pwr.hot = false ∨ 201 ≤ d.pwr.coolFor)
     (PathReaches d path .pwrCmd → may → Runs (.pwrWake path) s (fun t => t.rbits .pwrStatus 31 29 = 0 ∧ t.pwr.top = 0 ∧ t.pwr.hot = false ∧
       ClocksRight t ∧ t.mem = d.mem)) ∧
     (PathReaches d path .pwrCmd → ¬ may → Runs (.pwrWake path) s (fun t => PowerIgnores d t))) ∧
    (PathReaches d path .pwrCmd → status d 28 = true → d.rbits .pwrStatus 31 29 = 0 → d.flt.withheld = false → d.lulOn = false →
      dtok ≠ d.rbits .chrCfg 23 16 → Runs (.pwrResume path) s (fun t => status t 28 = false ∧ MemorySame d t ∧
        (∀ k : CoreId, t.regN (.token k dtok) =
          if d.takesPart k then (d.regN (.token k dtok) + 1) % 2 ^ 32 else d.regN (.token k dtok)) ∧
        (d.chorus.applying ≠ 0 → d.chorus.order = 5 → t.chorus.applying = 0 ∧ t.rbit .chrStatus 0 = false))) ∧
    (PathReaches d path .pwrCmd → (status d 28 = false ∨ d.rbits .pwrStatus 31 29 ≠ 0) → Runs (.pwrResume path) s (fun t =>
      PowerIgnores d t))

/-- Heat: a sample stores each reading and its peak, throttles what has reached T1 or T2, counts the hottest reading, and at
TJMAX begins the freeze, at TTRIP stops the device at once; a step is taken back once its sensor has cooled by HYST (R408 to
R410, R412, R413; the rounding of the Tj integral is log entry 27's). -/
def Obligations.HeatThrottles : Prop :=
  ∀ (rs : List W16) (i : BitVec 7) (s : State), rs.length = 111 →
    let d := s.dev
    let x := i.toNat
    let shown := fun (t : Dev) => ∀ k r, rs[k]? = some r → t.rbits (.pwrTemp k) 31 16 = r.toNat ∧
      t.rbits (.pwrTemp k) 15 0 = if 0 < r.toInt then max r.toNat (d.rbits (.pwrTemp k) 15 0) else d.rbits (.pwrTemp k) 15 0
    let counted := fun (t : Dev) => ∀ hot : Int, (∃ k, Reads rs k hot) → (∀ k v, Reads rs k v → v ≤ hot) →
      t.reg .pwrTjacc = d.reg .pwrTjacc + BitVec.ofInt 64 (((d.pwr.tjRest : Int) + hot) / 80000) ∧
      (t.pwr.tjRest : Int) = ((d.pwr.tjRest : Int) + hot) % 80000 ∧
      t.reg .pwrTjtime = (if d.pwr.tjCnt + 1 = 10000 then d.reg .pwrTjtime + 1 else d.reg .pwrTjtime) ∧
      t.pwr.coolFor = if hot ≤ tjmaxOf d - hystOf d then d.pwr.coolFor + 1 else 0
    let below := fun (k : Nat) => ∀ v, Reads rs k v → v < tjmaxOf d
    ((∀ k, below k) → Runs (.sensorSample rs) s (fun t => shown t ∧ counted t ∧ t.pwr.top = d.pwr.top ∧
      t.pwr.hot = d.pwr.hot ∧ ∀ k v, Reads rs k v →
        let old := mapGet (fun _ => 0) d.pwr.steps k
        (Throttling d k → mapGet (fun _ => 0) t.pwr.steps k = max old (stepFor d k v) ∧
          (old < stepFor d k v → t.rbit .pwrStatus 9 = true ∧ (k < 64 → t.rbit .pwrThl1 k = true ∧
            (stepFor d k v = 2 → t.rbit .pwrThl2 k = true)) ∧ (76 ≤ k → k < 100 → t.rbit .pwrThport (k - 76) = true))) ∧
        (¬ Throttling d k → mapGet (fun _ => 0) t.pwr.steps k = old))) ∧
    (∀ v, Reads rs x v → (∀ k, k ≠ x → below k) →
      (tjmaxOf d ≤ v → v < tripOf d → d.pwr.hot = false → d.pwr.top < 5 → Runs (.sensorSample rs) s (fun t =>
        shown t ∧ counted t ∧ t.rbit .pwrStatus 10 = true ∧ t.pwr.hot = true ∧ t.pwr.top = 5 ∧ t.pwr.flush = 1 ∧
        t.rbits .pwrStatus 31 29 = max 5 (d.rbits .pwrStatus 31 29))) ∧
      (tripOf d ≤ v → d.pwr.tripped = false → Runs (.sensorSample rs) s (fun t =>
        shown t ∧ counted t ∧ t.rbit .pwrStatus 11 = true ∧ t.pwr.tripped = true ∧ t.pwr.top = 6 ∧ t.pwr.flush = 0 ∧
        t.rbits .pwrStatus 31 29 = 6 ∧ (∀ p : PortId, d.inBond p = false → t.portUp p = false) ∧ t.lhpUp 0 = false ∧
        t.lhpUp 1 = false))) ∧
    (let n := mapGet (fun _ => 0) d.pwr.steps x
     let now := sext 16 (d.rbits (.pwrTemp x) 31 16)
     (0 < n → now ≤ limitOf d n - hystOf d → Runs (.thermalStepReverse i) s (fun t =>
       mapGet (fun _ => 0) t.pwr.steps x = n - 1 ∧ t.mem = d.mem ∧
       (x < 64 → (t.rbit .pwrThl1 x = true ↔ 2 ≤ n) ∧ (t.rbit .pwrThl2 x = true ↔ 3 ≤ n) ∧ ClocksRight t))) ∧
     ((n = 0 ∨ limitOf d n - hystOf d < now) → Runs (.thermalStepReverse i) s (fun t => OnlyRegs d t ∧ ∀ r, t.reg r = d.reg r)))
namespace Sys2Proof.Claim

/-! ### Counters, debug and trace -/

/-- Counter set `s` exists and its class is enabled in the window that runs (R414, R420). -/
def Counting (d : Dev) (s : Nat) : Prop := (s < 4096 ∧ s % 8 ≠ 7 ∨ 4096 ≤ s ∧ s < 4203) ∧ bit d.pmcOn (pmcClass s) = true

/-- The shadow of slot `i` of set `s`. -/
def shadowOf (d : Dev) (s i : Nat) : Nat := mapGet (fun _ => 0) d.pmc.shadow (s * 16 + i)

/-- The slots of set `s` whose shadow is LOST, by bit. -/
def lostOf (d : Dev) (s : Nat) : Nat := mapGet (fun _ => 0) d.pmc.lost s

/-- The totals entry after a window's count `v` is added (R418). -/
def addedTotals (old : List Byte) (v : Nat) (gone : Bool) (win : Nat) : List Byte :=
  let total := field old 0 8 + v
  toBytes 8 total ++ toBytes 4 (field old 8 4 + total / 2 ^ 64) ++
  [BitVec.ofNat 8 (if gone then 3 else field old 12 1 % 2)] ++ toBytes 3 win

/-- The write or access comes from outside the contexts. -/
def Outside (p : Path) : Prop := ∀ c x, p ≠ .ctx c x

/-- The result of a DBGACC access: its STATUS and DATA. -/
def AccResult (t : Dev) (status : Nat) (data : W64) : Prop := t.mgc.accStatus = status ∧ t.mgc.accData = data

end Sys2Proof.Claim

/-- Counters: at an edge every enabled counter moves into its shadow and starts again, a window opens with its length and
classes, and a set the hub has not taken holds two windows; the hub takes a set's shadows into the totals, and writes the
window's record; after RESET the next edge discards counts and totals. Debug mode and tracing are set from outside the
contexts, and the fuse forbids debug mode; a context resets counters only with PMC_USER_EN (R414, R416 to R423). -/
def Obligations.CountersAndTracing : Prop :=
  ∀ (path : Path) (core : CoreId) (v : W32) (s : State), s.dev.memWf = true →
    let d := s.dev
    let tbase := d.rbits .pmcTbase 47 4 * 16
    let on := d.rbit .pmcCtl 31
    let quiet := fun (t : Dev) => OnlyRegs d t ∧ ∀ r, t.reg r = d.reg r
    let opened := fun (t : Dev) => t.pmcOn = ((d.reg .pmcCtl) &&& 0x7F#64).setWidth 32 ∧ t.pmc.curStart = d.reg .timNow ∧
      t.pmc.curLen = d.rbits .pmcWin 19 0
    (PathReaches d path .pmcCmd →
      (bits v 3 0 = 1 → Runs (.pmcReset path v) s (fun t => t.pmc = { d.pmc with reset := true } ∧ RegsBut d t IsCounter)) ∧
      (bits v 3 0 ≠ 1 → Runs (.pmcReset path v) s (fun t => t.rbit .pmcStatus 3 = true ∧ OnlyRegs d t ∧
        RegsBut d t (fun a => IsCounter a ∨ a = Reg.pmcStatus.addr)))) ∧
    (on = true → d.pmc.reset = false → Runs .pmcWindowEdge s (fun t =>
      opened t ∧ t.rbit .pmcStatus 31 = true ∧ t.reg .pmcWinno = d.reg .pmcWinno + 1 ∧ t.pmc.win = d.regN .pmcWinno ∧
      t.pmc.start = d.pmc.curStart ∧ t.pmc.len = d.pmc.curLen ∧ t.pmc.first = d.pmc.curFirst ∧ t.pmc.curFirst = false ∧
      t.mem = d.mem ∧ RegsBut d t (fun a => IsCounter a ∨ a = Reg.pmcStatus.addr ∨ a = Reg.pmcWinno.addr) ∧
      (∀ k, k ∈ t.pmc.todo ↔ (k < 4096 ∧ k % 8 ≠ 7 ∨ 4096 ≤ k ∧ k < 4203) ∧ (Counting d k ∨ k ∈ d.pmc.todo)) ∧
      List.Sublist t.pmc.todo ((List.range 107).map (4096 + ·) ++ List.range 4096) ∧ (∀ k, k ∈ t.pmc.merged ↔ Counting d k ∧ k ∈ d.pmc.todo) ∧
      ((∃ k, Counting d k ∧ k ∈ d.pmc.todo) → t.rbit .pmcStatus 1 = true) ∧
      (∀ k i, Counting d k → i < 16 → t.reg (.pmcCnt k i) = 0 ∧
        shadowOf t k i = min (shadowOf d k i + d.regN (.pmcCnt k i)) (2 ^ 32 - 1) ∧
        (lostOf t k / 2 ^ i % 2 = 1 ↔ lostOf d k / 2 ^ i % 2 = 1 ∨ d.rbit (.pmcSetst k) i = true ∨
          2 ^ 32 ≤ shadowOf d k i + d.regN (.pmcCnt k i))) ∧
      (∀ k i, k < 4203 → ¬ Counting d k → i < 16 → t.reg (.pmcCnt k i) = d.reg (.pmcCnt k i) ∧ shadowOf t k i = shadowOf d k i))) ∧
    (on = true → d.pmc.reset = true → Runs .pmcWindowEdge s (fun t =>
      opened t ∧ t.pmc.curFirst = true ∧ t.pmc.reset = false ∧ t.reg .pmcWinno = 0 ∧ t.rbit .pmcStatus 31 = false ∧
      t.pmc.todo = [] ∧ t.pmc.shadow = [] ∧ t.pmc.lost = [] ∧
      (∀ k i, (k < 4096 ∧ k % 8 ≠ 7 ∨ 4096 ≤ k ∧ k < 4203) → i < 16 → ¬ (4122 ≤ k ∧ k < 4130 ∧ i < 3) →
        ¬ (4138 ≤ k ∧ k < 4202 ∧ i = 0) → t.reg (.pmcCnt k i) = 0 ∧ t.rbit (.pmcSetst k) i = false) ∧
      (PlainMemory d tbase 1075968 → RegsBut d t (fun a => IsCounter a ∨ a = Reg.pmcStatus.addr ∨ a = Reg.pmcWinno.addr) ∧
        (∀ b, tbase ≤ b → b < tbase + 1075968 → t.physBytes b 1 = [0]) ∧
        ∀ b, (b < tbase ∨ tbase + 1075968 ≤ b) → t.physBytes b 1 = d.physBytes b 1))) ∧
    (on = false → Runs .pmcWindowEdge s quiet) ∧
    (∀ (k : Nat) (rest : List Nat), d.pmc.todo = k :: rest → k < 4203 → lostOf d k < 2 ^ 16 → (∀ i, shadowOf d k i < 2 ^ 32) → PlainMemory d (tbase + k * 256) 256 →
      Runs .pmcShadowTake s (fun t =>
        t.pmc.todo = rest ∧ lostOf t k = 0 ∧ (lostOf d k ≠ 0 → t.rbit .pmcStatus 0 = true) ∧
        (∀ i, i < 16 →
          let gone := decide (lostOf d k / 2 ^ i % 2 = 1)
          let n := if gone then 2 ^ 32 - 1 else shadowOf d k i
          t.physBytes (tbase + k * 256 + i * 16) 16 = addedTotals (d.physBytes (tbase + k * 256 + i * 16) 16) n gone d.pmc.win ∧
          shadowOf t k i = 0 ∧ mapGet (fun _ => 0) t.pmc.taken (k * 16 + i) = n ∧
          (gone = true → t.rbit (.pmcSetst k) i = false ∧ k * 16 + i ∈ t.pmc.lostTaken)) ∧
        (∀ b, (b < tbase + k * 256 ∨ tbase + k * 256 + 256 ≤ b) → t.physBytes b 1 = d.physBytes b 1) ∧
        RegsBut d t (fun a => IsCounter a ∨ a = Reg.pmcStatus.addr))) ∧
    (let a := d.rbits .pmcRbase 47 9 * 512 + d.regN .pmcRwp % 2 ^ d.rbits .pmcRcfg 4 0 * 512
     let p := d.pmc
     d.rbit .pmcStatus 31 = true → p.todo = [] → PlainMemory d a 512 → Runs .pmcWindowRecord s (fun t =>
      t.physBytes a 24 = toBytes 8 p.win ++ toBytes 8 p.start.toNat ++ toBytes 4 p.len ++
        toBytes 4 ((if p.lostTaken ≠ [] ∨ p.merged ≠ [] then 1 else 0) + (if p.lostTaken ≠ [] then 2 else 0) +
          (if p.merged ≠ [] then 4 else 0) + (if p.first then 8 else 0)) ∧
      (∀ q : PortId, p.lostTaken = [] → p.merged = [] → 0 < p.len → (∀ n, mapGet (fun _ => 0) p.taken n < 2 ^ 32) →
        t.physBytes (a + 64 + 8 * q.val) 8 = toBytes 4 (mapGet (fun _ => 0) p.taken ((4096 + q.val) * 16 + 2) / p.len) ++
          toBytes 4 (mapGet (fun _ => 0) p.taken ((4096 + q.val) * 16 + 3) / p.len)) ∧
      (∀ b, (b < a ∨ a + 512 ≤ b) → t.physBytes b 1 = d.physBytes b 1) ∧ t.reg .pmcRwp = d.reg .pmcRwp + 1 ∧
      t.rbit .pmcStatus 31 = false ∧
      (t.rbit .pmcStatus 2 = true ↔ 2 ^ d.rbits .pmcRcfg 4 0 ≤ (d.reg .pmcRwp - d.reg .pmcRrp).toNat ∨ d.rbit .pmcStatus 2 = true) ∧
      RegsBut d t (fun b => IsCounter b ∨ b = Reg.pmcRwp.addr ∨ b = Reg.pmcStatus.addr))) ∧
    (Outside path → PathReaches d path .dbgCtl →
      (bit v 0 = true → d.rbit .mgcFuse 31 = true → Runs (.dbgCtlWrite path v) s (fun t => t.rbit .dbgStatus 1 = true ∧
        t.reg .dbgCtl = d.reg .dbgCtl ∧ t.rbit .dbgStatus 0 = d.rbit .dbgStatus 0 ∧ OnlyRegs d t)) ∧
      ((bit v 0 = false ∨ d.rbit .mgcFuse 31 = false) → Runs (.dbgCtlWrite path v) s (fun t =>
        t.rbit .dbgCtl 0 = bit v 0 ∧ t.rbit .dbgStatus 0 = bit v 0 ∧ OnlyRegs d t ∧
        RegsBut d t (fun a => IsCounter a ∨ a = Reg.dbgCtl.addr ∨ a = Reg.dbgStatus.addr)))) ∧
    (Outside path → PathReaches d path (.trcCtl core) →
      Runs (.trcCtlWrite path core v) s (fun t => t.regN (.trcCtl core) = (v &&& 0xC0FE00FF#32).toNat ∧ OnlyRegs d t ∧
        (bit v 31 = true → d.rbit (.trcCtl core) 31 = false → t.reg (.trcPtr core) = 0) ∧
        ((bit v 31 = false ∨ d.rbit (.trcCtl core) 31 = true) → t.reg (.trcPtr core) = d.reg (.trcPtr core)) ∧
        RegsBut d t (fun a => IsCounter a ∨ a = (Reg.trcCtl core).addr ∨ a = (Reg.trcPtr core).addr))) ∧
    (∀ (c : CoreId) (x : CtxId), path = .ctx c x →
      (PathReaches d path .dbgCtl → Runs (.dbgCtlWrite path v) s quiet) ∧
      (PathReaches d path (.trcCtl core) → Runs (.trcCtlWrite path core v) s quiet) ∧
      (InWindow (d.ctx c x) 1 Reg.pmcCmd.addr 4 → bit (d.ctx c x).cstatus 9 = false →
        (d.ctx c x).state ≠ 0 → (d.ctx c x).state ≠ 5 →
        Runs (.pmcReset path v) s (fun t => FaultedWith d t c x 3 1 0xFF 1 ∧ t.pmc = d.pmc)))

namespace Sys2Proof.Claim

/-- The 120 bits of DBGACC, bit 0 first: DATA, DPA, CMD, STATUS (16 R425). -/
def accBits (m : Mgc) (status : Nat) : List Bool :=
  (List.range 64).map (fun i => bit m.accData i) ++ (List.range 48).map (fun i => bit m.accDpa i) ++
  (List.range 4).map (fun i => bit m.accCmd i) ++ (List.range 4).map (fun i => status.testBit i)

/-- The four rows that scan DBGACC. -/
def debugScans : List (BitVec 120 → Bool → Instr) :=
  [Instr.dbgaccRead32, Instr.dbgaccWrite32, Instr.dbgaccRead64, Instr.dbgaccWrite64]

end Sys2Proof.Claim

/-- The TAP: the codes its instructions select, any code without an instruction as BYPASS; the boundary-scan register, which
captures the signals' levels and keeps what is shifted in; the bypass register, which captures 0; the ID code that IDCODE
reads (R424; the chain's length is the model's, log 62). -/
def Sys2Proof.Claim.TapScans : Prop :=
  ∀ (levels tdi : List Bool) (code : Byte) (s : State),
    let d := s.dev
    let m := d.mgc
    let tap := fun (t : Dev) (c : Byte) => t = { d with mgc := { m with tapIr := c, bscan := t.mgc.bscan, bypass := t.mgc.bypass }
                                                        outbox := t.outbox, msixPend := t.msixPend, traceQ := t.traceQ }
    (∀ x ∈ [(Instr.tapExtest, (0x00#8)), (.tapSamplePreload, 0x02#8)], Runs (x.1 levels tdi) s (fun t =>
      tap t x.2 ∧ t.mgc.bypass = m.bypass ∧ (tdi = [] → t.mgc.bscan = m.bscan ∧ Sent d t []) ∧
      (tdi ≠ [] → t.mgc.bscan = (levels ++ tdi).drop tdi.length ∧ Sent d t [.tdo ((levels ++ tdi).take tdi.length)]))) ∧
    Runs (.tapBypass code tdi) s (fun t =>
      tap t (if code ∈ [0x00#8, 0x01#8, 0x02#8, 0x20#8] then 0xFF#8 else code) ∧ t.mgc.bscan = m.bscan ∧
      (tdi = [] → t.mgc.bypass = m.bypass ∧ Sent d t []) ∧
      (tdi ≠ [] → some t.mgc.bypass = tdi.getLast? ∧ Sent d t [.tdo ((false :: tdi).take tdi.length)])) ∧
    Runs .tapReset s (fun t => tap t 0x01 ∧ t.mgc.bscan = m.bscan ∧ t.mgc.bypass = m.bypass ∧ Sent d t []) ∧
    Runs .tapIdcode s (fun t => tap t 0x01 ∧ t.mgc.bscan = m.bscan ∧ t.mgc.bypass = m.bypass ∧
      Sent d t [.data .jtag (toBytes 4 (1 * 2 ^ 28 + 0x0A51 * 2 ^ 12 + d.rbits .mgcMfr 26 16 * 2 + 1))])

/-- DBGACC: a scan gives the result of the most recent access, or running, and then ignores what is shifted in; CMD 0 starts
none, CMD 1 to 4 read and write 32 and 64 bits of memory and registers, another CMD is an error; the fuse refuses every
access; a misaligned or unmapped one, or a read that meets bad parity, ends in an error (R425; that an access takes effect
where it starts is the model's, log 62). -/
def Sys2Proof.Claim.DebugAccess : Prop :=
  ∀ (dr : BitVec 120) (busy : Bool) (row : BitVec 120 → Bool → Instr) (s : State), s.dev.memWf = true → row ∈ debugScans →
    let d := s.dev
    let m := d.mgc
    let cmd := bits dr 115 112
    let n := bits dr 111 64
    let w := bits dr 31 0
    let v := bits dr 63 0
    let fuse := d.rbit .mgcFuse 31
    let idle := fun (t : Dev) => MemorySame d t ∧ RegsBut d t IsCounter
    (busy = true → m.accRun = true → Runs (row dr busy) s (fun t => Sent d t [.tdo (accBits m 1)] ∧
      t = { d with mgc := { m with tapIr := 0x20 }, outbox := t.outbox, msixPend := t.msixPend, traceQ := t.traceQ })) ∧
    ((busy = false ∨ m.accRun = false) →
      (cmd = 0 → Runs (row dr busy) s (fun t => Sent d t [.tdo (accBits m m.accStatus)] ∧
        t = { d with mgc := { m with tapIr := 0x20, accCmd := 0, accDpa := BitVec.ofNat 48 n, accRun := false }
                     outbox := t.outbox, msixPend := t.msixPend, traceQ := t.traceQ })) ∧
      (cmd ≠ 0 → Runs (row dr busy) s (fun t =>
        t.mgc.tapIr = 0x20 ∧ t.mgc.accCmd.toNat = cmd ∧ t.mgc.accDpa.toNat = n ∧ t.mgc.accRun = true ∧
        d.outbox ++ [.tdo (accBits m m.accStatus)] <+: t.outbox ∧
        (fuse = true → t.mgc.accStatus = 3 ∧ idle t) ∧
        (fuse = false →
          (4 < cmd → AccResult t 2 0 ∧ idle t) ∧
          (cmd = 1 → (n % 4 ≠ 0 → AccResult t 2 0 ∧ idle t) ∧
            (n % 4 = 0 → PlainMemory d n 4 → (d.badAt n 4 = false →
                AccResult t 0 (BitVec.ofNat 64 (ofBytes (d.physBytes n 4))) ∧ idle t) ∧
              (d.badAt n 4 = true → AccResult t 2 0)) ∧
            (n = Reg.timTerrsw.addr → AccResult t 0 (BitVec.ofNat 64 (d.regN .timTerrsw % 2 ^ 32)) ∧ idle t)) ∧
          (cmd = 2 → (n % 4 ≠ 0 → AccResult t 2 (BitVec.ofNat 64 w) ∧ idle t) ∧
            (n % 4 = 0 → PlainMemory d n 4 → AccResult t 0 (BitVec.ofNat 64 w) ∧ t.physBytes n 4 = toBytes 4 w ∧
              (∀ b, (b < n ∨ n + 4 ≤ b) → t.physBytes b 1 = d.physBytes b 1) ∧ RegsBut d t IsCounter) ∧
            (n = Reg.timTerrsw.addr → AccResult t 0 (BitVec.ofNat 64 w) ∧ t.rbits .timTerrsw 31 0 = w ∧
              MemorySame d t ∧ RegsBut d t (fun b => IsCounter b ∨ b = Reg.timTerrsw.addr))) ∧
          (cmd = 3 → ((n % 8 ≠ 0 ∨ isRegSpace n = false ∧ d.memOk n 8 = false) → AccResult t 2 0 ∧ idle t) ∧
            (n % 8 = 0 → PlainMemory d n 8 → d.badAt n 8 = false →
              AccResult t 0 (BitVec.ofNat 64 (ofBytes (d.physBytes n 8))) ∧ idle t)) ∧
          (cmd = 4 → ((n % 8 ≠ 0 ∨ isRegSpace n = false ∧ d.memOk n 8 = false) → AccResult t 2 (BitVec.ofNat 64 v) ∧ idle t) ∧
            (n % 8 = 0 → PlainMemory d n 8 → AccResult t 0 (BitVec.ofNat 64 v) ∧ t.physBytes n 8 = toBytes 8 v ∧
              (∀ b, (b < n ∨ n + 8 ≤ b) → t.physBytes b 1 = d.physBytes b 1) ∧ RegsBut d t IsCounter))))))

/-- The TAP's instructions and data registers, and the debug access register (R424, R425). -/
def Obligations.TapReachesEverything : Prop := Claim.TapScans ∧ Claim.DebugAccess

namespace Sys2Proof.Claim

/-! ### The management island -/

/-- A register that holds a fuse: MGC_MFR, MGC_SERIAL, MGC_FUSE and MGC_KEYHASH (18 Table 18.2). -/
def HoldsFuse (r : Reg) : Prop :=
  r.addr = Reg.mgcMfr.addr ∨ r.addr = Reg.mgcSerial.addr ∨ r.addr = Reg.mgcFuse.addr ∨
  ((Reg.mgcKeyhash 0).addr ≤ r.addr ∧ r.addr ≤ (Reg.mgcKeyhash 47).addr)

/-- The fused digest that key slot `k` holds. -/
def fusedDigest (d : Dev) (k : Nat) : List Byte := (List.range 12).flatMap (fun i => toBytes 4 (d.regN (.mgcKeyhash (12 * k + i))))

/-- Check `k` of Table 17.7 on an image: magic, form, key, signature, body digest, version, entry flag. -/
def Passes (d : Dev) (img : List Byte) (k : Nat) : Prop :=
  let len := field img 12 4
  let slot := field img 7 1
  let key := sliceBytes img 112 96
  match k with
  | 1 => field img 0 4 = 0x31534B57
  | 2 => field img 4 2 = 1 ∧ field img 6 1 = 1 ∧ len % 64 = 0 ∧ 64 ≤ len ∧ len ≤ 491520 ∧ field img 16 4 < len ∧
    (∀ b ∈ sliceBytes img 24 40, b = 0) ∧ ∀ b ∈ sliceBytes img 304 208, b = 0
  | 3 => slot < 4 ∧ d.rbit .mgcFuse (24 + slot) = false ∧ Config.sha384 key = fusedDigest d slot
  | 4 => Config.ecdsaVerify key (sliceBytes img 208 96) (Config.sha384 (sliceBytes img 0 208)) = true
  | 5 => Config.sha384 (sliceBytes img 512 len) = sliceBytes img 64 48
  | 6 => d.rbits .mgcFuse 5 0 ≤ field img 8 4
  | _ => field img 20 4 / 2 % 2 = 1

/-- An image that passes every check. -/
def Genuine (d : Dev) (img : List Byte) : Prop := ∀ k, 1 ≤ k → k ≤ 7 → Passes d img k

/-- An image whose first failing check is `k`. -/
def FirstFails (d : Dev) (img : List Byte) (k : Nat) : Prop :=
  1 ≤ k ∧ k ≤ 7 ∧ (∀ j, 1 ≤ j → j < k → Passes d img j) ∧ ¬ Passes d img k

/-- Boot has failed: FAIL without READY, the stage and the code. -/
def BootFailed (t : Dev) (stage code : Nat) : Prop :=
  t.rbit .mgcBootst 30 = true ∧ t.rbits .mgcBootst 27 24 = stage ∧ t.rbits .mgcBootst 23 16 = code ∧ t.mgc.waiting = false

/-- A sensor that shows less than -40 C (15 R410). -/
def Cold (d : Dev) : Prop := ∃ i, i < 111 ∧ (BitVec.ofNat 16 (d.rbits (.pwrTemp i) 31 16)).toInt < -320

/-- A FWSTAGE command runs and its image is being written to the copy that is not preferred (17 R435, R450). -/
def Staging (d : Dev) : Prop :=
  ∃ m : Fin 2, d.rbit (.mbxStat m) 31 = true ∧ d.rbits (.mbxStat m) 7 0 = 3 ∧
    512 ≤ d.rbits (.mbxArg m 0) 31 0 ∧ d.rbits (.mbxArg m 0) 31 0 ≤ 0x80000 ∧
    Genuine d (d.physBytes 0xFF00080000 (d.rbits (.mbxArg m 0) 31 0)) ∧ d.mgc.spiFitted = true ∧
    d.mgc.copy ≠ 1 - d.mgc.preferred

/-- Copy `k` has been left invalid by a power-on reset during a staging write (17 R435). -/
def Broken (d : Dev) (k : Nat) : Prop := Staging d ∧ k = 1 - d.mgc.preferred ∨ ¬ Staging d ∧ d.mgc.torn = some k

/-- Boot has ended: READY with the source, every die released, the stacks initialised, the host port as the strap says, each
VDD_CL requested for its die's clocks, the slot maps, the Tj counters and the repairs from the repair record sector `k`. -/
def Booted (d t : Dev) (src : Nat) (img : List Byte) (hostPort : Bool) (k : Nat) : Prop :=
  let r := d.spiBytes (0x100000 + k * 0x10000) 0x218
  t.rbit .mgcBootst 31 = true ∧ t.rbits .mgcBootst 29 28 = src ∧ t.rbits .mgcBootst 27 24 = 5 ∧ t.rbits .mgcBootst 23 16 = 0 ∧
  (∀ n, n < 4 → t.dieUp n = true) ∧ (∀ n, n < 8 → t.rbit (.stkInit n) 0 = true) ∧ t.mgc.hostUp = hostPort ∧
  t.mgc.waiting = false ∧ t.mgc.limited = false ∧ ClocksRight t ∧ t.mgc.repairs = d.rrRepairs k ∧ t.mgc.svn = field img 8 4 ∧ t.mgc.copy = src ∧ t.regN .pwrTjacc = field r 8 8 ∧
  t.regN .pwrTjtime = field r 16 8 ∧ ∀ c, c < 64 → t.regN (.slotmap c) = field r (24 + 8 * c) 8

/-- The command of mailbox `m` has ended with a result: DONE, RESULT, the OP; GO reads 0. -/
def Answered (t : Dev) (m op res : Nat) : Prop :=
  t.regN (.mbxStat m) = 2 ^ 30 + res * 2 ^ 8 + op ∧ t.rbit (.mbxCmd m) 31 = false

end Sys2Proof.Claim

/-- Power-on and boot: while POR_N is low every register but the fuses is at its reset value and memory is zero, and a copy that a
staging was writing is invalid; the straps choose the source; an image boots the device exactly if it passes the checks of Table
17.7, the preferred SPI copy first, then the other, then the host; MGC_BOOTST names the failing check, or the SPI error; the dies
are released once no sensor shows less than -40 C, and not at all where a supply pin was low when POR_N rose. The host port's
reset returns its block to reset (R433, R435 to R441, R445, R456; 15 R401, R410). Where a part's SPI NOR holds no valid record,
and what a second failing copy and a copy left invalid show, follow log entry 36. -/
def Obligations.PowerOnBootsTheDevice : Prop :=
  ∀ (straps v : W32) (x : Supply) (temps : List W16) (spiErr : BitVec 3) (path : Path) (s : State),
    let d := s.dev
    let p := d.mgc.preferred
    let src := bits straps 1 0
    let image := fun (k : Nat) => d.spiBytes (k * 0x80000) 0x80000
    let good := fun (k : Nat) => bit spiErr k = false ∧ ¬ Broken d k ∧ Genuine d (image k)
    let up := Instr.powerOnReset straps x temps spiErr
    let bare := fun (t : Dev) => t.cores = [] ∧ t.mem = [] ∧ t.heldWrites = [] ∧ t.latches = [] ∧ t.regN .mgcStrap = bits straps 5 0 ∧
      ∀ r, HoldsFuse r → r.addr ≠ Reg.mgcFuse.addr → t.reg r = d.reg r
    let hostWaits := fun (t : Dev) => t.mgc.waiting = true ∧ t.mgc.hostUp = true ∧ t.mgc.limited = true ∧ t.rbit .mgcBootst 31 = false ∧
      t.rbit .mgcBootst 30 = false ∧ t.rbits .mgcBootst 29 28 = 2 ∧ t.rbits .mgcBootst 27 24 = 1 ∧ bare t
    let stays := fun (t : Dev) => t = { d with outbox := t.outbox, msixPend := t.msixPend, traceQ := t.traceQ }
    let pushed := d.physBytes 0xFF00080000 (bits v 19 0)
    let supplied := x.warnLow = false ∧ x.failLow = false ∧ ∀ n, n < 30 → railAfter State.reset.dev x n = 0
    let warm := ∀ i, i < 111 → ∀ r, temps[i]? = some r → -320 ≤ r.toInt
    Runs .porLow s (fun t =>
      t = { regs := t.regs, mgc := { spi := d.mgc.spi, spiFitted := d.mgc.spiFitted, preferred := p, torn := t.mgc.torn }, outbox := t.outbox,
            msixPend := t.msixPend, freeCtr := d.freeCtr } ∧
      (Staging d → t.mgc.torn = some (1 - p)) ∧ (¬ Staging d → t.mgc.torn = d.mgc.torn) ∧
      ∀ r, (HoldsFuse r → t.reg r = d.reg r) ∧ (¬ HoldsFuse r → t.reg r = State.reset.dev.reg r)) ∧
    (railAfter State.reset.dev x 29 = 3 → Runs up s (fun t => ∃ q, exec .porLow s = .next q ∧ t = q.dev)) ∧
    (railAfter State.reset.dev x 29 < 3 → (x.warnLow = true ∨ x.failLow = true) → Runs up s (fun t =>
      t.rbit .pwrStatus 7 = true ∧ ∀ n, n < 4 → t.dieUp n = false)) ∧
    (supplied →
      (src = 3 ∨ (src ≠ 0 ∧ bit straps 5 = false) → Runs up s (fun t => BootFailed t 0 10 ∧ bare t)) ∧
      (src = 1 → bit straps 5 = true → Runs up s hostWaits) ∧
      (src = 0 ∨ (src = 2 ∧ bit straps 5 = true) → p < 2 → d.mgc.spiFitted = true →
        (∀ k, (k = p ∧ good p ∨ k = 1 - p ∧ good k ∧ ¬ good p) →
          (bit spiErr 2 = true → Runs up s (fun t => BootFailed t 3 8 ∧ bare t)) ∧
          (bit spiErr 2 = false →
            (∀ n, d.rrSector = some n → (warm → Runs up s (fun t => Booted d t k (image k) (bit straps 5) n ∧ bare t)) ∧
              (¬ warm → Runs up s (fun t => t.mgc.coldWait = true ∧ t.rbit .mgcBootst 31 = false ∧
                t.rbits .mgcBootst 27 24 = 4 ∧ (∀ n, n < 4 → t.dieUp n = false) ∧ bare t))) ∧
            (d.rrSector = none → d.rbit .mgcFuse 6 = true → Runs up s (fun t => BootFailed t 3 12 ∧ bare t)) ∧
            ((∀ e ∈ d.mgc.spi, e.1 < 0x100000 ∨ 0x120000 ≤ e.1) → d.rrSector = none → d.rbit .mgcFuse 6 = false → warm →
              Runs up s (fun t => t.rbit .mgcBootst 31 = true ∧ t.rbit .mgcFuse 6 = true ∧ bare t)))) ∧
        (¬ good p → ¬ good (1 - p) →
          (src = 2 → Runs up s hostWaits) ∧
          (src = 0 → Runs up s (fun t => ∃ c, BootFailed t 2 c ∧ t.rbits .mgcBootst 29 28 = 1 - p ∧ bare t ∧
            (bit spiErr (1 - p) = true → c = 8) ∧ (bit spiErr (1 - p) = false → Broken d (1 - p) → 1 ≤ c ∧ c ≤ 7) ∧
            (bit spiErr (1 - p) = false → ¬ Broken d (1 - p) → FirstFails d (image (1 - p)) c))))) ∧
      (src = 0 → p < 2 → d.mgc.spiFitted = false → Runs up s (fun t => BootFailed t 2 11 ∧ bare t))) ∧
    (d.mgc.waiting = true →
      (PathReaches d path .mgcBootcmd →
        (∀ n, Genuine d pushed → d.rrSector = some n → d.mgc.spiFitted = true → bit d.mgc.spiErr 2 = false → d.mgc.dark = false → ¬ Cold d →
          Runs (.mgcBootcmd path v) s (fun t => Booted d t 2 pushed (d.rbit .mgcStrap 5) n ∧ t.cores = d.cores ∧ t.mem = d.mem)) ∧
        (∀ c, FirstFails d pushed c → Runs (.mgcBootcmd path v) s (fun t => BootFailed t 2 c ∧ t.mem = d.mem ∧
          RegsBut d t (fun a => IsCounter a ∨ a = Reg.mgcBootst.addr)))) ∧
      Runs .hostBootTimeout s (fun t => BootFailed t 1 9 ∧ t.mgc.hostUp = d.mgc.hostUp ∧ t.mgc.limited = d.mgc.limited ∧ t.mem = d.mem ∧
        RegsBut d t (fun a => a = Reg.mgcBootst.addr))) ∧
    (d.mgc.coldWait = true → d.mgc.dark = false → 111 ≤ temps.length → warm → Runs (.sensorSample temps) s (fun t =>
      t.rbit .mgcBootst 31 = true ∧ t.rbits .mgcBootst 27 24 = 5 ∧ t.mgc.coldWait = false ∧ t.mgc.hostUp = d.rbit .mgcStrap 5 ∧
      ∀ n, n < 4 → t.dieUp n = true)) ∧
    (d.mgc.waiting = false → (PathReaches d path .mgcBootcmd → Runs (.mgcBootcmd path v) s (fun t => OnlyRegs d t ∧ RegsBut d t IsCounter)) ∧
      Runs .hostBootTimeout s stays) ∧
    Runs .hostPortReset s (fun t =>
      t = { d with regs := t.regs, bdp := [], msixOpen := [], msixPend := t.msixPend, traceQ := t.traceQ, latches := t.latches,
                   heldWrites := t.heldWrites, outbox := t.outbox } ∧
      (∀ n, n < 9 → mapGet (fun _ => none) t.latches n = none ∧ mapGet (fun _ => none) t.heldWrites n = none) ∧
      ∀ r, (0xFF00800000 ≤ r.addr ∧ r.addr < 0xFF00900000 → t.reg r = State.reset.dev.reg r) ∧
        (r.addr < 0xFF00800000 ∨ 0xFF00900000 ≤ r.addr → t.reg r = d.reg r))

/-- The SMBus port's pointer, accesses and status, and the mailbox commands, with their results and their effects on SPI NOR
and the fuses (R448 to R450). -/
def Obligations.MailboxesAndSmbusAnswer : Prop :=
  ∀ (box : Fin 2) (a : W48) (v : W32) (s : State),
    let d := s.dev
    let m := box.val
    let ptr := d.mgc.smbPtr
    let op := fun (n : Nat) => d.rbit (.mbxStat m) 31 = true ∧ d.rbits (.mbxStat m) 7 0 = n
    let arg := d.regN (.mbxArg m 0) % 2 ^ 32
    let mine := fun (b : Nat) => b = (Reg.mbxStat m).addr ∨ b = (Reg.mbxCmd m).addr
    let ends := fun (t : Dev) (n res : Nat) => Answered t m n res ∧ RegsBut d t mine ∧ t.mgc = d.mgc ∧ t.mem = d.mem
    let other := 1 - d.mgc.preferred
    let buffer := d.physBytes 0xFF00080000 arg
    Runs (.smbAddr a) s (fun t => t = { d with mgc := { d.mgc with smbPtr := a }, outbox := t.outbox, msixPend := t.msixPend, traceQ := t.traceQ }) ∧
    (ptr.toNat < 0xFF00000000 ∨ ptr.toNat % 4 ≠ 0 → Runs .smbRead32 s (fun t => Sent d t [.data .smbus [0xFF, 0xFF, 0xFF, 0xFF]] ∧
        t.mgc = { d.mgc with smbErr := true } ∧ RegsBut d t (fun _ => False) ∧ t.mem = d.mem) ∧
      Runs (.smbWrite32 v) s (fun t => t.mgc = { d.mgc with smbErr := true } ∧ RegsBut d t (fun _ => False) ∧ t.mem = d.mem)) ∧
    (ptr.toNat = Reg.mgcId.addr → Runs .smbRead32 s (fun t => Sent d t [.data .smbus (toBytes 4 (d.regN .mgcId % 2 ^ 32))] ∧
      t.mgc = { d.mgc with smbPtr := ptr + 4 } ∧ RegsBut d t (fun _ => False) ∧ t.mem = d.mem)) ∧
    (ptr.toNat = Reg.timTerrsw.addr → Runs (.smbWrite32 v) s (fun t => t.rbits .timTerrsw 31 0 = v.toNat ∧
      t.mgc = { d.mgc with smbPtr := ptr + 4 } ∧ RegsBut d t (fun b => b = Reg.timTerrsw.addr) ∧ t.mem = d.mem)) ∧
    Runs .smbStatus s (fun t => t.mgc = { d.mgc with smbErr := false } ∧ t.regs = d.regs ∧ t.mem = d.mem ∧
      Sent d t [.data .smbus [BitVec.ofNat 8 ((if d.rbit .mgcBootst 31 then 1 else 0) + (if d.rbit .mgcBootst 30 then 2 else 0) +
        (if d.mgc.smbErr then 4 else 0))]]) ∧
    (op 1 → Runs (.mbxInfo box) s (fun t => Answered t m 1 0 ∧ t.reg (.mbxArg m 0) = d.reg .mgcId ∧
      t.reg (.mbxArg m 1) = d.reg .mgcBootst ∧ t.regN (.mbxArg m 2) = d.rbits .mgcSerial 31 0 ∧
      t.regN (.mbxArg m 3) = d.rbits .mgcSerial 63 32 ∧ OnlyRegs d t ∧
      RegsBut d t (fun b => mine b ∨ ∃ i, i < 4 ∧ b = (Reg.mbxArg m i).addr))) ∧
    (op 2 → (0x10000 < arg + 64 → Runs (.mbxRrread box) s (fun t => ends t 2 2)) ∧
      (∀ n, arg + 64 ≤ 0x10000 → d.rrSector = some n → Runs (.mbxRrread box) s (fun t => Answered t m 2 0 ∧ OnlyRegs d t ∧
        (∀ i, i < 16 → t.regN (.mbxData m i) = field (d.spiBytes (0x100000 + n * 0x10000 + arg) 64) (4 * i) 4) ∧
        RegsBut d t (fun b => mine b ∨ ∃ i, i < 16 ∧ b = (Reg.mbxData m i).addr)))) ∧
    (op 3 → (arg < 512 ∨ 0x80000 < arg → Runs (.mbxFwstage box) s (fun t => ends t 3 2)) ∧
      (512 ≤ arg → arg ≤ 0x80000 →
        (¬ Genuine d buffer → Runs (.mbxFwstage box) s (fun t => ends t 3 4)) ∧
        (Genuine d buffer → d.mgc.spiFitted = false → Runs (.mbxFwstage box) s (fun t => ends t 3 5)) ∧
        (Genuine d buffer → d.mgc.spiFitted = true → d.mgc.copy ≠ other → Runs (.mbxFwstage box) s (fun t =>
          Answered t m 3 0 ∧ RegsBut d t mine ∧ t.mem = d.mem ∧
          t.mgc = { (d.spiWrite (other * 0x80000) (buffer ++ List.replicate (0x80000 - arg) 0xFF)).mgc with torn := none }) ∧
        (Genuine d buffer → d.mgc.spiFitted = true → d.mgc.copy = other → Runs (.mbxFwstage box) s (fun t => ends t 3 5))))) ∧
    (op 4 → (1 < arg → Runs (.mbxFwselect box) s (fun t => ends t 4 2)) ∧
      (arg ≤ 1 → d.mgc.spiFitted = false → Runs (.mbxFwselect box) s (fun t => ends t 4 5)) ∧
      (arg ≤ 1 → d.mgc.spiFitted = true → (d.mgc.torn = some arg ∨ ¬ Genuine d (d.spiBytes (arg * 0x80000) 0x80000)) →
        Runs (.mbxFwselect box) s (fun t => ends t 4 4)) ∧
      (arg ≤ 1 → d.mgc.spiFitted = true → d.mgc.torn ≠ some arg → Genuine d (d.spiBytes (arg * 0x80000) 0x80000) → Runs (.mbxFwselect box) s (fun t =>
        Answered t m 4 0 ∧ RegsBut d t mine ∧ t.mgc = { d.mgc with preferred := arg }))) ∧
    (op 5 → Runs (.mbxSvnlock box) s (fun t => Answered t m 5 0 ∧ t.rbits .mgcFuse 5 0 = max (d.rbits .mgcFuse 5 0) (min 63 d.mgc.svn) ∧ OnlyRegs d t ∧
      RegsBut d t (fun b => mine b ∨ b = Reg.mgcFuse.addr)))
namespace Sys2Proof.Claim

/-! ### Register access -/

/-- The DPA of a register as an operand. -/
def dpa (r : Reg) : W48 := BitVec.ofNat 48 r.addr

/-- An access to the register arrives: the path is open, nothing on it stops a read or a write of the register or of its upper
word, and the register's die is out of reset. -/
def Arrives (d : Dev) (path : Path) (r : Reg) : Prop :=
  d.pathReach path r.addr = true ∧ d.regReach r.addr = true ∧
  ∀ perm o n, perm ≤ 1 → o ≤ 4 → n ≤ 8 → d.pathStop path perm (r.addr + o) n = none

/-- 64-bit registers whose every bit is RW, with no effect of their own. -/
def wideRegs : List Reg := [.fltCmdarg, .fltCmdarg2, .fltLogrp, .pwrModestep, .pmcRrp, .chrStep, .lulMlrp]

/-- 32-bit registers with RW fields, and those fields. -/
def rwRegs : List (Reg × W32) :=
  [(.mgcSmbalert, 0xFF), (.pwrInten, 0xFF0), (.fltHosten, 0xFF), (.fltMgcen, 0xFF), (.fltWdcfg, 0xFFFFFF01), (.fltRepcfg, 0x7),
   (.fltRepthr, 0xFFFFFFFF), (.fltLogcfg, 0x1F), (.snpInten, 0xFFF0), (.chrInten, 0xFC), (.pmcRcfg, 0x1F), (.timTerrsw, 0xFFFFFFFF),
   (.lulInten, 0x3FF), (.arbInten, 0x7), (.trcSel, 0x1FF)]

/-- 32-bit registers with W1C fields, and those fields. -/
def w1cRegs : List (Reg × W32) :=
  [(.pwrStatus, 0xFF1), (.fltStatus, 0xFF0), (.chrStatus, 0xFC), (.pmcStatus, 0xF), (.lulStatus, 0x3FF), (.timStatus, 0x7),
   (.dbgStatus, 0x2), (.snpStatus, 0xFFF0), (.fabStatus, 0x7000000)]

/-- 32-bit registers with RO fields alone. -/
def roRegs : List Reg := [.mgcId, .mgcMfr, .mgcStrap, .fltDumpst, .fltBusyrec, .fltDvsel, .snpIval, .snpSpused]

/-- Registers of RC fields, and those fields. -/
def rcRegs (p : PortId) (k : Fin 8) (l : LhpId) (c : CoreId) : List (Reg × W64) :=
  [(.fltLoglost, 0xFFFFFFFF), (.snpSdccnt, 0xFFFFFFFF), (.portRetry p, 0xFFFFFFFF), (.lhpRxdrop l, 0xFFFFFFFF),
   (.lhpCrcerr l, 0xFFFFFFFF), (.stkEcc k, 0xFFFFFFFF), (.cdcCrcerr k, 0xFFFFFFFF), (.gseOobcnt c, 0xFFFFFFFF),
   (.arbMaxage k, 0xFFFFF), (.pwrTemp k, 0xFFFF), (.pwrRail k, 0xFFFF)]

/-- The read latch, and the held write, of a path. -/
def latchOf (d : Dev) (p : Path) : Option (Nat × W32) := mapGet (fun _ => none) d.latches (pathNo p)

/-- The held write of a path. -/
def heldOf (d : Dev) (p : Path) : Option (Nat × W32) := mapGet (fun _ => none) d.heldWrites (pathNo p)

/-- What an access changes beside the register: counters, the latches, and what goes out. -/
def AccessOnly (d t : Dev) : Prop :=
  t = { d with regs := t.regs, latches := t.latches, heldWrites := t.heldWrites, outbox := t.outbox, msixPend := t.msixPend, traceQ := t.traceQ }

end Sys2Proof.Claim

/-- The latch and the held word of a path: a read of the lower word latches the upper; a read of the upper returns and frees
a latch of that register, else the live word; a write of the lower word is held and changes nothing; a write of the upper word
writes all 64 bits with a word held for that register, else bits [63:32] alone. Other paths keep theirs (R5, R453). -/
def Obligations.LatchesAndHeldWords : Prop :=
  ∀ (path : Path) (v : W32) (s : State), ∀ r ∈ wideRegs, Arrives s.dev path r →
    let d := s.dev
    let lower := (d.reg r).setWidth 32
    let upper := (d.reg r >>> 32).setWidth 32
    let high := dpa r + 4
    let still := fun (t : Dev) => RegsBut d t IsCounter ∧ AccessOnly d t
    let others := fun (t : Dev) => ∀ q : Path, q ≠ path → latchOf t q = latchOf d q ∧ heldOf t q = heldOf d q
    let wrote := fun (t : Dev) => RegsBut d t (fun a => a = r.addr ∨ IsCounter a) ∧ AccessOnly d t ∧ latchOf t path = latchOf d path
    Runs (.wordLatchRead path (dpa r)) s (fun t => Sent d t [.data path (toBytes 4 lower.toNat)] ∧
      latchOf t path = some (r.addr, upper) ∧ heldOf t path = heldOf d path ∧ others t ∧ still t) ∧
    (∀ w, latchOf d path = some (r.addr, w) → Runs (.wordLatchRead path high) s (fun t =>
      Sent d t [.data path (toBytes 4 w.toNat)] ∧ latchOf t path = none ∧ heldOf t path = heldOf d path ∧ others t ∧ still t)) ∧
    ((∀ w, latchOf d path ≠ some (r.addr, w)) → Runs (.wordLatchRead path high) s (fun t =>
      Sent d t [.data path (toBytes 4 upper.toNat)] ∧ latchOf t path = latchOf d path ∧ heldOf t path = heldOf d path ∧
      others t ∧ still t)) ∧
    Runs (.wordHeldWrite path (dpa r) v) s (fun t =>
      heldOf t path = some (r.addr, v) ∧ latchOf t path = latchOf d path ∧ others t ∧ still t) ∧
    (∀ w, heldOf d path = some (r.addr, w) → Runs (.wordHeldWrite path high v) s (fun t =>
      t.reg r = (v ++ w : BitVec 64) ∧ heldOf t path = none ∧ others t ∧ wrote t)) ∧
    ((∀ w, heldOf d path ≠ some (r.addr, w)) → Runs (.wordHeldWrite path high v) s (fun t =>
      t.reg r = (v ++ lower : BitVec 64) ∧ heldOf t path = heldOf d path ∧ others t ∧ wrote t))

/-- Register accesses: the access types decide what a write leaves; a read of an RC field returns it and clears it; an unassigned
offset reads 0 and ignores a write; a misaligned access and one to a die in reset are address errors, which clear nothing
and which the host's first records (R6, R7, R18, R444, R455, R457). -/
def Obligations.AccessTypesRule : Prop :=
  ∀ (path : Path) (v : W64) (a : W48) (p : PortId) (k : Fin 8) (l : LhpId) (c : CoreId) (s : State),
    let d := s.dev
    let w : W32 := v.setWidth 32
    let put := fun (r : Reg) (wide : Bool) (P : Dev → Prop) => Arrives d path r → Runs (.registerWrite path (dpa r) wide v) s (fun t =>
      P t ∧ RegsBut d t (fun b => b = r.addr ∨ IsCounter b) ∧ AccessOnly d t)
    let still := fun (t : Dev) => RegsBut d t IsCounter ∧ AccessOnly d t
    let errs := fun (t : Dev) => RegsBut d t (fun b => b = Reg.hstBar0err.addr ∨ IsCounter b) ∧ AccessOnly d t ∧
      t.reg .hstBar0err = (if d.rbit .hstBar0err 63 then d.reg .hstBar0err else BitVec.ofNat 64 (2 ^ 63 + a.toNat))
    (∀ x ∈ rwRegs, put x.1 false (fun t =>
      t.reg x.1 = ((d.reg x.1 &&& ~~~ (x.2.setWidth 64)) ||| ((w &&& x.2).setWidth 64)))) ∧
    (∀ x ∈ w1cRegs, put x.1 false (fun t => t.reg x.1 = (d.reg x.1 &&& ~~~ ((w &&& x.2).setWidth 64)))) ∧
    (∀ r ∈ roRegs, put r false (fun t => t.reg r = d.reg r)) ∧
    put .chrVote false (fun t => t.reg .chrVote = d.reg .chrVote ||| (v &&& 3)) ∧
    (∀ r ∈ wideRegs, put r true (fun t => t.reg r = v)) ∧
    (∀ x ∈ rcRegs p k l c, Arrives d path x.1 → Runs (.rcRead path (dpa x.1) false) s (fun t =>
      Sent d t [.data path (toBytes 4 (d.regN x.1 % 2 ^ 32))] ∧ t.reg x.1 = (d.reg x.1 &&& ~~~ x.2) ∧
      RegsBut d t (fun b => b = x.1.addr ∨ IsCounter b) ∧ AccessOnly d t)) ∧
    (d.pathReach path 0xFF00000028 = true → (∀ perm, perm ≤ 1 → d.pathStop path perm 0xFF00000028 4 = none) → Runs (.rcRead path 0xFF00000028 false) s (fun t =>
        Sent d t [.data path [0, 0, 0, 0]] ∧ still t) ∧
      Runs (.registerWrite path 0xFF00000028 false v) s still) ∧
    (d.mgc.hostUp = true → d.mgc.limited = false → d.dieUp 0 = true → 0xFF00000000 ≤ a.toNat → a.toNat < 0xFF04000000 →
      a.toNat % 4 ≠ 0 ∨ (∃ n, dieLocal a.toNat = some n ∧ d.dieUp n = false) →
      Runs (.rcRead .host a false) s (fun t => Sent d t [.data .host [0xFF, 0xFF, 0xFF, 0xFF]] ∧ errs t) ∧
      Runs (.registerWrite .host a false v) s errs) ∧
    (d.mgc.hostUp = false → Runs (.rcRead .host a false) s (fun t => t = { d with outbox := t.outbox, msixPend := t.msixPend, traceQ := t.traceQ }) ∧
      Runs (.registerWrite .host a false v) s (fun t => t = { d with outbox := t.outbox, msixPend := t.msixPend, traceQ := t.traceQ }))
end

