-- ==== Sys2Proof/Laws/Sparse.lean ====
section
/-! SUPPORT. Laws of the finite maps: reading after writing, and the canonical form kept by every operation. -/

namespace Sys2Proof.Machine

variable {α : Type} {d : Nat → α}

theorem mapGet_mapErase_same (m : List (Nat × α)) (k : Nat) : mapGet d (mapErase m k) k = d k := by
  induction m with
  | nil => rfl
  | cons e m ih =>
    obtain ⟨j, w⟩ := e
    by_cases h : j = k <;> simp [mapErase, mapGet, h, ih]

theorem mapGet_mapErase_other (m : List (Nat × α)) {j k : Nat} (h : j ≠ k) :
    mapGet d (mapErase m k) j = mapGet d m j := by
  induction m with
  | nil => rfl
  | cons e m ih =>
    obtain ⟨i, w⟩ := e
    by_cases hi : i = k
    · subst hi
      simp [mapErase, mapGet, ih, Ne.symm h]
    · by_cases hj : i = j
      · subst hj
        simp [mapErase, mapGet, hi]
      · simp [mapErase, mapGet, hi, hj, ih]

theorem mapGet_mapInsert_same (m : List (Nat × α)) (k : Nat) (v : α) : mapGet d (mapInsert m k v) k = v := by
  induction m with
  | nil => simp [mapInsert, mapGet]
  | cons e m ih =>
    obtain ⟨i, w⟩ := e
    by_cases hi : i = k
    · simp [mapInsert, mapGet, hi]
    · by_cases hk : k < i <;> simp [mapInsert, mapGet, hi, hk, ih]

theorem mapGet_mapInsert_other (m : List (Nat × α)) {j k : Nat} (v : α) (h : j ≠ k) :
    mapGet d (mapInsert m k v) j = mapGet d m j := by
  induction m with
  | nil => simp [mapInsert, mapGet, Ne.symm h]
  | cons e m ih =>
    obtain ⟨i, w⟩ := e
    by_cases hi : i = k
    · subst hi
      simp [mapInsert, mapGet, Ne.symm h]
    · by_cases hk : k < i
      · simp [mapInsert, mapGet, hi, hk, Ne.symm h]
      · simp [mapInsert, mapGet, hi, hk, ih]

theorem mapGet_append {m m' : List (Nat × α)} {k : Nat} (h : ∀ e ∈ m, e.1 ≠ k) :
    mapGet d (m ++ m') k = mapGet d m' k := by
  induction m with
  | nil => rfl
  | cons x m ih =>
    obtain ⟨j, v⟩ := x
    have hj : j ≠ k := h (j, v) (List.mem_cons_self)
    simp only [List.cons_append, mapGet, hj, if_false]
    exact ih (fun e he => h e (List.mem_cons_of_mem _ he))

theorem fst_lt_of_mem_takeWhile {m : List (Nat × α)} {k : Nat} {e : Nat × α}
    (h : e ∈ m.takeWhile (fun e => e.1 < k)) : e.1 < k := by
  induction m with
  | nil => cases h
  | cons x m ih =>
    by_cases hx : x.1 < k
    · simp only [List.takeWhile_cons, hx, decide_true, if_true, List.mem_cons] at h
      cases h with
      | inl h => rw [h]; exact hx
      | inr h => exact ih h
    · simp [hx] at h

section
variable [DecidableEq α]

/-- A key reads as what was last set there. -/
@[simp] theorem mapGet_mapSet_same (m : List (Nat × α)) (k : Nat) (v : α) : mapGet d (mapSet d m k v) k = v := by
  unfold mapSet
  split
  · rename_i h
    rw [mapGet_mapErase_same, h]
  · exact mapGet_mapInsert_same m k v

/-- Setting a key leaves every other key alone. -/
theorem mapGet_mapSet_other (m : List (Nat × α)) {j k : Nat} (v : α) (h : j ≠ k) :
    mapGet d (mapSet d m k v) j = mapGet d m j := by
  unfold mapSet
  split
  · exact mapGet_mapErase_other m h
  · exact mapGet_mapInsert_other m v h

/-- Reading a key after any key has been set. -/
theorem mapGet_mapSet (m : List (Nat × α)) (j k : Nat) (v : α) :
    mapGet d (mapSet d m k v) j = if j = k then v else mapGet d m j := by
  split
  · rename_i h
    rw [h, mapGet_mapSet_same]
  · rename_i h
    exact mapGet_mapSet_other m v h

/-! ### The canonical form -/

theorem mapWfFrom_mono {lo lo' : Nat} {m : List (Nat × α)} (h : mapWfFrom d lo m = true) (hl : lo' ≤ lo) :
    mapWfFrom d lo' m = true := by
  cases m with
  | nil => rfl
  | cons e m =>
    obtain ⟨j, v⟩ := e
    simp only [mapWfFrom, Bool.and_eq_true, decide_eq_true_eq] at h ⊢
    exact ⟨⟨by omega, h.1.2⟩, h.2⟩

theorem mapErase_wf {lo : Nat} {m : List (Nat × α)} (h : mapWfFrom d lo m = true) (k : Nat) :
    mapWfFrom d lo (mapErase m k) = true := by
  induction m generalizing lo with
  | nil => rfl
  | cons e m ih =>
    obtain ⟨j, v⟩ := e
    simp only [mapWfFrom, Bool.and_eq_true, decide_eq_true_eq] at h
    by_cases hj : j = k
    · simp only [mapErase, hj, if_true]
      exact mapWfFrom_mono (ih h.2) (by omega)
    · simp only [mapErase, hj, if_false, mapWfFrom, Bool.and_eq_true, decide_eq_true_eq]
      exact ⟨h.1, ih h.2⟩

theorem mapInsert_wf {lo : Nat} {m : List (Nat × α)} (h : mapWfFrom d lo m = true) {k : Nat} {v : α} (hk : lo ≤ k)
    (hv : v ≠ d k) : mapWfFrom d lo (mapInsert m k v) = true := by
  induction m generalizing lo with
  | nil => simp [mapInsert, mapWfFrom, hk, hv]
  | cons e m ih =>
    obtain ⟨j, w⟩ := e
    simp only [mapWfFrom, Bool.and_eq_true, decide_eq_true_eq] at h
    by_cases hj : j = k
    · subst hj
      simp [mapInsert, mapWfFrom, hk, hv, h.2]
    · by_cases hlt : k < j
      · simp only [mapInsert, hj, if_false, hlt, if_true, mapWfFrom, Bool.and_eq_true, decide_eq_true_eq]
        exact ⟨⟨hk, hv⟩, ⟨by omega, h.1.2⟩, h.2⟩
      · simp only [mapInsert, hj, if_false, hlt, mapWfFrom, Bool.and_eq_true, decide_eq_true_eq]
        exact ⟨h.1, ih h.2 (by omega)⟩

/-- Setting a key keeps the canonical form. -/
theorem mapSet_wf {m : List (Nat × α)} (h : mapWf d m = true) (k : Nat) (v : α) : mapWf d (mapSet d m k v) = true := by
  unfold mapSet
  split
  · exact mapErase_wf h k
  · rename_i hv
    exact mapInsert_wf h (Nat.zero_le k) hv

theorem mapDrop_wfFrom {lo : Nat} {m : List (Nat × α)} (h : mapWfFrom d lo m = true) (p : Nat → Bool) :
    mapWfFrom d lo (mapDrop p m) = true := by
  unfold mapDrop
  induction m generalizing lo with
  | nil => rfl
  | cons e m ih =>
    obtain ⟨j, v⟩ := e
    simp only [mapWfFrom, Bool.and_eq_true, decide_eq_true_eq] at h
    by_cases hp : p j = true
    · simp only [List.filter_cons, hp]
      exact mapWfFrom_mono (ih h.2) (by omega)
    · simp only [List.filter_cons, hp]
      simp only [mapWfFrom, Bool.and_eq_true, decide_eq_true_eq, Bool.not_false, if_true]
      exact ⟨h.1, ih h.2⟩

/-- Dropping keys keeps the canonical form. -/
theorem mapDrop_wf {m : List (Nat × α)} (h : mapWf d m = true) (p : Nat → Bool) : mapWf d (mapDrop p m) = true :=
  mapDrop_wfFrom h p

/-! ### Runs of consecutive keys -/

/-- The keys of a list that is in canonical form from `lo` are at least `lo`. -/
theorem le_of_mem_wf {lo : Nat} {m : List (Nat × α)} (h : mapWfFrom d lo m = true) {e : Nat × α} (he : e ∈ m) :
    lo ≤ e.1 := by
  induction m generalizing lo with
  | nil => cases he
  | cons x m ih =>
    obtain ⟨j, v⟩ := x
    simp only [mapWfFrom, Bool.and_eq_true, decide_eq_true_eq] at h
    cases he with
    | head => exact h.1.1
    | tail _ ht => exact Nat.le_trans (by omega) (ih h.2 ht)

/-- Below every listed key a canonical map reads as the default. -/
theorem mapGet_below {lo : Nat} {m : List (Nat × α)} (h : mapWfFrom d lo m = true) {k : Nat} (hk : k < lo) :
    mapGet d m k = d k := by
  induction m generalizing lo with
  | nil => rfl
  | cons x m ih =>
    obtain ⟨j, v⟩ := x
    simp only [mapWfFrom, Bool.and_eq_true, decide_eq_true_eq] at h
    have hj : ¬ j = k := by omega
    simp only [mapGet, hj, if_false]
    exact ih h.2 (by omega)

theorem mapWalk_eq {lo : Nat} {m : List (Nat × α)} (h : mapWfFrom d lo m = true) {k : Nat} (hk : k ≤ lo) (n : Nat) :
    mapWalk d m k n = (List.range n).map (fun i => mapGet d m (k + i)) := by
  induction n generalizing lo m k with
  | zero => cases m <;> rfl
  | succ n ih =>
    rw [List.range_succ_eq_map, List.map_cons, List.map_map]
    cases m with
    | nil =>
      simp only [mapWalk, mapGet]
      rw [ih (lo := k + 1) (m := []) rfl (Nat.le_refl _)]
      congr 1
      apply List.map_congr_left
      intro i _
      simp [mapGet, Function.comp, Nat.add_comm, Nat.add_left_comm]
    | cons x m =>
      obtain ⟨j, v⟩ := x
      have h0 := h
      simp only [mapWfFrom, Bool.and_eq_true, decide_eq_true_eq] at h
      by_cases hj : j = k
      · subst hj
        simp only [mapWalk, if_true, mapGet, Nat.add_zero]
        rw [ih h.2 (Nat.le_refl _)]
        congr 1
        apply List.map_congr_left
        intro i _
        have : ¬ j = j + (i + 1) := by omega
        simp only [Function.comp, this, if_false, Nat.succ_eq_add_one]
        congr 1
        omega
      · have h1 : mapGet d ((j, v) :: m) k = d k := by
          simp only [mapGet, hj, if_false]
          exact mapGet_below h.2 (by omega)
        simp only [Nat.add_zero, h1]
        simp only [mapWalk, hj, if_false]
        have hw : mapWfFrom d (k + 1) ((j, v) :: m) = true := by
          simp only [mapWfFrom, Bool.and_eq_true, decide_eq_true_eq]
          exact ⟨⟨by omega, h.1.2⟩, h.2⟩
        rw [ih hw (Nat.le_refl _)]
        congr 1
        apply List.map_congr_left
        intro i _
        simp only [Function.comp, Nat.succ_eq_add_one, Nat.add_assoc, Nat.add_comm 1]

theorem dropWhile_wf {lo : Nat} {m : List (Nat × α)} (h : mapWfFrom d lo m = true) (k : Nat) :
    mapWfFrom d (max lo k) (m.dropWhile (fun e => e.1 < k)) = true := by
  induction m generalizing lo with
  | nil => rfl
  | cons x m ih =>
    obtain ⟨j, v⟩ := x
    have h0 := h
    simp only [mapWfFrom, Bool.and_eq_true, decide_eq_true_eq] at h
    by_cases hj : j < k
    · simp only [List.dropWhile_cons, hj, decide_true, if_true]
      exact mapWfFrom_mono (ih h.2) (by omega)
    · simp only [List.dropWhile_cons, hj, decide_false]
      simp only [mapWfFrom, Bool.and_eq_true, decide_eq_true_eq, Bool.false_eq_true, if_false]
      exact ⟨⟨by omega, h.1.2⟩, h.2⟩

theorem mapGet_dropWhile {lo : Nat} {m : List (Nat × α)} (h : mapWfFrom d lo m = true) {k j : Nat} (hj : k ≤ j) :
    mapGet d (m.dropWhile (fun e => e.1 < k)) j = mapGet d m j := by
  induction m generalizing lo with
  | nil => rfl
  | cons x m ih =>
    obtain ⟨i, v⟩ := x
    simp only [mapWfFrom, Bool.and_eq_true, decide_eq_true_eq] at h
    by_cases hi : i < k
    · have : ¬ i = j := by omega
      simp only [List.dropWhile_cons, hi, decide_true, if_true, mapGet, this, if_false]
      exact ih h.2
    · simp [hi]

/-- Reading a run of a canonical map reads each key. -/
theorem mapRead_eq {m : List (Nat × α)} (h : mapWf d m = true) (k n : Nat) :
    mapRead d m k n = (List.range n).map (fun i => mapGet d m (k + i)) := by
  unfold mapRead
  rw [mapWalk_eq (dropWhile_wf h k) (by omega)]
  apply List.map_congr_left
  intro i _
  exact mapGet_dropWhile h (by omega)

theorem mapRun_wf (k : Nat) (vs : List α) {m : List (Nat × α)} (h : mapWfFrom d (k + vs.length) m = true) :
    mapWfFrom d k (mapRun d k vs ++ m) = true := by
  induction vs generalizing k with
  | nil => simpa [mapRun] using h
  | cons v vs ih =>
    have hm : mapWfFrom d (k + 1 + vs.length) m = true := by
      have : k + 1 + vs.length = k + (v :: vs).length := by simp only [List.length_cons]; omega
      rw [this]; exact h
    unfold mapRun
    split
    · exact mapWfFrom_mono (ih (k + 1) hm) (by omega)
    · rename_i hv
      simp only [List.cons_append, mapWfFrom, Bool.and_eq_true, decide_eq_true_eq]
      exact ⟨⟨Nat.le_refl _, hv⟩, ih (k + 1) hm⟩

theorem takeWhile_wf {lo : Nat} {m m' : List (Nat × α)} (h : mapWfFrom d lo m = true) {k : Nat} (hk : lo ≤ k)
    (h' : mapWfFrom d k m' = true) : mapWfFrom d lo (m.takeWhile (fun e => e.1 < k) ++ m') = true := by
  induction m generalizing lo with
  | nil => exact mapWfFrom_mono h' hk
  | cons x m ih =>
    obtain ⟨j, v⟩ := x
    simp only [mapWfFrom, Bool.and_eq_true, decide_eq_true_eq] at h
    by_cases hj : j < k
    · simp only [List.takeWhile_cons, hj, decide_true, if_true, List.cons_append, mapWfFrom, Bool.and_eq_true,
        decide_eq_true_eq]
      exact ⟨h.1, ih h.2 (by omega)⟩
    · simp only [List.takeWhile_cons, hj, decide_false, Bool.false_eq_true, if_false, List.nil_append]
      exact mapWfFrom_mono h' hk

/-- Writing a run keeps the canonical form. -/
theorem mapWrite_wf {m : List (Nat × α)} (h : mapWf d m = true) (k : Nat) (vs : List α) :
    mapWf d (mapWrite d m k vs) = true := by
  unfold mapWrite
  rw [List.append_assoc]
  apply takeWhile_wf h (Nat.zero_le k)
  apply mapRun_wf
  exact mapWfFrom_mono (dropWhile_wf h _) (by omega)

theorem mapGet_takeWhile_below {lo : Nat} {m m' : List (Nat × α)} (h : mapWfFrom d lo m = true) {j k : Nat} (hj : j < k)
    (h' : mapGet d m' j = d j) : mapGet d (m.takeWhile (fun e => e.1 < k) ++ m') j = mapGet d m j := by
  induction m generalizing lo with
  | nil => simpa [mapGet] using h'
  | cons x m ih =>
    obtain ⟨i, v⟩ := x
    simp only [mapWfFrom, Bool.and_eq_true, decide_eq_true_eq] at h
    by_cases hi : i < k
    · simp only [List.takeWhile_cons, hi, decide_true, if_true, List.cons_append, mapGet]
      split
      · rfl
      · exact ih h.2
    · simp only [List.takeWhile_cons, hi, decide_false, Bool.false_eq_true, if_false, List.nil_append]
      rw [h']
      have hji : ¬ i = j := by omega
      simp only [mapGet, hji, if_false]
      exact (mapGet_below h.2 (by omega)).symm

theorem mem_mapRun {k : Nat} {vs : List α} {e : Nat × α} (h : e ∈ mapRun d k vs) : k ≤ e.1 ∧ e.1 < k + vs.length := by
  induction vs generalizing k with
  | nil => cases h
  | cons v vs ih =>
    unfold mapRun at h
    split at h
    · have := ih h
      simp only [List.length_cons]
      omega
    · cases h with
      | head => simp
      | tail _ ht =>
        have := ih ht
        simp only [List.length_cons]
        omega

theorem mapGet_mapRun (k i : Nat) (vs : List α) (m : List (Nat × α)) (hi : i < vs.length)
    (h : mapWfFrom d (k + vs.length) m = true) : mapGet d (mapRun d k vs ++ m) (k + i) = vs[i] := by
  induction vs generalizing k i with
  | nil => cases hi
  | cons v vs ih =>
    have hm : mapWfFrom d (k + 1 + vs.length) m = true := by
      have : k + 1 + vs.length = k + (v :: vs).length := by simp only [List.length_cons]; omega
      rw [this]; exact h
    cases i with
    | zero =>
      unfold mapRun
      split
      · rename_i hv
        rw [mapGet_below (mapRun_wf (k + 1) vs hm) (by omega)]
        simpa using hv.symm
      · simp [mapGet]
    | succ i =>
      have hi' : i < vs.length := by simpa using hi
      have hs : k + (i + 1) = k + 1 + i := by omega
      unfold mapRun
      split
      · rw [hs, ih (k + 1) i hi' hm]
        rfl
      · have hk : ¬ k = k + (i + 1) := by omega
        simp only [List.cons_append, mapGet, hk, if_false]
        rw [hs, ih (k + 1) i hi' hm]
        rfl

/-- A key of the run reads as what was written there. -/
theorem mapGet_mapWrite_in {m : List (Nat × α)} (h : mapWf d m = true) (k i : Nat) (vs : List α) (hi : i < vs.length) :
    mapGet d (mapWrite d m k vs) (k + i) = vs[i] := by
  unfold mapWrite
  rw [List.append_assoc, mapGet_append]
  · exact mapGet_mapRun k i vs _ hi (mapWfFrom_mono (dropWhile_wf h _) (by omega))
  · intro e he
    have := fst_lt_of_mem_takeWhile he
    omega

/-- Writing a run leaves every key outside it alone. -/
theorem mapGet_mapWrite_out {m : List (Nat × α)} (h : mapWf d m = true) (k : Nat) (vs : List α) {j : Nat}
    (hj : j < k ∨ k + vs.length ≤ j) : mapGet d (mapWrite d m k vs) j = mapGet d m j := by
  unfold mapWrite
  rw [List.append_assoc]
  have hw := mapRun_wf (d := d) k vs (mapWfFrom_mono (dropWhile_wf h (k + vs.length)) (Nat.le_max_right _ _))
  by_cases hlt : j < k
  · exact mapGet_takeWhile_below h hlt (mapGet_below hw hlt)
  · have hge : k + vs.length ≤ j := by omega
    rw [mapGet_append, mapGet_append]
    · exact mapGet_dropWhile h hge
    · intro e he
      have := mem_mapRun he
      omega
    · intro e he
      have := fst_lt_of_mem_takeWhile he
      omega

end

end Sys2Proof.Machine
end

