-- ==== Sys2Proof/Laws/Bytes.lean ====
section
/-! SUPPORT. Byte strings as numbers, and runs of a sparse map read after they are written. -/

namespace Sys2Proof.Machine

@[simp] theorem toBytes_length (n v : Nat) : (toBytes n v).length = n := by
  induction n generalizing v with
  | zero => rfl
  | succ n ih => simp [toBytes, ih]

/-- The number that the bytes of a number spell is that number, modulo their width. -/
theorem ofBytes_toBytes (n v : Nat) : ofBytes (toBytes n v) = v % 2 ^ (8 * n) := by
  induction n generalizing v with
  | zero => simp [toBytes, ofBytes, Nat.mod_one]
  | succ n ih =>
    have h : (2 : Nat) ^ (8 * (n + 1)) = 256 * 2 ^ (8 * n) := by rw [Nat.mul_add, Nat.pow_add]; omega
    simp only [toBytes, ofBytes, ih, BitVec.toNat_ofNat, h, Nat.mod_mul]

variable {α : Type} [DecidableEq α] {d : Nat → α}

/-- A run reads back as it was written. -/
theorem mapRead_mapWrite {m : List (Nat × α)} (h : mapWf d m = true) (k : Nat) (vs : List α) :
    mapRead d (mapWrite d m k vs) k vs.length = vs := by
  rw [mapRead_eq (mapWrite_wf h k vs)]
  apply List.ext_getElem
  · simp
  · intro i h1 h2
    simp [mapGet_mapWrite_in h k i vs h2]

/-- A run that does not meet the one written reads as before. -/
theorem mapRead_mapWrite_apart {m : List (Nat × α)} (h : mapWf d m = true) {k j n : Nat} {vs : List α}
    (ha : j + n ≤ k ∨ k + vs.length ≤ j) : mapRead d (mapWrite d m k vs) j n = mapRead d m j n := by
  rw [mapRead_eq (mapWrite_wf h k vs), mapRead_eq h]
  apply List.map_congr_left
  intro i hi
  have := List.mem_range.mp hi
  exact mapGet_mapWrite_out h k vs (by omega)

end Sys2Proof.Machine
end

