-- ==== Sys2Proof/Laws/MemOps.lean ====
section
/-! SUPPORT. Memory stays in its canonical form: one lemma for each function of the device, for the shared operations, links, arbiters and the chorus. Only a few
functions touch memory; every other lemma says that the function passes the form on. -/

namespace Sys2Proof.Machine

@[simp ↓] theorem Dev.memWf_ite (c : Prop) [Decidable c] (a b : Dev) (ha : a.memWf = true) (hb : b.memWf = true) :
    (if c then a else b).memWf = true := by split <;> assumption
@[simp ↓] theorem Job.memWf_ite (c : Prop) [Decidable c] (a b : Job) (ha : a.d.memWf = true) (hb : b.d.memWf = true) :
    (if c then a else b).d.memWf = true := by split <;> assumption

/-! ### Tools -/

@[simp ↓] theorem foldl_memWf {α : Type} (f : Dev → α → Dev) (l : List α) (hf : ∀ e x, e.memWf = true → (f e x).memWf = true)
    {d : Dev} (h : d.memWf = true) : (l.foldl f d).memWf = true := by
  induction l generalizing d with
  | nil => exact h
  | cons x l ih => exact ih (hf d x h)
@[simp ↓] theorem foldl_job_memWf {α : Type} (f : Job → α → Job) (l : List α)
    (hf : ∀ e x, e.d.memWf = true → (f e x).d.memWf = true)
    {j : Job} (h : j.d.memWf = true) : (l.foldl f j).d.memWf = true := by
  induction l generalizing j with
  | nil => exact h
  | cons x l ih => exact ih (hf j x h)
@[simp ↓] theorem Dev.memWf_mk (xmem : List Host.Cell) (xbadPar : List (Nat × Bool)) (xregs : List (Nat × W64)) (xcores : List (Nat × Core)) (xpmcOn : W32) (xdiesUp : List (Nat × Bool)) (xprot : List (Nat × Option ProtPage)) (xspills : List (Nat × Option SpillPage)) (xwaitingWrites : List (Nat × List Byte)) (xheldBumps : List (Nat × Nat × List Nat)) (xwritten : List (Nat × Bool)) (xlinks : List (Nat × Link)) (xdeadXids : List W32) (xtrees : List TreeRun) (xchorus : Chorus) (xlul : Lul) (xtim : Tim) (xsnp : Snp) (xflt : Flt) (xpwr : Pwr) (xpmc : Pmc) (xmgc : Mgc) (xarbs : List (Nat × Arb)) (xbdp : List (Nat × BdpChan)) (xtabs : List (Nat × TabSlot)) (xlulHeld : List (Nat × LulFrame)) (xmsixOpen : List (Nat × Bool)) (xmsixPend : List (Nat × Bool)) (xtrace : List (Nat × List Byte)) (xtraceQ : List TraceNote) (xlatches : List (Nat × Option (Nat × W32))) (xheldWrites : List (Nat × Option (Nat × W32))) (xoutbox : List Out) (xfreeCtr : Nat) (h : mapWf (fun _ => 0#8) xmem = true) :
    Dev.memWf { mem := xmem, badPar := xbadPar, regs := xregs, cores := xcores, pmcOn := xpmcOn, diesUp := xdiesUp, prot := xprot, spills := xspills, waitingWrites := xwaitingWrites, heldBumps := xheldBumps, written := xwritten, links := xlinks, deadXids := xdeadXids, trees := xtrees, chorus := xchorus, lul := xlul, tim := xtim, snp := xsnp, flt := xflt, pwr := xpwr, pmc := xpmc, mgc := xmgc, arbs := xarbs, bdp := xbdp, tabs := xtabs, lulHeld := xlulHeld, msixOpen := xmsixOpen, msixPend := xmsixPend, trace := xtrace, traceQ := xtraceQ, latches := xlatches, heldWrites := xheldWrites, outbox := xoutbox, freeCtr := xfreeCtr } = true := h
@[simp ↓] theorem mem_wf_iff (d : Dev) (h : d.memWf = true) : mapWf (fun _ => 0#8) d.mem = true := h
@[simp ↓] theorem mapWrite_memWf (m : List Host.Cell) (k : Nat) (bs : List Byte) (h : mapWf (fun _ => 0#8) m = true) :
    mapWf (fun _ => 0#8) (mapWrite (fun _ => 0#8) m k bs) = true := mapWrite_wf h k bs
@[simp ↓] theorem mapDrop_memWf (m : List Host.Cell) (p : Nat → Bool) (h : mapWf (fun _ => 0#8) m = true) :
    mapWf (fun _ => 0#8) (mapDrop p m) = true := mapDrop_wf h p
@[simp ↓] theorem foldl_fst_memWf {α β : Type} (f : Dev × β → α → Dev × β) (l : List α)
    (hf : ∀ e x, e.1.memWf = true → (f e x).1.memWf = true) {p : Dev × β} (h : p.1.memWf = true) :
    (l.foldl f p).1.memWf = true := by
  induction l generalizing p with
  | nil => exact h
  | cons x l ih => exact ih (hf p x h)
@[simp ↓] theorem foldl_snd_memWf {α β : Type} (f : β × Dev → α → β × Dev) (l : List α)
    (hf : ∀ e x, e.2.memWf = true → (f e x).2.memWf = true) {p : β × Dev} (h : p.2.memWf = true) :
    (l.foldl f p).2.memWf = true := by
  induction l generalizing p with
  | nil => exact h
  | cons x l ih => exact ih (hf p x h)
@[simp ↓] theorem foldl_job_fst_memWf {α β : Type} (f : Job × β → α → Job × β) (l : List α)
    (hf : ∀ e x, e.1.d.memWf = true → (f e x).1.d.memWf = true) {p : Job × β} (h : p.1.d.memWf = true) :
    (l.foldl f p).1.d.memWf = true := by
  induction l generalizing p with
  | nil => exact h
  | cons x l ih => exact ih (hf p x h)
@[simp ↓] theorem foldl_job_snd_memWf {α β : Type} (f : β × Job → α → β × Job) (l : List α)
    (hf : ∀ e x, e.2.d.memWf = true → (f e x).2.d.memWf = true) {p : β × Job} (h : p.2.d.memWf = true) :
    (l.foldl f p).2.d.memWf = true := by
  induction l generalizing p with
  | nil => exact h
  | cons x l ih => exact ih (hf p x h)
@[simp ↓] theorem foldl_job_trd_memWf {α β γ : Type} (f : γ × β × Job → α → γ × β × Job) (l : List α)
    (hf : ∀ e x, e.2.2.d.memWf = true → (f e x).2.2.d.memWf = true) {p : γ × β × Job} (h : p.2.2.d.memWf = true) :
    (l.foldl f p).2.2.d.memWf = true := by
  induction l generalizing p with
  | nil => exact h
  | cons x l ih => exact ih (hf p x h)
@[simp ↓] theorem Dev.setReg_memWf {d : Dev} {r : Reg} {v : W64} (h_d : d.memWf = true) :
    (Dev.setReg d r v).memWf = true := by
  unfold Dev.setReg
  simp (maxDischargeDepth := 100) +contextual [*]

@[simp ↓] theorem Dev.setRbits_memWf {d : Dev} {r : Reg} {hi lo v : Nat} (h_d : d.memWf = true) :
    (Dev.setRbits d r hi lo v).memWf = true := by
  unfold Dev.setRbits
  simp (maxDischargeDepth := 100) +contextual [*]

@[simp ↓] theorem Dev.setRbit_memWf {d : Dev} {r : Reg} {i : Nat} {b : Bool} (h_d : d.memWf = true) :
    (Dev.setRbit d r i b).memWf = true := by
  unfold Dev.setRbit
  simp (maxDischargeDepth := 100) +contextual [*]

@[simp ↓] theorem Dev.setRegN_memWf {d : Dev} {r : Reg} {v : Nat} (h_d : d.memWf = true) :
    (Dev.setRegN d r v).memWf = true := by
  unfold Dev.setRegN
  simp (maxDischargeDepth := 100) +contextual [*]

@[simp ↓] theorem Dev.addStick_memWf {d : Dev} {r : Reg} {hi lo n : Nat} (h_d : d.memWf = true) :
    (Dev.addStick d r hi lo n).memWf = true := by
  unfold Dev.addStick
  simp (maxDischargeDepth := 100) +contextual [*]

@[simp ↓] theorem Dev.useFree_memWf {d : Dev} {n : Nat} (h_d : d.memWf = true) :
    (Dev.useFree d n).memWf = true := by
  unfold Dev.useFree
  simp (maxDischargeDepth := 100) +contextual [*]

@[simp ↓] theorem Dev.emit_memWf {d : Dev} {o : Out} (h_d : d.memWf = true) :
    (Dev.emit d o).memWf = true := by
  unfold Dev.emit
  simp (maxDischargeDepth := 100) +contextual [*]

@[simp ↓] theorem Dev.count_memWf {d : Dev} {s i n : Nat} (h_d : d.memWf = true) :
    (Dev.count d s i n).memWf = true := by
  unfold Dev.count
  simp (maxDischargeDepth := 100) +contextual [*]

@[simp ↓] theorem Dev.traceEv_memWf {d : Dev} {c ty : Nat} {x : Option Nat} {eng tok : Nat} {w : W64} (h_d : d.memWf = true) :
    (Dev.traceEv d c ty x eng tok w).memWf = true := by
  unfold Dev.traceEv
  simp (maxDischargeDepth := 100) +contextual [*]

@[simp ↓] theorem Dev.tracePut_memWf {d : Dev} {n : TraceNote} (h_d : d.memWf = true) :
    (Dev.tracePut d n).memWf = true := by
  unfold Dev.tracePut
  simp (maxDischargeDepth := 100) +contextual [*]

@[simp ↓] theorem Dev.traceCore_memWf {d : Dev} {c : Nat} (h_d : d.memWf = true) :
    (Dev.traceCore d c).memWf = true := by
  unfold Dev.traceCore
  simp (maxDischargeDepth := 100) +contextual [*]

@[simp ↓] theorem Dev.traceFlush_memWf {d : Dev} (h_d : d.memWf = true) :
    (Dev.traceFlush d).memWf = true := by
  unfold Dev.traceFlush
  simp (maxDischargeDepth := 100) +contextual [*]

@[simp ↓] theorem Dev.setCore_memWf {d : Dev} {c : Nat} {k : Core} (h_d : d.memWf = true) :
    (Dev.setCore d c k).memWf = true := by
  unfold Dev.setCore
  simp (maxDischargeDepth := 100) +contextual [*]

@[simp ↓] theorem Dev.onCore_memWf {d : Dev} {c : Nat} {f : Core → Core} (h_d : d.memWf = true) :
    (Dev.onCore d c f).memWf = true := by
  unfold Dev.onCore
  simp (maxDischargeDepth := 100) +contextual [*]

@[simp ↓] theorem Dev.setCtx_memWf {d : Dev} {c x : Nat} {v : Ctx} (h_d : d.memWf = true) :
    (Dev.setCtx d c x v).memWf = true := by
  unfold Dev.setCtx
  simp (maxDischargeDepth := 100) +contextual [*]

@[simp ↓] theorem Dev.onCtx_memWf {d : Dev} {c x : Nat} {f : Ctx → Ctx} (h_d : d.memWf = true) :
    (Dev.onCtx d c x f).memWf = true := by
  unfold Dev.onCtx
  simp (maxDischargeDepth := 100) +contextual [*]

@[simp ↓] theorem Dev.served_memWf {d : Dev} {slot p n : Nat} (h_d : d.memWf = true) :
    (Dev.served d slot p n).memWf = true := by
  unfold Dev.served
  simp (maxDischargeDepth := 100) +contextual [*]

@[simp ↓] theorem Dev.putPhys_memWf {d0 : Dev} {p : Nat} {bs : List Byte} (h_d0 : d0.memWf = true) :
    (Dev.putPhys d0 p bs).memWf = true := by
  unfold Dev.putPhys
  simp (maxDischargeDepth := 100) +contextual [*]

@[simp ↓] theorem Dev.readServed_memWf {d : Dev} {a n : Nat} (h_d : d.memWf = true) :
    (Dev.readServed d a n).memWf = true := by
  unfold Dev.readServed
  simp (maxDischargeDepth := 100) +contextual [*]

@[simp ↓] theorem Dev.copyPhys_memWf {d : Dev} {src dst n : Nat} (h_d : d.memWf = true) :
    (Dev.copyPhys d src dst n).memWf = true := by
  unfold Dev.copyPhys
  simp (maxDischargeDepth := 100) +contextual [*]

@[simp ↓] theorem Dev.putMarked_memWf {d : Dev} {p : Nat} {bs : List Byte} {bad : List Nat} (h_d : d.memWf = true) :
    (Dev.putMarked d p bs bad).memWf = true := by
  unfold Dev.putMarked
  simp (maxDischargeDepth := 100) +contextual [*]

@[simp ↓] theorem Dev.markWritten_memWf {d : Dev} {r : Region} {page : Nat} (h_d : d.memWf = true) :
    (Dev.markWritten d r page).memWf = true := by
  unfold Dev.markWritten
  simp (maxDischargeDepth := 100) +contextual [*]

@[simp ↓] theorem Dev.markAt_memWf {d : Dev} {a n : Nat} (h_d : d.memWf = true) :
    (Dev.markAt d a n).memWf = true := by
  unfold Dev.markAt
  repeat' (first
    | (simp (maxDischargeDepth := 100) +contextual [*]; done)
    | split
    | (apply foldl_memWf <;> intros))

@[simp ↓] theorem Dev.devWrite_memWf {d : Dev} {a : Nat} {bs : List Byte} (h_d : d.memWf = true) :
    (Dev.devWrite d a bs).memWf = true := by
  unfold Dev.devWrite
  simp (maxDischargeDepth := 100) +contextual [*]

@[simp ↓] theorem Dev.faultRec_memWf {d : Dev} {code unit level part detail : Nat} (h_d : d.memWf = true) :
    (Dev.faultRec d code unit level part detail).memWf = true := by
  unfold Dev.faultRec
  simp (maxDischargeDepth := 100) +contextual [*]

@[simp ↓] theorem Dev.faultAt_memWf {d : Dev} {code unit detail : Nat} (h_d : d.memWf = true) :
    (Dev.faultAt d code unit detail).memWf = true := by
  unfold Dev.faultAt
  simp (maxDischargeDepth := 100) +contextual [*]

@[simp ↓] theorem Dev.rowFailed_memWf {d : Dev} {p : Nat} (h_d : d.memWf = true) :
    (Dev.rowFailed d p).memWf = true := by
  unfold Dev.rowFailed
  repeat' (first
    | (simp (maxDischargeDepth := 100) +contextual [*]; done)
    | (dsimp only; split))

@[simp ↓] theorem Dev.reportByte_memWf {d : Dev} {b : Nat} (h_d : d.memWf = true) :
    (Dev.reportByte d b).memWf = true := by
  unfold Dev.reportByte
  simp (maxDischargeDepth := 100) +contextual [*]

@[simp ↓] theorem Dev.reportParity_memWf {d : Dev} {a n : Nat} (h_d : d.memWf = true) :
    (Dev.reportParity d a n).memWf = true := by
  unfold Dev.reportParity
  simp (maxDischargeDepth := 100) +contextual [*]

@[simp ↓] theorem Dev.askStop_memWf {d : Dev} {cause : Nat} (h_d : d.memWf = true) :
    (Dev.askStop d cause).memWf = true := by
  unfold Dev.askStop
  simp (maxDischargeDepth := 100) +contextual [*]

@[simp ↓] theorem Dev.coreParity_memWf {d : Dev} {c code unit detail : Nat} (h_d : d.memWf = true) :
    (Dev.coreParity d c code unit detail).memWf = true := by
  unfold Dev.coreParity
  simp (maxDischargeDepth := 100) +contextual [*]

@[simp ↓] theorem Dev.pathParity_memWf {d : Dev} {c e : Nat} (h_d : d.memWf = true) :
    (Dev.pathParity d c e).memWf = true := by
  unfold Dev.pathParity
  simp (maxDischargeDepth := 100) +contextual [*]

@[simp ↓] theorem Dev.dropClutchLock_memWf {d : Dev} (h_d : d.memWf = true) :
    (Dev.dropClutchLock d).memWf = true := by
  unfold Dev.dropClutchLock
  repeat' (first
    | (simp (maxDischargeDepth := 100) +contextual [*]; done)
    | (dsimp only; split))

@[simp ↓] theorem Dev.releasePages_memWf {d : Dev} (h_d : d.memWf = true) :
    (Dev.releasePages d).memWf = true := by
  unfold Dev.releasePages
  simp (maxDischargeDepth := 100) +contextual [*]

@[simp ↓] theorem Dev.dropSpills_memWf {d : Dev} {k : Nat} (h_d : d.memWf = true) :
    (Dev.dropSpills d k).memWf = true := by
  unfold Dev.dropSpills
  simp (maxDischargeDepth := 100) +contextual [*]

@[simp ↓] theorem Dev.dropLocate_memWf {d : Dev} {k : Nat} (h_d : d.memWf = true) :
    (Dev.dropLocate d k).memWf = true := by
  unfold Dev.dropLocate
  simp (maxDischargeDepth := 100) +contextual [*]

@[simp ↓] theorem Dev.slotBad_memWf {d0 : Dev} {k cause : Nat} (h_d0 : d0.memWf = true) :
    (Dev.slotBad d0 k cause).memWf = true := by
  unfold Dev.slotBad
  simp (maxDischargeDepth := 100) +contextual [*]

@[simp ↓] theorem Dev.storeLeaf_memWf {d : Dev} {pg : Nat} {q : ProtPage} (h_d : d.memWf = true) :
    (Dev.storeLeaf d pg q).memWf = true := by
  unfold Dev.storeLeaf
  simp (maxDischargeDepth := 100) +contextual [*]

@[simp ↓] theorem Dev.pageDone_memWf {d : Dev} {pg k : Nat} (h_d : d.memWf = true) :
    (Dev.pageDone d pg k).memWf = true := by
  unfold Dev.pageDone
  simp (maxDischargeDepth := 100) +contextual [*]

@[simp ↓] theorem Dev.reportPhys_memWf {d : Dev} {p n : Nat} (h_d : d.memWf = true) :
    (Dev.reportPhys d p n).memWf = true := by
  unfold Dev.reportPhys
  simp (maxDischargeDepth := 100) +contextual [*]

@[simp ↓] theorem Dev.copyPage_memWf {d : Dev} {pg : Nat} {q : ProtPage} (h_d : d.memWf = true) :
    (Dev.copyPage d pg q).memWf = true := by
  unfold Dev.copyPage
  simp (maxDischargeDepth := 100) +contextual [*]

@[simp ↓] theorem Dev.spillPage_memWf {d : Dev} {pg : Nat} {q : ProtPage} {i : Nat} (h_d : d.memWf = true) :
    (Dev.spillPage d pg q i).memWf = true := by
  unfold Dev.spillPage
  simp (maxDischargeDepth := 100) +contextual [*]

@[simp ↓] theorem Dev.writePhys_memWf {d : Dev} {p : Nat} {bs : List Byte} (h_d : d.memWf = true) :
    (Dev.writePhys d p bs).memWf = true := by
  unfold Dev.writePhys
  repeat' (first
    | (simp (maxDischargeDepth := 100) +contextual [*]; done)
    | (dsimp only; split)
    | split)

@[simp ↓] theorem Dev.writePiece_memWf {d : Dev} {a : Nat} {bs : List Byte} (h_d : d.memWf = true) :
    (Dev.writePiece d a bs).memWf = true := by
  unfold Dev.writePiece
  repeat' (first
    | (simp (maxDischargeDepth := 100) +contextual [*]; done)
    | (dsimp only; split))

@[simp ↓] theorem writePieces_memWf (qs : List (Nat × Nat)) (bs : List Byte) (d : Dev) (h : d.memWf = true) :
    (writePieces qs bs d).memWf = true := by
  induction qs generalizing bs d with
  | nil => exact h
  | cons q qs ih => exact ih _ _ (Dev.writePiece_memWf h)

@[simp ↓] theorem Dev.writeAt_memWf {d : Dev} {a : Nat} {bs : List Byte} (h_d : d.memWf = true) :
    (Dev.writeAt d a bs).memWf = true := writePieces_memWf _ _ _ h_d

@[simp ↓] theorem Dev.passTime_memWf {d : Dev} {n : Nat} (h_d : d.memWf = true) :
    (Dev.passTime d n).memWf = true := by
  unfold Dev.passTime
  simp (maxDischargeDepth := 100) +contextual [*]

@[simp ↓] theorem Dev.tick_memWf {d : Dev} (h_d : d.memWf = true) :
    (Dev.tick d).memWf = true := by
  unfold Dev.tick
  simp (maxDischargeDepth := 100) +contextual [*]

@[simp ↓] theorem Dev.ringPush_memWf {d : Dev} {c q : Nat} (h_d : d.memWf = true) :
    (Dev.ringPush d c q).memWf = true := by
  unfold Dev.ringPush
  simp (maxDischargeDepth := 100) +contextual [*]

@[simp ↓] theorem Dev.ringPop_memWf {d : Dev} {c q : Nat} (h_d : d.memWf = true) :
    (Dev.ringPop d c q).memWf = true := by
  unfold Dev.ringPop
  simp (maxDischargeDepth := 100) +contextual [*]

@[simp ↓] theorem Dev.ceDiscard_memWf {d : Dev} {c q : Nat} (h_d : d.memWf = true) :
    (Dev.ceDiscard d c q).memWf = true := by
  unfold Dev.ceDiscard
  simp (maxDischargeDepth := 100) +contextual [*]

@[simp ↓] theorem Dev.cePush_memWf {d : Dev} {c q : Nat} {e : List Byte} (h_d : d.memWf = true) :
    (Dev.cePush d c q e).memWf = true := by
  unfold Dev.cePush
  simp (maxDischargeDepth := 100) +contextual [*]

@[simp ↓] theorem Dev.raiseExc_memWf {d : Dev} {c x : Nat} {pc : W64} {e : Exc} (h_d : d.memWf = true) :
    (Dev.raiseExc d c x pc e).memWf = true := by
  unfold Dev.raiseExc
  repeat' (first
    | (simp (maxDischargeDepth := 100) +contextual [*]; done)
    | (dsimp only; split))

@[simp ↓] theorem Dev.lateExc_memWf {d : Dev} {c x : Nat} {pc : W64} {e : Exc} (h_d : d.memWf = true) :
    (Dev.lateExc d c x pc e).memWf = true := by
  unfold Dev.lateExc
  simp (maxDischargeDepth := 100) +contextual [*]

@[simp ↓] theorem Dev.deliver_memWf {a b : Dev} (h_a : a.memWf = true) (h_b : b.memWf = true) :
    (Dev.deliver a b).memWf = true := by
  unfold Dev.deliver
  simp (maxDischargeDepth := 100) +contextual [*]

@[simp ↓] theorem Dev.fresh_memWf {d : Dev} (h_d : d.memWf = true) :
    (Dev.fresh d).memWf = true := by
  unfold Dev.fresh
  simp (maxDischargeDepth := 100) +contextual [*]

@[simp ↓] theorem Dev.setArb_memWf {d : Dev} {i : Nat} {a : Arb} (h_d : d.memWf = true) :
    (Dev.setArb d i a).memWf = true := by
  unfold Dev.setArb
  simp (maxDischargeDepth := 100) +contextual [*]

@[simp ↓] theorem Dev.noteMaxAge_memWf {d : Dev} {i : Nat} {req : List Nat} (h_d : d.memWf = true) :
    (Dev.noteMaxAge d i req).memWf = true := by
  unfold Dev.noteMaxAge
  simp (maxDischargeDepth := 100) +contextual [*]

@[simp ↓] theorem Dev.arbCycle_memWf {d : Dev} {i : Nat} {lines more : W16} {waited : List W16} (h_d : d.memWf = true) :
    (Dev.arbCycle d i lines more waited).memWf = true := by
  unfold Dev.arbCycle
  simp (maxDischargeDepth := 100) +contextual [*]

@[simp ↓] theorem Dev.arbServe_memWf {d : Dev} {i r level : Nat} {req : List Nat} (h_d : d.memWf = true) :
    (Dev.arbServe d i r level req).memWf = true := by
  unfold Dev.arbServe
  simp (maxDischargeDepth := 100) +contextual [*]

@[simp ↓] theorem Dev.arbDrop_memWf {d : Dev} {i r : Nat} (h_d : d.memWf = true) :
    (Dev.arbDrop d i r).memWf = true := by
  unfold Dev.arbDrop
  repeat' (first
    | (simp (maxDischargeDepth := 100) +contextual [*]; done)
    | (dsimp only; split)
    | split)

@[simp ↓] theorem Dev.arbDropCore_memWf {d : Dev} {c : Nat} (h_d : d.memWf = true) :
    (Dev.arbDropCore d c).memWf = true := by
  unfold Dev.arbDropCore
  simp (maxDischargeDepth := 100) +contextual [*]

@[simp ↓] theorem Dev.starveFlag_memWf {d0 : Dev} {i r waited : Nat} (h_d0 : d0.memWf = true) :
    (Dev.starveFlag d0 i r waited).memWf = true := by
  unfold Dev.starveFlag
  simp (maxDischargeDepth := 100) +contextual [*]

@[simp ↓] theorem Dev.setLink_memWf {d : Dev} {p : Nat} {k : Link} (h_d : d.memWf = true) :
    (Dev.setLink d p k).memWf = true := by
  unfold Dev.setLink
  simp (maxDischargeDepth := 100) +contextual [*]

@[simp ↓] theorem Dev.setPortOwn_memWf {d : Dev} {p : Nat} {k : Link} (h_d : d.memWf = true) :
    (Dev.setPortOwn d p k).memWf = true := by
  unfold Dev.setPortOwn
  simp (maxDischargeDepth := 100) +contextual [*]

@[simp ↓] theorem Dev.setUp_memWf {d : Dev} {p : Nat} {b : Bool} (h_d : d.memWf = true) :
    (Dev.setUp d p b).memWf = true := by
  unfold Dev.setUp
  simp (maxDischargeDepth := 100) +contextual [*]

@[simp ↓] theorem Dev.xfailAt_memWf {d : Dev} {p : Nat} {xid : W32} (h_d : d.memWf = true) :
    (Dev.xfailAt d p xid).memWf = true := by
  unfold Dev.xfailAt
  simp (maxDischargeDepth := 100) +contextual [*]

@[simp ↓] theorem Dev.portReject_memWf {d : Dev} {p : Nat} (h_d : d.memWf = true) :
    (Dev.portReject d p).memWf = true := by
  unfold Dev.portReject
  simp (maxDischargeDepth := 100) +contextual [*]

@[simp ↓] theorem Dev.noRoute_memWf {d : Dev} {arrival : Option Nat} {xid : W32} (h_d : d.memWf = true) :
    (Dev.noRoute d arrival xid).memWf = true := by
  unfold Dev.noRoute
  repeat' (first
    | (simp (maxDischargeDepth := 100) +contextual [*]; done)
    | split)

@[simp ↓] theorem Dev.refreshAbsent_memWf {d : Dev} (h_d : d.memWf = true) :
    (Dev.refreshAbsent d).memWf = true := by
  unfold Dev.refreshAbsent
  simp (maxDischargeDepth := 100) +contextual [*]

@[simp ↓] theorem Dev.wire_memWf {d : Dev} {p : Nat} {f : Frame} (h_d : d.memWf = true) :
    (Dev.wire d p f).memWf = true := by
  unfold Dev.wire
  simp (maxDischargeDepth := 100) +contextual [*]

@[simp ↓] theorem Dev.returnCredits_memWf {d : Dev} {p : Nat} {vc cost : Nat} (h_d : d.memWf = true) :
    (Dev.returnCredits d p vc cost).memWf = true := by
  unfold Dev.returnCredits
  simp (maxDischargeDepth := 100) +contextual [*]

@[simp ↓] theorem Dev.freeBuffer_memWf {d : Dev} {f : Option Nat × Frame} (h_d : d.memWf = true) :
    (Dev.freeBuffer d f).memWf = true := by
  unfold Dev.freeBuffer
  repeat' (first
    | (simp (maxDischargeDepth := 100) +contextual [*]; done)
    | split)

@[simp ↓] theorem Dev.dropForward_memWf {d : Dev} {p : Nat} {f : Option Nat × Frame} (h_d : d.memWf = true) :
    (Dev.dropForward d p f).memWf = true := by
  unfold Dev.dropForward
  simp (maxDischargeDepth := 100) +contextual [*]

@[simp ↓] theorem Dev.leave_memWf {d : Dev} {p i : Nat} (h_d : d.memWf = true) :
    (Dev.leave d p i).memWf = true := by
  unfold Dev.leave
  repeat' (first
    | (simp (maxDischargeDepth := 100) +contextual [*]; done)
    | (dsimp only; split))

theorem drainGo_memWf {p n : Nat} {d : Dev} (h_d : d.memWf = true) : (Dev.drainGo p n d).memWf = true := by
  induction n generalizing d with
  | zero => exact h_d
  | succ n ih =>
    unfold Dev.drainGo
    dsimp only
    split
    · exact h_d
    · exact ih (Dev.arbServe_memWf (Dev.leave_memWf h_d))

@[simp ↓] theorem Dev.drain_memWf {d : Dev} {p : Nat} (h_d : d.memWf = true) : (Dev.drain d p).memWf = true := by
  unfold Dev.drain
  split
  · exact drainGo_memWf h_d
  · exact h_d

@[simp ↓] theorem Dev.sendVia_memWf {d : Dev} {p : Nat} {arrival : Option Nat} {f : Frame} (h_d : d.memWf = true) :
    (Dev.sendVia d p arrival f).memWf = true := by
  unfold Dev.sendVia
  simp (maxDischargeDepth := 100) +contextual [*]

@[simp ↓] theorem Dev.sendOn_memWf {d : Dev} {p : Nat} {f : Frame} (h_d : d.memWf = true) :
    (Dev.sendOn d p f).memWf = true := by
  unfold Dev.sendOn
  simp (maxDischargeDepth := 100) +contextual [*]

@[simp ↓] theorem Dev.sendRouted_memWf {d : Dev} {arrival : Option Nat} {f : Frame} (h_d : d.memWf = true) :
    (Dev.sendRouted d arrival f).memWf = true := by
  unfold Dev.sendRouted
  repeat' (first
    | (simp (maxDischargeDepth := 100) +contextual [*]; done)
    | (dsimp only; split)
    | split)

@[simp ↓] theorem Dev.sendNow_memWf {d : Dev} {p : Nat} {f : Frame} (h_d : d.memWf = true) :
    (Dev.sendNow d p f).memWf = true := by
  unfold Dev.sendNow
  simp (maxDischargeDepth := 100) +contextual [*]

@[simp ↓] theorem Dev.sendCtrl_memWf {d : Dev} {p : Nat} {nak : Option W16} (h_d : d.memWf = true) :
    (Dev.sendCtrl d p nak).memWf = true := by
  unfold Dev.sendCtrl
  simp (maxDischargeDepth := 100) +contextual [*]

@[simp ↓] theorem Dev.gotAck_memWf {d : Dev} {p : Nat} {a : W16} (h_d : d.memWf = true) :
    (Dev.gotAck d p a).memWf = true := by
  unfold Dev.gotAck
  simp (maxDischargeDepth := 100) +contextual [*]

@[simp ↓] theorem Dev.replayFrom_memWf {d : Dev} {p i : Nat} (h_d : d.memWf = true) :
    (Dev.replayFrom d p i).memWf = true := by
  unfold Dev.replayFrom
  simp (maxDischargeDepth := 100) +contextual [*]

@[simp ↓] theorem Dev.linkFail_memWf {d : Dev} {p : Nat} (h_d : d.memWf = true) :
    (Dev.linkFail d p).memWf = true := by
  unfold Dev.linkFail
  simp (maxDischargeDepth := 100) +contextual [*]

@[simp ↓] theorem Dev.replayDue_memWf {d : Dev} {p i : Nat} (h_d : d.memWf = true) :
    (Dev.replayDue d p i).memWf = true := by
  unfold Dev.replayDue
  simp (maxDischargeDepth := 100) +contextual [*]

@[simp ↓] theorem Dev.gotNak_memWf {d : Dev} {p : Nat} {n : W16} (h_d : d.memWf = true) :
    (Dev.gotNak d p n).memWf = true := by
  unfold Dev.gotNak
  repeat' (first
    | (simp (maxDischargeDepth := 100) +contextual [*]; done)
    | (dsimp only; split))

@[simp ↓] theorem Dev.countRx_memWf {d : Dev} {p : Nat} {f : Frame} (h_d : d.memWf = true) :
    (Dev.countRx d p f).memWf = true := by
  unfold Dev.countRx
  simp (maxDischargeDepth := 100) +contextual [*]

@[simp ↓] theorem Dev.discard_memWf {d : Dev} {p : Nat} (h_d : d.memWf = true) :
    (Dev.discard d p).memWf = true := by
  unfold Dev.discard
  simp (maxDischargeDepth := 100) +contextual [*]

@[simp ↓] theorem Dev.acceptSeq_memWf {d : Dev} {p t : Nat} {f : Frame} {act : Frame → Dev → Dev} (h_d : d.memWf = true) (h_act : ∀ e0 e1, e1.memWf = true → (act e0 e1).memWf = true) :
    (Dev.acceptSeq d p t f act).memWf = true := by
  unfold Dev.acceptSeq
  simp (maxDischargeDepth := 100) +contextual [*]

@[simp ↓] theorem Dev.consumed_memWf {d : Dev} {p : Nat} {f : Frame} (h_d : d.memWf = true) :
    (Dev.consumed d p f).memWf = true := by
  unfold Dev.consumed
  simp (maxDischargeDepth := 100) +contextual [*]

@[simp ↓] theorem Dev.portDown_memWf {d : Dev} {p : Nat} (h_d : d.memWf = true) :
    (Dev.portDown d p).memWf = true := by
  unfold Dev.portDown
  simp (maxDischargeDepth := 100) +contextual [*]

@[simp ↓] theorem Dev.portEnable_memWf {d : Dev} {p : Nat} {en : Bool} (h_d : d.memWf = true) :
    (Dev.portEnable d p en).memWf = true := by
  unfold Dev.portEnable
  repeat' (first
    | (simp (maxDischargeDepth := 100) +contextual [*]; done)
    | (dsimp only; split)
    | split)

@[simp ↓] theorem Dev.portLinkUp_memWf {d : Dev} {p nbrDev nbrPort : Nat} (h_d : d.memWf = true) :
    (Dev.portLinkUp d p nbrDev nbrPort).memWf = true := by
  unfold Dev.portLinkUp
  simp (maxDischargeDepth := 100) +contextual [*]

@[simp ↓] theorem Dev.spareSwitch_memWf {d : Dev} {p lane : Nat} (h_d : d.memWf = true) :
    (Dev.spareSwitch d p lane).memWf = true := by
  unfold Dev.spareSwitch
  simp (maxDischargeDepth := 100) +contextual [*]

@[simp ↓] theorem Dev.portCtlWrite_memWf {d : Dev} {p : Nat} {v : W32} (h_d : d.memWf = true) :
    (Dev.portCtlWrite d p v).memWf = true := by
  unfold Dev.portCtlWrite
  simp (maxDischargeDepth := 100) +contextual [*]

@[simp ↓] theorem Dev.twinWrite_memWf {d : Dev} {v : W64} (h_d : d.memWf = true) :
    (Dev.twinWrite d v).memWf = true := by
  unfold Dev.twinWrite
  simp (maxDischargeDepth := 100) +contextual [*]

@[simp ↓] theorem Dev.fabAbsentWrite_memWf {d : Dev} {k : Nat} {v : W32} (h_d : d.memWf = true) :
    (Dev.fabAbsentWrite d k v).memWf = true := by
  unfold Dev.fabAbsentWrite
  simp (maxDischargeDepth := 100) +contextual [*]

@[simp ↓] theorem Dev.clearWritten_memWf {d : Dev} {r : Region} (h_d : d.memWf = true) :
    (Dev.clearWritten d r).memWf = true := by
  unfold Dev.clearWritten
  simp (maxDischargeDepth := 100) +contextual [*]

@[simp ↓] theorem Dev.commitRegion_memWf {d : Dev} {r : Region} (h_d : d.memWf = true) :
    (Dev.commitRegion d r).memWf = true := by
  unfold Dev.commitRegion
  simp (maxDischargeDepth := 100) +contextual [*]

@[simp ↓] theorem Dev.commitAll_memWf {d : Dev} (h_d : d.memWf = true) :
    (Dev.commitAll d).memWf = true := by
  unfold Dev.commitAll
  simp (maxDischargeDepth := 100) +contextual [*]

@[simp ↓] theorem Dev.skipAll_memWf {d : Dev} (h_d : d.memWf = true) :
    (Dev.skipAll d).memWf = true := by
  unfold Dev.skipAll
  simp (maxDischargeDepth := 100) +contextual [*]

@[simp ↓] theorem Dev.pregWrite_memWf {d : Dev} {u n : Nat} {v : W64} (h_d : d.memWf = true) :
    (Dev.pregWrite d u n v).memWf = true := by
  unfold Dev.pregWrite
  simp (maxDischargeDepth := 100) +contextual [*]

@[simp ↓] theorem Dev.sendChorus_memWf {d : Dev} {e : Edge} {pl : List Byte} (h_d : d.memWf = true) :
    (Dev.sendChorus d e pl).memWf = true := by
  unfold Dev.sendChorus
  simp (maxDischargeDepth := 100) +contextual [*]

@[simp ↓] theorem Dev.decided_memWf {d : Dev} {dec causes : Nat} {v : Vote} (h_d : d.memWf = true) :
    (Dev.decided d dec causes v).memWf = true := by
  unfold Dev.decided
  repeat' (first
    | (simp (maxDischargeDepth := 100) +contextual [*]; done)
    | (dsimp only; split))

@[simp ↓] theorem Dev.tryVote_memWf {d : Dev} (h_d : d.memWf = true) :
    (Dev.tryVote d).memWf = true := by
  unfold Dev.tryVote
  repeat' (first
    | (simp (maxDischargeDepth := 100) +contextual [*]; done)
    | (dsimp only; split)
    | split)

@[simp ↓] theorem Dev.formVote_memWf {d : Dev} (h_d : d.memWf = true) :
    (Dev.formVote d).memWf = true := by
  unfold Dev.formVote
  simp (maxDischargeDepth := 100) +contextual [*]

@[simp ↓] theorem Dev.arrive_memWf {d : Dev} {c : Nat} (h_d : d.memWf = true) :
    (Dev.arrive d c).memWf = true := by
  unfold Dev.arrive
  simp (maxDischargeDepth := 100) +contextual [*]

@[simp ↓] theorem Dev.bumpAs_memWf {d : Dev} {ty c t : Nat} {x : Option Nat} {eng : Nat} (h_d : d.memWf = true) :
    (Dev.bumpAs d ty c t x eng).memWf = true := by
  unfold Dev.bumpAs
  simp (maxDischargeDepth := 100) +contextual [*]

@[simp ↓] theorem Dev.bump_memWf {d : Dev} {c t : Nat} {x : Option Nat} {eng : Nat} (h_d : d.memWf = true) :
    (Dev.bump d c t x eng).memWf = true := by
  unfold Dev.bump
  simp (maxDischargeDepth := 100) +contextual [*]

@[simp ↓] theorem Dev.bumpVisible_memWf {d : Dev} {c t : Nat} (h_d : d.memWf = true) :
    (Dev.bumpVisible d c t).memWf = true := by
  unfold Dev.bumpVisible
  simp (maxDischargeDepth := 100) +contextual [*]

@[simp ↓] theorem Dev.releaseBumps_memWf {d : Dev} (h_d : d.memWf = true) :
    (Dev.releaseBumps d).memWf = true := by
  unfold Dev.releaseBumps
  simp (maxDischargeDepth := 100) +contextual [*]

@[simp ↓] theorem Dev.noteAbsent_memWf {d : Dev} (h_d : d.memWf = true) :
    (Dev.noteAbsent d).memWf = true := by
  unfold Dev.noteAbsent
  simp (maxDischargeDepth := 100) +contextual [*]

@[simp ↓] theorem Dev.tokenWrite_memWf {d : Dev} {c t : Nat} {v : W32} (h_d : d.memWf = true) :
    (Dev.tokenWrite d c t v).memWf = true := by
  unfold Dev.tokenWrite
  simp (maxDischargeDepth := 100) +contextual [*]

@[simp ↓] theorem Dev.order1_memWf {d : Dev} {dec causes : Nat} (h_d : d.memWf = true) :
    (Dev.order1 d dec causes).memWf = true := by
  unfold Dev.order1
  simp (maxDischargeDepth := 100) +contextual [*]

@[simp ↓] theorem Dev.bumpDtok_memWf {d : Dev} (h_d : d.memWf = true) :
    (Dev.bumpDtok d).memWf = true := by
  unfold Dev.bumpDtok
  simp (maxDischargeDepth := 100) +contextual [*]

@[simp ↓] theorem Dev.stopNow_memWf {d : Dev} {cause : Nat} (h_d : d.memWf = true) :
    (Dev.stopNow d cause).memWf = true := by
  unfold Dev.stopNow
  simp (maxDischargeDepth := 100) +contextual [*]

@[simp ↓] theorem Dev.estEvent_memWf {d : Dev} (h_d : d.memWf = true) :
    (Dev.estEvent d).memWf = true := by
  unfold Dev.estEvent
  simp (maxDischargeDepth := 100) +contextual [*]

@[simp ↓] theorem Dev.applyHold_memWf {d : Dev} {causes : Nat} (h_d : d.memWf = true) :
    (Dev.applyHold d causes).memWf = true := by
  unfold Dev.applyHold
  simp (maxDischargeDepth := 100) +contextual [*]

@[simp ↓] theorem Dev.revote_memWf {d : Dev} (h_d : d.memWf = true) :
    (Dev.revote d).memWf = true := by
  unfold Dev.revote
  simp (maxDischargeDepth := 100) +contextual [*]

@[simp ↓] theorem Dev.chrCfgWrite_memWf {d : Dev} {v : W64} (h_d : d.memWf = true) :
    (Dev.chrCfgWrite d v).memWf = true := by
  unfold Dev.chrCfgWrite
  simp (maxDischargeDepth := 100) +contextual [*]

@[simp ↓] theorem Dev.ctrlArrived_memWf {d : Dev} {p : Nat} {f : Frame} (h_d : d.memWf = true) :
    (Dev.ctrlArrived d p f).memWf = true := by
  unfold Dev.ctrlArrived
  simp (maxDischargeDepth := 100) +contextual [*]

@[simp ↓] theorem Dev.chorusVote_memWf {d : Dev} {p : Nat} {f : Frame} (h_d : d.memWf = true) :
    (Dev.chorusVote d p f).memWf = true := by
  unfold Dev.chorusVote
  repeat' (first
    | (simp (maxDischargeDepth := 100) +contextual [*]; done)
    | (dsimp only; split)
    | split)

@[simp ↓] theorem Dev.chorusDecision_memWf {d : Dev} {p : Nat} {f : Frame} (h_d : d.memWf = true) :
    (Dev.chorusDecision d p f).memWf = true := by
  unfold Dev.chorusDecision
  repeat' (first
    | (simp (maxDischargeDepth := 100) +contextual [*]; done)
    | (dsimp only; split)
    | split)

end Sys2Proof.Machine
end

