-- ==== Sys2Proof/Laws/MemContexts.lean ====
section
/-! SUPPORT. Memory stays in its canonical form: one lemma for each function of the device, for the Lular unit, contexts, queues, leases and locks. Only a few
functions touch memory; every other lemma says that the function passes the form on. -/

namespace Sys2Proof.Machine

@[simp ↓] theorem Dev.setLulState_memWf {d : Dev} {v : Nat} (h_d : d.memWf = true) :
    (Dev.setLulState d v).memWf = true := by
  unfold Dev.setLulState
  simp (maxDischargeDepth := 100) +contextual [*]

@[simp ↓] theorem Dev.onLul_memWf {d : Dev} {f : Lul → Lul} (h_d : d.memWf = true) :
    (Dev.onLul d f).memWf = true := by
  unfold Dev.onLul
  simp (maxDischargeDepth := 100) +contextual [*]

@[simp ↓] theorem Dev.setRound_memWf {d : Dev} {r : Option LulRound} (h_d : d.memWf = true) :
    (Dev.setRound d r).memWf = true := by
  unfold Dev.setRound
  simp (maxDischargeDepth := 100) +contextual [*]

@[simp ↓] theorem Dev.setSite_memWf {d : Dev} {s : Nat} {v : LulSite} (h_d : d.memWf = true) :
    (Dev.setSite d s v).memWf = true := by
  unfold Dev.setSite
  simp (maxDischargeDepth := 100) +contextual [*]

@[simp ↓] theorem Dev.setCur_memWf {d : Dev} {i : Nat} {b : Bool} (h_d : d.memWf = true) :
    (Dev.setCur d i b).memWf = true := by
  unfold Dev.setCur
  simp (maxDischargeDepth := 100) +contextual [*]

@[simp ↓] theorem Dev.fileFrame_memWf {d : Dev} {sq : Nat} {bs : List Byte} (h_d : d.memWf = true) :
    (Dev.fileFrame d sq bs).memWf = true := by
  unfold Dev.fileFrame
  simp (maxDischargeDepth := 100) +contextual [*]

@[simp ↓] theorem Dev.sendLul_memWf {d : Dev} {f : LulFrame} (h_d : d.memWf = true) :
    (Dev.sendLul d f).memWf = true := by
  unfold Dev.sendLul
  repeat' (first
    | (simp (maxDischargeDepth := 100) +contextual [*]; done)
    | (dsimp only; split))

@[simp ↓] theorem Dev.lulUnhold_memWf {d : Dev} (h_d : d.memWf = true) :
    (Dev.lulUnhold d).memWf = true := by
  unfold Dev.lulUnhold
  simp (maxDischargeDepth := 100) +contextual [*]

@[simp ↓] theorem Dev.sendData_memWf {d : Dev} {sq : Nat} (h_d : d.memWf = true) :
    (Dev.sendData d sq).memWf = true := by
  unfold Dev.sendData
  repeat' (first
    | (simp (maxDischargeDepth := 100) +contextual [*]; done)
    | split)

@[simp ↓] theorem Dev.resendData_memWf {d : Dev} {sqs : List Nat} (h_d : d.memWf = true) :
    (Dev.resendData d sqs).memWf = true := by
  unfold Dev.resendData
  repeat' (first
    | (simp (maxDischargeDepth := 100) +contextual [*]; done)
    | split
    | (apply foldl_memWf <;> intros))

@[simp ↓] theorem Dev.sendNak_memWf {d : Dev} {r : LulRound} (h_d : d.memWf = true) :
    (Dev.sendNak d r).memWf = true := by
  unfold Dev.sendNak
  simp (maxDischargeDepth := 100) +contextual [*]

@[simp ↓] theorem Dev.sendRack_memWf {d : Dev} {r : LulRound} (h_d : d.memWf = true) :
    (Dev.sendRack d r).memWf = true := by
  unfold Dev.sendRack
  simp (maxDischargeDepth := 100) +contextual [*]

@[simp ↓] theorem Dev.showOwd_memWf {d : Dev} (h_d : d.memWf = true) :
    (Dev.showOwd d).memWf = true := by
  unfold Dev.showOwd
  simp (maxDischargeDepth := 100) +contextual [*]

@[simp ↓] theorem Dev.appendLog_memWf {d : Dev} {e : List Byte} (h_d : d.memWf = true) :
    (Dev.appendLog d e).memWf = true := by
  unfold Dev.appendLog
  simp (maxDischargeDepth := 100) +contextual [*]

@[simp ↓] theorem Dev.logSkip_memWf {d : Dev} {r : LulRound} {cause : Nat} {t : Option Nat} (h_d : d.memWf = true) :
    (Dev.logSkip d r cause t).memWf = true := by
  unfold Dev.logSkip
  simp (maxDischargeDepth := 100) +contextual [*]

@[simp ↓] theorem Dev.skipRound_memWf {d : Dev} {r : LulRound} {cause : Nat} (h_d : d.memWf = true) :
    (Dev.skipRound d r cause).memWf = true := by
  unfold Dev.skipRound
  simp (maxDischargeDepth := 100) +contextual [*]

@[simp ↓] theorem Dev.takeDecision_memWf {d : Dev} {r : LulRound} {c : LulDecision} {cause : Nat} (h_d : d.memWf = true) :
    (Dev.takeDecision d r c cause).memWf = true := by
  unfold Dev.takeDecision
  repeat' (first
    | (simp (maxDischargeDepth := 100) +contextual [*]; done)
    | (dsimp only; split))

@[simp ↓] theorem Dev.sendDec_memWf {d : Dev} {x : Nat × Nat × LulDecision} (h_d : d.memWf = true) :
    (Dev.sendDec d x).memWf = true := by
  unfold Dev.sendDec
  simp (maxDischargeDepth := 100) +contextual [*]

@[simp ↓] theorem Dev.issueDecision_memWf {d : Dev} {r : LulRound} {c : LulDecision} {cause : Nat} (h_d : d.memWf = true) :
    (Dev.issueDecision d r c cause).memWf = true := by
  unfold Dev.issueDecision
  simp (maxDischargeDepth := 100) +contextual [*]

@[simp ↓] theorem Dev.tryDecide_memWf {d : Dev} (h_d : d.memWf = true) :
    (Dev.tryDecide d).memWf = true := by
  unfold Dev.tryDecide
  repeat' (first
    | (simp (maxDischargeDepth := 100) +contextual [*]; done)
    | split)

@[simp ↓] theorem Dev.layoutEnds_memWf {d : Dev} {r : LulRound} (h_d : d.memWf = true) :
    (Dev.layoutEnds d r).memWf = true := by
  unfold Dev.layoutEnds
  simp (maxDischargeDepth := 100) +contextual [*]

@[simp ↓] theorem Dev.startSending_memWf {d : Dev} {r : LulRound} (h_d : d.memWf = true) :
    (Dev.startSending d r).memWf = true := by
  unfold Dev.startSending
  simp (maxDischargeDepth := 100) +contextual [*]

@[simp ↓] theorem Dev.formRound_memWf {d : Dev} {r : LulRound} (h_d : d.memWf = true) :
    (Dev.formRound d r).memWf = true := by
  unfold Dev.formRound
  simp (maxDischargeDepth := 100) +contextual [*]

@[simp ↓] theorem Dev.showRound_memWf {d : Dev} {r : Nat} {bye : Bool} {partner : Nat} (h_d : d.memWf = true) :
    (Dev.showRound d r bye partner).memWf = true := by
  unfold Dev.showRound
  simp (maxDischargeDepth := 100) +contextual [*]

@[simp ↓] theorem Dev.replaySkip_memWf {d : Dev} {e : List Byte} (h_d : d.memWf = true) :
    (Dev.replaySkip d e).memWf = true := by
  unfold Dev.replaySkip
  simp (maxDischargeDepth := 100) +contextual [*]

@[simp ↓] theorem Dev.turnAway_memWf {d : Dev} {r : Nat} {partner : Option Nat} (h_d : d.memWf = true) :
    (Dev.turnAway d r partner).memWf = true := by
  unfold Dev.turnAway
  repeat' (first
    | (simp (maxDischargeDepth := 100) +contextual [*]; done)
    | (dsimp only; split)
    | split)

@[simp ↓] theorem Dev.openWith_memWf {d : Dev} {rd : LulRound} (h_d : d.memWf = true) :
    (Dev.openWith d rd).memWf = true := by
  unfold Dev.openWith
  repeat' (first
    | (simp (maxDischargeDepth := 100) +contextual [*]; done)
    | split)

@[simp ↓] theorem Dev.openRound_memWf {d : Dev} {r : Nat} (h_d : d.memWf = true) :
    (Dev.openRound d r).memWf = true := by
  unfold Dev.openRound
  repeat' (first
    | (simp (maxDischargeDepth := 100) +contextual [*]; done)
    | (dsimp only; split)
    | split)

@[simp ↓] theorem Dev.reform_memWf {d : Dev} {r : LulRound} (h_d : d.memWf = true) :
    (Dev.reform d r).memWf = true := by
  unfold Dev.reform
  simp (maxDischargeDepth := 100) +contextual [*]

@[simp ↓] theorem Dev.lulAfter_memWf {d : Dev} (h_d : d.memWf = true) :
    (Dev.lulAfter d).memWf = true := by
  unfold Dev.lulAfter
  repeat' (first
    | (simp (maxDischargeDepth := 100) +contextual [*]; done)
    | (dsimp only; split)
    | split)

@[simp ↓] theorem Dev.scatter_memWf {d : Dev} {ps : List (Nat × Nat)} {bs : List Byte} (h_d : d.memWf = true) :
    (Dev.scatter d ps bs).memWf = true := by
  unfold Dev.scatter
  simp (maxDischargeDepth := 100) +contextual [*]

@[simp ↓] theorem Dev.archAppend_memWf {d : Dev} {round : Nat} (h_d : d.memWf = true) :
    (Dev.archAppend d round).memWf = true := by
  unfold Dev.archAppend
  simp (maxDischargeDepth := 100) +contextual [*]

@[simp ↓] theorem Dev.archReplay_memWf {d : Dev} {round : Nat} (h_d : d.memWf = true) :
    (Dev.archReplay d round).memWf = true := by
  unfold Dev.archReplay
  repeat' (first
    | (simp (maxDischargeDepth := 100) +contextual [*]; done)
    | (dsimp only; split))

@[simp ↓] theorem Dev.sendJdata_memWf {d : Dev} {dstSite round : Nat} {bs : List Byte} {sq : Nat} (h_d : d.memWf = true) :
    (Dev.sendJdata d dstSite round bs sq).memWf = true := by
  unfold Dev.sendJdata
  simp (maxDischargeDepth := 100) +contextual [*]

@[simp ↓] theorem Dev.sendJend_memWf {d : Dev} {dstSite round : Nat} {bs : List Byte} (h_d : d.memWf = true) :
    (Dev.sendJend d dstSite round bs).memWf = true := by
  unfold Dev.sendJend
  simp (maxDischargeDepth := 100) +contextual [*]

@[simp ↓] theorem Dev.sendJoin_memWf {d : Dev} {dstSite round : Nat} {bs : List Byte} {lo : Nat} (h_d : d.memWf = true) :
    (Dev.sendJoin d dstSite round bs lo).memWf = true := by
  unfold Dev.sendJoin
  simp (maxDischargeDepth := 100) +contextual [*]

@[simp ↓] theorem Dev.joinMerged_memWf {d : Dev} {k : Nat} (h_d : d.memWf = true) :
    (Dev.joinMerged d k).memWf = true := by
  unfold Dev.joinMerged
  repeat' (first
    | (simp (maxDischargeDepth := 100) +contextual [*]; done)
    | (dsimp only; split))

@[simp ↓] theorem Dev.endMerge_memWf {d : Dev} {k : Nat} (h_d : d.memWf = true) :
    (Dev.endMerge d k).memWf = true := by
  unfold Dev.endMerge
  repeat' (first
    | (simp (maxDischargeDepth := 100) +contextual [*]; done)
    | (dsimp only; split))

@[simp ↓] theorem Dev.beginMerge_memWf {d : Dev} {k : Nat} (h_d : d.memWf = true) :
    (Dev.beginMerge d k).memWf = true := by
  unfold Dev.beginMerge
  simp (maxDischargeDepth := 100) +contextual [*]

@[simp ↓] theorem Dev.replayFence_memWf {d : Dev} {r : LulRound} (h_d : d.memWf = true) :
    (Dev.replayFence d r).memWf = true := by
  unfold Dev.replayFence
  repeat' (first
    | (simp (maxDischargeDepth := 100) +contextual [*]; done)
    | (dsimp only; split))

@[simp ↓] theorem Dev.mergeFence_memWf {d : Dev} (h_d : d.memWf = true) :
    (Dev.mergeFence d).memWf = true := by
  unfold Dev.mergeFence
  repeat' (first
    | (simp (maxDischargeDepth := 100) +contextual [*]; done)
    | split)

@[simp ↓] theorem Dev.fenceAgain_memWf {d : Dev} (h_d : d.memWf = true) :
    (Dev.fenceAgain d).memWf = true := by
  unfold Dev.fenceAgain
  simp (maxDischargeDepth := 100) +contextual [*]

@[simp ↓] theorem Dev.lulDropped_memWf {d : Dev} {l : Nat} (h_d : d.memWf = true) :
    (Dev.lulDropped d l).memWf = true := by
  unfold Dev.lulDropped
  simp (maxDischargeDepth := 100) +contextual [*]

@[simp ↓] theorem Dev.lulCrcerr_memWf {d : Dev} {l : Nat} (h_d : d.memWf = true) :
    (Dev.lulCrcerr d l).memWf = true := by
  unfold Dev.lulCrcerr
  simp (maxDischargeDepth := 100) +contextual [*]

@[simp ↓] theorem Dev.lulSift_memWf {d : Dev} {l : Nat} {f : LulFrame} {act : Dev → Dev} (h_d : d.memWf = true) (h_act : ∀ e0, e0.memWf = true → (act e0).memWf = true) :
    (Dev.lulSift d l f act).memWf = true := by
  unfold Dev.lulSift
  simp (maxDischargeDepth := 100) +contextual [*]

@[simp ↓] theorem Dev.lulReceive_memWf {d : Dev} {l t : Nat} {f : LulFrame} {act : Dev → Dev} (h_d : d.memWf = true) (h_act : ∀ e0, e0.memWf = true → (act e0).memWf = true) :
    (Dev.lulReceive d l t f act).memWf = true := by
  unfold Dev.lulReceive
  simp (maxDischargeDepth := 100) +contextual [*]

@[simp ↓] theorem Dev.lulData_memWf {d : Dev} {f : LulFrame} (h_d : d.memWf = true) :
    (Dev.lulData d f).memWf = true := by
  unfold Dev.lulData
  repeat' (first
    | with_reducible exact h_d
    | with_reducible apply Dev.layoutEnds_memWf
    | with_reducible apply Dev.sendRack_memWf
    | with_reducible apply Dev.sendNak_memWf
    | with_reducible apply Dev.tryDecide_memWf
    | with_reducible apply Dev.setLulState_memWf
    | with_reducible apply Dev.setRegN_memWf
    | with_reducible apply Dev.setRound_memWf
    | with_reducible apply Dev.fileFrame_memWf
    | (dsimp only; split)
    | split)

@[simp ↓] theorem Dev.lulNak_memWf {d : Dev} {f : LulFrame} (h_d : d.memWf = true) :
    (Dev.lulNak d f).memWf = true := by
  unfold Dev.lulNak
  repeat' (first
    | (simp (maxDischargeDepth := 100) +contextual [*]; done)
    | split)

@[simp ↓] theorem Dev.lulRack_memWf {d : Dev} {f : LulFrame} (h_d : d.memWf = true) :
    (Dev.lulRack d f).memWf = true := by
  unfold Dev.lulRack
  repeat' (first
    | (simp (maxDischargeDepth := 100) +contextual [*]; done)
    | (dsimp only; split)
    | split)

@[simp ↓] theorem Dev.lulDec_memWf {d : Dev} {f : LulFrame} (h_d : d.memWf = true) :
    (Dev.lulDec d f).memWf = true := by
  unfold Dev.lulDec
  repeat' (first
    | (simp (maxDischargeDepth := 100) +contextual [*]; done)
    | (dsimp only; split))

@[simp ↓] theorem Dev.lulDack_memWf {d : Dev} {f : LulFrame} (h_d : d.memWf = true) :
    (Dev.lulDack d f).memWf = true := by
  unfold Dev.lulDack
  simp (maxDischargeDepth := 100) +contextual [*]

@[simp ↓] theorem Dev.repeatDec_memWf {d : Dev} (h_d : d.memWf = true) :
    (Dev.repeatDec d).memWf = true := by
  unfold Dev.repeatDec
  simp (maxDischargeDepth := 100) +contextual [*]

@[simp ↓] theorem Dev.partnerReturns_memWf {d : Dev} {s : Nat} (h_d : d.memWf = true) :
    (Dev.partnerReturns d s).memWf = true := by
  unfold Dev.partnerReturns
  repeat' (first
    | (simp (maxDischargeDepth := 100) +contextual [*]; done)
    | (dsimp only; split))

@[simp ↓] theorem Dev.lulCroak_memWf {d : Dev} {f : LulFrame} (h_d : d.memWf = true) :
    (Dev.lulCroak d f).memWf = true := by
  unfold Dev.lulCroak
  simp (maxDischargeDepth := 100) +contextual [*]

@[simp ↓] theorem Dev.lulBusy_memWf {d : Dev} {f : LulFrame} (h_d : d.memWf = true) :
    (Dev.lulBusy d f).memWf = true := by
  unfold Dev.lulBusy
  repeat' (first
    | (simp (maxDischargeDepth := 100) +contextual [*]; done)
    | (dsimp only; split))

@[simp ↓] theorem Dev.lulAbsent_memWf {d : Dev} {s : Nat} (h_d : d.memWf = true) :
    (Dev.lulAbsent d s).memWf = true := by
  unfold Dev.lulAbsent
  repeat' (first
    | (simp (maxDischargeDepth := 100) +contextual [*]; done)
    | (dsimp only; split)
    | split)

@[simp ↓] theorem Dev.lulFdone_memWf {d : Dev} {v : W32} (h_d : d.memWf = true) :
    (Dev.lulFdone d v).memWf = true := by
  unfold Dev.lulFdone
  repeat' (first
    | (simp (maxDischargeDepth := 100) +contextual [*]; done)
    | (dsimp only; split))

@[simp ↓] theorem Dev.lulMdone_memWf {d : Dev} {v : W32} (h_d : d.memWf = true) : (Dev.lulMdone d v).memWf = true := by
  unfold Dev.lulMdone
  dsimp only
  repeat' split
  all_goals first | exact h_d | simp (maxDischargeDepth := 100) [h_d]

@[simp ↓] theorem Dev.lulDrop_memWf {d : Dev} (h_d : d.memWf = true) :
    (Dev.lulDrop d).memWf = true := by
  unfold Dev.lulDrop
  repeat' (first
    | (simp (maxDischargeDepth := 100) +contextual [*]; done)
    | split)

@[simp ↓] theorem Dev.lulJoin_memWf {d : Dev} {donor : Nat} (h_d : d.memWf = true) :
    (Dev.lulJoin d donor).memWf = true := by
  unfold Dev.lulJoin
  simp (maxDischargeDepth := 100) +contextual [*]

@[simp ↓] theorem Dev.lulCmd_memWf {d : Dev} {v : W32} (h_d : d.memWf = true) :
    (Dev.lulCmd d v).memWf = true := by
  unfold Dev.lulCmd
  repeat' (first
    | (simp (maxDischargeDepth := 100) +contextual [*]; done)
    | split)

@[simp ↓] theorem Dev.lulJreq_memWf {d : Dev} {f : LulFrame} (h_d : d.memWf = true) :
    (Dev.lulJreq d f).memWf = true := by
  unfold Dev.lulJreq
  simp (maxDischargeDepth := 100) +contextual [*]

@[simp ↓] theorem Dev.joinNak_memWf {d : Dev} (h_d : d.memWf = true) :
    (Dev.joinNak d).memWf = true := by
  unfold Dev.joinNak
  simp (maxDischargeDepth := 100) +contextual [*]

@[simp ↓] theorem Dev.lulJdata_memWf {d : Dev} {f : LulFrame} (h_d : d.memWf = true) :
    (Dev.lulJdata d f).memWf = true := by
  unfold Dev.lulJdata
  simp (maxDischargeDepth := 100) +contextual [*]

@[simp ↓] theorem Dev.lulJend_memWf {d : Dev} {f : LulFrame} (h_d : d.memWf = true) :
    (Dev.lulJend d f).memWf = true := by
  unfold Dev.lulJend
  simp (maxDischargeDepth := 100) +contextual [*]

@[simp ↓] theorem Dev.joinerWrite_memWf {d : Dev} {was now : Bool} (h_d : d.memWf = true) :
    (Dev.joinerWrite d was now).memWf = true := by
  unfold Dev.joinerWrite
  simp (maxDischargeDepth := 100) +contextual [*]

@[simp ↓] theorem Dev.lulCtlWrite_memWf {d : Dev} {v : W64} (h_d : d.memWf = true) :
    (Dev.lulCtlWrite d v).memWf = true := by
  unfold Dev.lulCtlWrite
  simp (maxDischargeDepth := 100) +contextual [*]

@[simp ↓] theorem Dev.lulCfgWrite_memWf {d : Dev} {r : Reg} {v : W64} (h_d : d.memWf = true) :
    (Dev.lulCfgWrite d r v).memWf = true := by
  unfold Dev.lulCfgWrite
  simp (maxDischargeDepth := 100) +contextual [*]

@[simp ↓] theorem Dev.qbaseWrite_memWf {d : Dev} {c q : Nat} {v : W64} (h_d : d.memWf = true) :
    (Dev.qbaseWrite d c q v).memWf = true := by
  unfold Dev.qbaseWrite
  simp (maxDischargeDepth := 100) +contextual [*]

@[simp ↓] theorem Dev.resumePeers_memWf {d : Dev} {c q : Nat} (h_d : d.memWf = true) :
    (Dev.resumePeers d c q).memWf = true := by
  unfold Dev.resumePeers
  simp (maxDischargeDepth := 100) +contextual [*]

@[simp ↓] theorem Dev.qcfgWrite_memWf {d : Dev} {c q : Nat} {v : W32} (h_d : d.memWf = true) :
    (Dev.qcfgWrite d c q v).memWf = true := by
  unfold Dev.qcfgWrite
  simp (maxDischargeDepth := 100) +contextual [*]

@[simp ↓] theorem Dev.writeMarked_memWf {d : Dev} {a : Nat} {bs : List Byte} {bad : List Nat} (h_d : d.memWf = true) :
    (Dev.writeMarked d a bs bad).memWf = true := by
  unfold Dev.writeMarked
  simp (maxDischargeDepth := 100) +contextual [*]

@[simp ↓] theorem Dev.intercore_memWf {d : Dev} {c q : Nat} (h_d : d.memWf = true) :
    (Dev.intercore d c q).memWf = true := by
  unfold Dev.intercore
  simp (maxDischargeDepth := 100) +contextual [*]

@[simp ↓] theorem Dev.leaseExc_memWf {d : Dev} {c x u : Nat} (h_d : d.memWf = true) :
    (Dev.leaseExc d c x u).memWf = true := by
  unfold Dev.leaseExc
  simp (maxDischargeDepth := 100) +contextual [*]

@[simp ↓] theorem Dev.leaseMove_memWf {d : Dev} {c u : Nat} (h_d : d.memWf = true) :
    (Dev.leaseMove d c u).memWf = true := by
  unfold Dev.leaseMove
  repeat' (first
    | (simp (maxDischargeDepth := 100) +contextual [*]; done)
    | (dsimp only; split))

@[simp ↓] theorem Dev.tryGate_memWf {d : Dev} {c x : Nat} {g : Gate} (h_d : d.memWf = true) :
    (Dev.tryGate d c x g).2.memWf = true := by
  unfold Dev.tryGate
  repeat' (first
    | (simp (maxDischargeDepth := 100) +contextual [*]; done)
    | (dsimp only; split))

@[simp ↓] theorem Dev.tryGates_memWf {d : Dev} {c x : Nat} {gs : List Gate} (h : d.memWf = true) :
    (d.tryGates c x gs).2.memWf = true := by
  induction gs generalizing d with
  | nil => exact h
  | cons g gs ih =>
    unfold Dev.tryGates
    dsimp only
    split
    · exact ih (Dev.tryGate_memWf h)
    · exact Dev.tryGate_memWf h

@[simp ↓] theorem Dev.waitOn_memWf {d : Dev} {c x : Nat} {gs : List Gate} {g : Gate} (h_d : d.memWf = true) :
    (Dev.waitOn d c x gs g).memWf = true := by
  unfold Dev.waitOn
  repeat' (first
    | (simp (maxDischargeDepth := 100) +contextual [*]; done)
    | (dsimp only; split))

@[simp ↓] theorem Dev.reevaluate_memWf {d : Dev} {c x : Nat} (h_d : d.memWf = true) : (Dev.reevaluate d c x).memWf = true := by
  unfold Dev.reevaluate
  dsimp only
  split
  · exact h_d
  · split
    · simp [h_d]
    · have h := Dev.tryGates_memWf (c := c) (x := x) (gs := (d.ctx c x).gated) h_d
      split <;> (rename_i heq; rw [heq] at h; simp [h])

@[simp ↓] theorem Dev.haltSelf_memWf {d : Dev} {c x : Nat} (h_d : d.memWf = true) :
    (Dev.haltSelf d c x).memWf = true := by
  unfold Dev.haltSelf
  simp (maxDischargeDepth := 100) +contextual [*]

@[simp ↓] theorem Dev.cmdRej_memWf {d : Dev} {c : Nat} (h_d : d.memWf = true) :
    (Dev.cmdRej d c).memWf = true := by
  unfold Dev.cmdRej
  simp (maxDischargeDepth := 100) +contextual [*]

@[simp ↓] theorem Dev.dropPosts_memWf {d : Dev} {c x : Nat} (h_d : d.memWf = true) :
    (Dev.dropPosts d c x).memWf = true := by
  unfold Dev.dropPosts
  simp (maxDischargeDepth := 100) +contextual [*]

@[simp ↓] theorem Dev.dropStored_memWf {d : Dev} {c x : Nat} (h_d : d.memWf = true) :
    (Dev.dropStored d c x).memWf = true := by
  unfold Dev.dropStored
  simp (maxDischargeDepth := 100) +contextual [*]

@[simp ↓] theorem Dev.resetCtx_memWf {d : Dev} {c x : Nat} (h_d : d.memWf = true) :
    (Dev.resetCtx d c x).memWf = true := by
  unfold Dev.resetCtx
  simp (maxDischargeDepth := 100) +contextual [*]

@[simp ↓] theorem Dev.ctxcmd_memWf {d : Dev} {c x op : Nat} (h_d : d.memWf = true) :
    (Dev.ctxcmd d c x op).memWf = true := by
  unfold Dev.ctxcmd
  repeat' (first
    | (simp (maxDischargeDepth := 100) +contextual [*]; done)
    | (dsimp only; split)
    | split)

@[simp ↓] theorem Dev.ctxResetDone_memWf {d : Dev} {c x : Nat} (h_d : d.memWf = true) :
    (Dev.ctxResetDone d c x).memWf = true := by
  unfold Dev.ctxResetDone
  simp (maxDischargeDepth := 100) +contextual [*]

@[simp ↓] theorem Dev.ctxWrite_memWf {d : Dev} {c x o : Nat} {v : W64} (h_d : d.memWf = true) :
    (Dev.ctxWrite d c x o v).memWf = true := by
  unfold Dev.ctxWrite
  simp (maxDischargeDepth := 100) +contextual [*]

@[simp ↓] theorem Dev.takeLock_memWf {d : Dev} {o : Owner} {a u : Nat} (h_d : d.memWf = true) :
    (Dev.takeLock d o a u).2.memWf = true := by
  unfold Dev.takeLock
  repeat' (first
    | (simp (maxDischargeDepth := 100) +contextual [*]; done)
    | split)

@[simp ↓] theorem Dev.freeLock_memWf {d : Dev} {i : Nat} (h_d : d.memWf = true) :
    (Dev.freeLock d i).memWf = true := by
  unfold Dev.freeLock
  simp (maxDischargeDepth := 100) +contextual [*]

@[simp ↓] theorem Dev.holdLock_memWf {d : Dev} {i : Nat} (h_d : d.memWf = true) :
    (Dev.holdLock d i).memWf = true := by
  unfold Dev.holdLock
  simp (maxDischargeDepth := 100) +contextual [*]

@[simp ↓] theorem Dev.dropLock_memWf {d : Dev} {i : Nat} (h_d : d.memWf = true) :
    (Dev.dropLock d i).memWf = true := by
  unfold Dev.dropLock
  simp (maxDischargeDepth := 100) +contextual [*]

@[simp ↓] theorem Dev.endLock_memWf {d : Dev} {i : Option Nat} (h_d : d.memWf = true) :
    (Dev.endLock d i).memWf = true := by
  unfold Dev.endLock
  repeat' (first
    | (simp (maxDischargeDepth := 100) +contextual [*]; done)
    | split)

@[simp ↓] theorem Dev.busyRec_memWf {d : Dev} {o : Owner} {a u : Nat} (h_d : d.memWf = true) :
    (Dev.busyRec d o a u).memWf = true := by
  unfold Dev.busyRec
  simp (maxDischargeDepth := 100) +contextual [*]

end Sys2Proof.Machine
end

