-- ==== Sys2Proof/Laws/MemSnapshots.lean ====
section
/-! SUPPORT. Memory stays in its canonical form: one lemma for each function of the device, for clutches, power stages and the boundary. Only a few
functions touch memory; every other lemma says that the function passes the form on. -/

namespace Sys2Proof.Machine

@[simp ↓] theorem Dev.putAt_memWf {d : Dev} {a : Nat} {bs : List Byte} (h_d : d.memWf = true) :
    (Dev.putAt d a bs).memWf = true := by
  unfold Dev.putAt
  simp (maxDischargeDepth := 100) +contextual [*]

@[simp ↓] theorem Dev.estimate_memWf {d : Dev} (h_d : d.memWf = true) :
    (Dev.estimate d).memWf = true := by
  unfold Dev.estimate
  simp (maxDischargeDepth := 100) +contextual [*]

@[simp ↓] theorem Dev.protectPages_memWf {d : Dev} {k : Nat} {as : List Area} (h_d : d.memWf = true) :
    (Dev.protectPages d k as).memWf = true := by
  unfold Dev.protectPages
  simp (maxDischargeDepth := 100) +contextual [*]

@[simp ↓] theorem Dev.makeGood_memWf {d : Dev} {k : Nat} (h_d : d.memWf = true) :
    (Dev.makeGood d k).memWf = true := by
  unfold Dev.makeGood
  simp (maxDischargeDepth := 100) +contextual [*]

@[simp ↓] theorem Dev.replayCheck_memWf {d : Dev} {k : Nat} {as : List Area} (h_d : d.memWf = true) :
    (Dev.replayCheck d k as).memWf = true := by
  unfold Dev.replayCheck
  simp (maxDischargeDepth := 100) +contextual [*]

@[simp ↓] theorem Dev.clutchComplete_memWf {d : Dev} {k : Nat} (h_d : d.memWf = true) :
    (Dev.clutchComplete d k).memWf = true := by
  unfold Dev.clutchComplete
  simp (maxDischargeDepth := 100) +contextual [*]

@[simp ↓] theorem Dev.clutchCheck_memWf {d : Dev} {k : Nat} (h_d : d.memWf = true) :
    (Dev.clutchCheck d k).memWf = true := by
  unfold Dev.clutchCheck
  simp (maxDischargeDepth := 100) +contextual [*]

@[simp ↓] theorem Dev.clutchBegin_memWf {d : Dev} {k : Nat} {lock : Option Nat} (h_d : d.memWf = true) :
    (Dev.clutchBegin d k lock).memWf = true := by
  unfold Dev.clutchBegin
  simp (maxDischargeDepth := 100) +contextual [*]

@[simp ↓] theorem Dev.clutchStart_memWf {d : Dev} (h_d : d.memWf = true) :
    (Dev.clutchStart d).memWf = true := by
  unfold Dev.clutchStart
  repeat' (first
    | (simp (maxDischargeDepth := 100) +contextual [*]; done)
    | split
    | (rename_i heq; have hs := congrArg Prod.snd heq; dsimp only at hs; subst hs))

@[simp ↓] theorem Dev.pageCopy_memWf {d : Dev} {pg : Nat} (h_d : d.memWf = true) :
    (Dev.pageCopy d pg).memWf = true := by
  unfold Dev.pageCopy
  repeat' (first
    | (simp (maxDischargeDepth := 100) +contextual [*]; done)
    | (dsimp only; split)
    | split)

@[simp ↓] theorem Dev.releaseWrites_memWf {d : Dev} (h_d : d.memWf = true) :
    (Dev.releaseWrites d).memWf = true := by
  unfold Dev.releaseWrites
  simp (maxDischargeDepth := 100) +contextual [*]

@[simp ↓] theorem Dev.spillRead_memWf {d : Dev} {i : Nat} {s : SpillPage} {o n : Nat} (h_d : d.memWf = true) :
    (Dev.spillRead d i s o n).memWf = true := by
  unfold Dev.spillRead
  simp (maxDischargeDepth := 100) +contextual [*]

@[simp ↓] theorem Dev.pageRead_memWf {d : Dev} {pg : Nat} {t : ProtPage} {o n : Nat} (h_d : d.memWf = true) :
    (Dev.pageRead d pg t o n).memWf = true := by
  unfold Dev.pageRead
  simp (maxDischargeDepth := 100) +contextual [*]

@[simp ↓] theorem Dev.twinHasRead_memWf {d : Dev} {a n : Nat} (h_d : d.memWf = true) :
    (Dev.twinHasRead d a n).memWf = true := by
  unfold Dev.twinHasRead
  repeat' (first
    | (simp (maxDischargeDepth := 100) +contextual [*]; done)
    | (dsimp only; split)
    | split
    | (apply foldl_memWf <;> intros))

@[simp ↓] theorem Dev.storeTwinLeaves_memWf {d : Dev} (h_d : d.memWf = true) :
    (Dev.storeTwinLeaves d).memWf = true := by
  unfold Dev.storeTwinLeaves
  repeat' (first
    | (simp (maxDischargeDepth := 100) +contextual [*]; done)
    | split
    | (apply foldl_memWf <;> intros))

@[simp ↓] theorem Dev.pullSeen_memWf {d0 : Dev} {v : W64} (h_d0 : d0.memWf = true) :
    (Dev.pullSeen d0 v).memWf = true := by
  unfold Dev.pullSeen
  repeat' (first
    | (simp (maxDischargeDepth := 100) +contextual [*]; done)
    | (dsimp only; split))

@[simp ↓] theorem Dev.setJob_memWf {d : Dev} {i : Nat} {j : Option TwinJob} (h_d : d.memWf = true) :
    (Dev.setJob d i j).memWf = true := by
  unfold Dev.setJob
  simp (maxDischargeDepth := 100) +contextual [*]

@[simp ↓] theorem Dev.twinAsk_memWf {d : Dev} {i : Nat} {j : TwinJob} {a n : Nat} (h_d : d.memWf = true) :
    (Dev.twinAsk d i j a n).memWf = true := by
  unfold Dev.twinAsk
  repeat' (first
    | (simp (maxDischargeDepth := 100) +contextual [*]; done)
    | (dsimp only; split))

@[simp ↓] theorem Dev.recordDiff_memWf {d : Dev} {j : TwinJob} {area page off : Nat} {x : W64} {oneway : Bool} (h_d : d.memWf = true) :
    (Dev.recordDiff d j area page off x oneway).memWf = true := by
  unfold Dev.recordDiff
  simp (maxDischargeDepth := 100) +contextual [*]

@[simp ↓] theorem Dev.restoreEnd_memWf {d : Dev} {lock : Option Nat} {ok : Bool} (h_d : d.memWf = true) :
    (Dev.restoreEnd d lock ok).memWf = true := by
  unfold Dev.restoreEnd
  simp (maxDischargeDepth := 100) +contextual [*]

@[simp ↓] theorem Dev.locateEnd_memWf {d : Dev} {i : Nat} {j : TwinJob} (h_d : d.memWf = true) :
    (Dev.locateEnd d i j).memWf = true := by
  unfold Dev.locateEnd
  repeat' (first
    | (simp (maxDischargeDepth := 100) +contextual [*]; done)
    | (dsimp only; split))

@[simp ↓] theorem Dev.locateFound_memWf {d : Dev} {i : Nat} {j : TwinJob} {area page off : Nat} {x : W64} (h_d : d.memWf = true) :
    (Dev.locateFound d i j area page off x).memWf = true := by
  unfold Dev.locateFound
  simp (maxDischargeDepth := 100) +contextual [*]

@[simp ↓] theorem Dev.askLeaves_memWf {d : Dev} {i : Nat} {j : TwinJob} (h_d : d.memWf = true) :
    (Dev.askLeaves d i j).memWf = true := by
  unfold Dev.askLeaves
  simp (maxDischargeDepth := 100) +contextual [*]

@[simp ↓] theorem Dev.askPage_memWf {d : Dev} {i : Nat} {j : TwinJob} (h_d : d.memWf = true) :
    (Dev.askPage d i j).memWf = true := by
  unfold Dev.askPage
  repeat' (first
    | (simp (maxDischargeDepth := 100) +contextual [*]; done)
    | (dsimp only; split))

@[simp ↓] theorem Dev.askRecord_memWf {d : Dev} {i : Nat} {j : TwinJob} (h_d : d.memWf = true) :
    (Dev.askRecord d i j).memWf = true := by
  unfold Dev.askRecord
  repeat' (first
    | (simp (maxDischargeDepth := 100) +contextual [*]; done)
    | (dsimp only; split))

@[simp ↓] theorem Dev.locateBegin_memWf {d : Dev} {i : Nat} {j : TwinJob} (h_d : d.memWf = true) :
    (Dev.locateBegin d i j).memWf = true := by
  unfold Dev.locateBegin
  simp (maxDischargeDepth := 100) +contextual [*]

@[simp ↓] theorem Dev.locateGot_memWf {d : Dev} {i : Nat} {j : TwinJob} {bs : List Byte} (h_d : d.memWf = true) :
    (Dev.locateGot d i j bs).memWf = true := by
  unfold Dev.locateGot
  repeat' (first
    | (simp (maxDischargeDepth := 100) +contextual [*]; done)
    | (dsimp only; split)
    | split)

@[simp ↓] theorem Dev.comparePoll_memWf {d : Dev} {slots : List Byte} (h_d : d.memWf = true) :
    (Dev.comparePoll d slots).memWf = true := by
  unfold Dev.comparePoll
  repeat' (first
    | (simp (maxDischargeDepth := 100) +contextual [*]; done)
    | (dsimp only; split)
    | split)

@[simp ↓] theorem Dev.restorePages_memWf {d : Dev} {k : Nat} {as : List Area} (h_d : d.memWf = true) :
    (Dev.restorePages d k as).memWf = true := by
  unfold Dev.restorePages
  simp (maxDischargeDepth := 100) +contextual [*]

@[simp ↓] theorem Dev.restoreState_memWf {d : Dev} {rcd : List Byte} (h_d : d.memWf = true) :
    (Dev.restoreState d rcd).memWf = true := by
  unfold Dev.restoreState
  simp (maxDischargeDepth := 100) +contextual [*]

@[simp ↓] theorem Dev.restoreDiff_memWf {d : Dev} {k : Nat} {as : List Area} {ls : List W64} {now rcd : List Byte} (h_d : d.memWf = true) :
    (Dev.restoreDiff d k as ls now rcd).memWf = true := by
  unfold Dev.restoreDiff
  repeat' (first
    | (simp (maxDischargeDepth := 100) +contextual [*]; done)
    | (dsimp only; split)
    | split)

@[simp ↓] theorem Dev.restoreVerify_memWf {d : Dev} {k : Nat} {rcd : List Byte} {lock : Option Nat} (h_d : d.memWf = true) :
    (Dev.restoreVerify d k rcd lock).memWf = true := by
  unfold Dev.restoreVerify
  simp (maxDischargeDepth := 100) +contextual [*]

@[simp ↓] theorem Dev.snpRej_memWf {d : Dev} (h_d : d.memWf = true) :
    (Dev.snpRej d).memWf = true := by
  unfold Dev.snpRej
  simp (maxDischargeDepth := 100) +contextual [*]

@[simp ↓] theorem Dev.snpRestore_memWf {d : Dev} {o : Owner} {k : Nat} {src : Bool} (h_d : d.memWf = true) :
    (Dev.snpRestore d o k src).memWf = true := by
  have h := Dev.takeLock_memWf (o := o) (a := 9) (u := 0) h_d
  unfold Dev.snpRestore
  split
  · simp [h_d]
  · split <;> rename_i heq <;> rw [heq] at h
    · simp (maxDischargeDepth := 100) [h_d]
    · split <;> simp (maxDischargeDepth := 100) [h]

@[simp ↓] theorem Dev.snpCompare_memWf {d : Dev} {o : Owner} (h_d : d.memWf = true) :
    (Dev.snpCompare d o).memWf = true := by
  unfold Dev.snpCompare
  repeat' (first
    | (simp (maxDischargeDepth := 100) +contextual [*]; done)
    | split
    | (rename_i heq; have hs := congrArg Prod.snd heq; dsimp only at hs; subst hs))

@[simp ↓] theorem Dev.snpDiscard_memWf {d : Dev} {k : Nat} (h_d : d.memWf = true) :
    (Dev.snpDiscard d k).memWf = true := by
  unfold Dev.snpDiscard
  simp (maxDischargeDepth := 100) +contextual [*]

@[simp ↓] theorem Dev.snpCmd_memWf {d : Dev} {o : Owner} {v : W32} (h_d : d.memWf = true) :
    (Dev.snpCmd d o v).memWf = true := by
  unfold Dev.snpCmd
  repeat' (first
    | (simp (maxDischargeDepth := 100) +contextual [*]; done)
    | split)

@[simp ↓] theorem Dev.restoreGot_memWf {d : Dev} {i : Nat} {j : TwinJob} {bs : List Byte} (h_d : d.memWf = true) :
    (Dev.restoreGot d i j bs).memWf = true := by
  unfold Dev.restoreGot
  repeat' (first
    | (simp (maxDischargeDepth := 100) +contextual [*]; done)
    | (dsimp only; split)
    | split)

@[simp ↓] theorem Dev.rootGot_memWf {d : Dev} {i : Nat} {j : TwinJob} {bs : List Byte} (h_d : d.memWf = true) :
    (Dev.rootGot d i j bs).memWf = true := by
  unfold Dev.rootGot
  repeat' (first
    | (simp (maxDischargeDepth := 100) +contextual [*]; done)
    | split)

@[simp ↓] theorem Dev.pullEnd_memWf {d : Dev} {i : Nat} {j : TwinJob} (h_d : d.memWf = true) :
    (Dev.pullEnd d i j).memWf = true := by
  unfold Dev.pullEnd
  simp (maxDischargeDepth := 100) +contextual [*]

@[simp ↓] theorem Dev.pullRecord_memWf {d : Dev} {i : Nat} {j : TwinJob} (h_d : d.memWf = true) :
    (Dev.pullRecord d i j).memWf = true := by
  unfold Dev.pullRecord
  simp (maxDischargeDepth := 100) +contextual [*]

@[simp ↓] theorem Dev.pullPage_memWf {d : Dev} {i : Nat} {j : TwinJob} {a : Area} (h_d : d.memWf = true) :
    (Dev.pullPage d i j a).memWf = true := by
  unfold Dev.pullPage
  simp (maxDischargeDepth := 100) +contextual [*]

@[simp ↓] theorem Dev.pullNext_memWf {d : Dev} {i : Nat} {j : TwinJob} (h_d : d.memWf = true) :
    (Dev.pullNext d i j).memWf = true := by
  unfold Dev.pullNext
  repeat' (first
    | (simp (maxDischargeDepth := 100) +contextual [*]; done)
    | split)

@[simp ↓] theorem Dev.pullPut_memWf {d : Dev} {i : Nat} {j : TwinJob} {a : Area} {bs : List Byte} (h_d : d.memWf = true) :
    (Dev.pullPut d i j a bs).memWf = true := by
  unfold Dev.pullPut
  simp (maxDischargeDepth := 100) +contextual [*]

@[simp ↓] theorem Dev.pullGot_memWf {d : Dev} {i : Nat} {j : TwinJob} {bs : List Byte} (h_d : d.memWf = true) :
    (Dev.pullGot d i j bs).memWf = true := by
  unfold Dev.pullGot
  repeat' (first
    | (simp (maxDischargeDepth := 100) +contextual [*]; done)
    | (dsimp only; split)
    | split)

@[simp ↓] theorem Dev.twinPull_memWf {d : Dev} {k : Nat} (h_d : d.memWf = true) :
    (Dev.twinPull d k).memWf = true := by
  unfold Dev.twinPull
  simp (maxDischargeDepth := 100) +contextual [*]

@[simp ↓] theorem Dev.twinAnswer_memWf {d : Dev} {tag status : Nat} {bs : List Byte} (h_d : d.memWf = true) :
    (Dev.twinAnswer d tag status bs).memWf = true := by
  unfold Dev.twinAnswer
  repeat' (first
    | (simp (maxDischargeDepth := 100) +contextual [*]; done)
    | (dsimp only; split)
    | split)

@[simp ↓] theorem Dev.snpCfgWrite_memWf {d : Dev} {r : Reg} {v : W64} (h_d : d.memWf = true) :
    (Dev.snpCfgWrite d r v).memWf = true := by
  unfold Dev.snpCfgWrite
  repeat' (first
    | (simp (maxDischargeDepth := 100) +contextual [*]; done)
    | (dsimp only; split))

@[simp ↓] theorem Dev.refreshClocks_memWf {d : Dev} (h_d : d.memWf = true) :
    (Dev.refreshClocks d).memWf = true := by
  unfold Dev.refreshClocks
  simp (maxDischargeDepth := 100) +contextual [*]

@[simp ↓] theorem Dev.pwrErr_memWf {d : Dev} (h_d : d.memWf = true) :
    (Dev.pwrErr d).memWf = true := by
  unfold Dev.pwrErr
  simp (maxDischargeDepth := 100) +contextual [*]

@[simp ↓] theorem Dev.modeWrite_memWf {d : Dev} {v : W32} (h_d : d.memWf = true) :
    (Dev.modeWrite d v).memWf = true := by
  unfold Dev.modeWrite
  simp (maxDischargeDepth := 100) +contextual [*]

@[simp ↓] theorem Dev.iclkWrite_memWf {d : Dev} {c : Nat} {v : W32} (h_d : d.memWf = true) :
    (Dev.iclkWrite d c v).memWf = true := by
  unfold Dev.iclkWrite
  simp (maxDischargeDepth := 100) +contextual [*]

@[simp ↓] theorem Dev.dropUnrouted_memWf {d : Dev} (h_d : d.memWf = true) :
    (Dev.dropUnrouted d).memWf = true := by
  unfold Dev.dropUnrouted
  simp (maxDischargeDepth := 100) +contextual [*]

@[simp ↓] theorem Dev.shadePorts_memWf {d : Dev} (h_d : d.memWf = true) :
    (Dev.shadePorts d).memWf = true := by
  unfold Dev.shadePorts
  simp (maxDischargeDepth := 100) +contextual [*]

@[simp ↓] theorem Dev.shadeWrite_memWf {d : Dev} {v : W64} (h_d : d.memWf = true) :
    (Dev.shadeWrite d v).memWf = true := by
  unfold Dev.shadeWrite
  simp (maxDischargeDepth := 100) +contextual [*]

@[simp ↓] theorem Dev.modeApply_memWf {d : Dev} (h_d : d.memWf = true) :
    (Dev.modeApply d).memWf = true := by
  unfold Dev.modeApply
  simp (maxDischargeDepth := 100) +contextual [*]

@[simp ↓] theorem Dev.modeAtBoundary_memWf {d : Dev} (h_d : d.memWf = true) :
    (Dev.modeAtBoundary d).memWf = true := by
  unfold Dev.modeAtBoundary
  simp (maxDischargeDepth := 100) +contextual [*]

@[simp ↓] theorem Dev.readRail_memWf {d : Dev} {n mv : Nat} (h_d : d.memWf = true) :
    (Dev.readRail d n mv).memWf = true := by
  unfold Dev.readRail
  simp (maxDischargeDepth := 100) +contextual [*]

@[simp ↓] theorem Dev.takeSupply_memWf {d : Dev} {x : Supply} (h_d : d.memWf = true) :
    (Dev.takeSupply d x).memWf = true := by
  unfold Dev.takeSupply
  simp (maxDischargeDepth := 100) +contextual [*]

@[simp ↓] theorem Dev.setHalf_memWf {d : Dev} {p : Nat} {b : Bool} (h_d : d.memWf = true) :
    (Dev.setHalf d p b).memWf = true := by
  unfold Dev.setHalf
  simp (maxDischargeDepth := 100) +contextual [*]

@[simp ↓] theorem Dev.lhpDown_memWf {d : Dev} {l : Nat} (h_d : d.memWf = true) :
    (Dev.lhpDown d l).memWf = true := by
  unfold Dev.lhpDown
  simp (maxDischargeDepth := 100) +contextual [*]

@[simp ↓] theorem Dev.stageSix_memWf {d : Dev} (h_d : d.memWf = true) :
    (Dev.stageSix d).memWf = true := by
  unfold Dev.stageSix
  simp (maxDischargeDepth := 100) +contextual [*]

@[simp ↓] theorem Dev.stageAction_memWf {d : Dev} {n : Nat} (h_d : d.memWf = true) :
    (Dev.stageAction d n).memWf = true := by
  unfold Dev.stageAction
  repeat' (first
    | (simp (maxDischargeDepth := 100) +contextual [*]; done)
    | (dsimp only; split))

@[simp ↓] theorem Dev.enterStage_memWf {d : Dev} {n : Nat} (h_d : d.memWf = true) :
    (Dev.enterStage d n).memWf = true := by
  unfold Dev.enterStage
  simp (maxDischargeDepth := 100) +contextual [*]

@[simp ↓] theorem Dev.supplyLow_memWf {d : Dev} (h_d : d.memWf = true) :
    (Dev.supplyLow d).memWf = true := by
  unfold Dev.supplyLow
  simp (maxDischargeDepth := 100) +contextual [*]

@[simp ↓] theorem Dev.nextStage_memWf {d : Dev} (h_d : d.memWf = true) :
    (Dev.nextStage d).memWf = true := by
  unfold Dev.nextStage
  simp (maxDischargeDepth := 100) +contextual [*]

@[simp ↓] theorem Dev.flushOver_memWf {d : Dev} (h_d : d.memWf = true) :
    (Dev.flushOver d).memWf = true := by
  unfold Dev.flushOver
  simp (maxDischargeDepth := 100) +contextual [*]

@[simp ↓] theorem Dev.flushTimeout_memWf {d : Dev} (h_d : d.memWf = true) :
    (Dev.flushTimeout d).memWf = true := by
  unfold Dev.flushTimeout
  simp (maxDischargeDepth := 100) +contextual [*]

@[simp ↓] theorem Dev.supplyUp_memWf {d : Dev} (h_d : d.memWf = true) :
    (Dev.supplyUp d).memWf = true := by
  unfold Dev.supplyUp
  simp (maxDischargeDepth := 100) +contextual [*]

@[simp ↓] theorem Dev.supplyBand_memWf {d : Dev} (h_d : d.memWf = true) :
    (Dev.supplyBand d).memWf = true := by
  unfold Dev.supplyBand
  simp (maxDischargeDepth := 100) +contextual [*]

@[simp ↓] theorem Dev.dwellEnd_memWf {d : Dev} (h_d : d.memWf = true) :
    (Dev.dwellEnd d).memWf = true := by
  unfold Dev.dwellEnd
  simp (maxDischargeDepth := 100) +contextual [*]

@[simp ↓] theorem Dev.stageUndo_memWf {d : Dev} {n : Nat} (h_d : d.memWf = true) :
    (Dev.stageUndo d n).memWf = true := by
  unfold Dev.stageUndo
  repeat' (first
    | (simp (maxDischargeDepth := 100) +contextual [*]; done)
    | split)

@[simp ↓] theorem Dev.reverseDone_memWf {d : Dev} (h_d : d.memWf = true) :
    (Dev.reverseDone d).memWf = true := by
  unfold Dev.reverseDone
  simp (maxDischargeDepth := 100) +contextual [*]

@[simp ↓] theorem Dev.pwrWake_memWf {d : Dev} (h_d : d.memWf = true) :
    (Dev.pwrWake d).memWf = true := by
  unfold Dev.pwrWake
  simp (maxDischargeDepth := 100) +contextual [*]

@[simp ↓] theorem Dev.setThermalStep_memWf {d : Dev} {s n : Nat} (h_d : d.memWf = true) :
    (Dev.setThermalStep d s n).memWf = true := by
  unfold Dev.setThermalStep
  simp (maxDischargeDepth := 100) +contextual [*]

@[simp ↓] theorem Dev.throttle_memWf {d : Dev} {s : Nat} {r : W16} (h_d : d.memWf = true) :
    (Dev.throttle d s r).memWf = true := by
  unfold Dev.throttle
  simp (maxDischargeDepth := 100) +contextual [*]

@[simp ↓] theorem Dev.thermalTrip_memWf {d : Dev} {s : Nat} {r : W16} (h_d : d.memWf = true) :
    (Dev.thermalTrip d s r).memWf = true := by
  unfold Dev.thermalTrip
  simp (maxDischargeDepth := 100) +contextual [*]

@[simp ↓] theorem Dev.thermalFreeze_memWf {d : Dev} {s : Nat} {r : W16} (h_d : d.memWf = true) :
    (Dev.thermalFreeze d s r).memWf = true := by
  unfold Dev.thermalFreeze
  simp (maxDischargeDepth := 100) +contextual [*]

@[simp ↓] theorem Dev.sensorRead_memWf {d : Dev} {s : Nat} {r : W16} (h_d : d.memWf = true) :
    (Dev.sensorRead d s r).memWf = true := by
  unfold Dev.sensorRead
  simp (maxDischargeDepth := 100) +contextual [*]

@[simp ↓] theorem Dev.takeTemps_memWf {d : Dev} {rs : List W16} (h_d : d.memWf = true) :
    (Dev.takeTemps d rs).memWf = true := by
  unfold Dev.takeTemps
  simp (maxDischargeDepth := 100) +contextual [*]

@[simp ↓] theorem Dev.tjCount_memWf {d : Dev} (h_d : d.memWf = true) :
    (Dev.tjCount d).memWf = true := by
  unfold Dev.tjCount
  simp (maxDischargeDepth := 100) +contextual [*]

@[simp ↓] theorem Dev.sensorSample_memWf {d : Dev} {rs : List W16} (h_d : d.memWf = true) :
    (Dev.sensorSample d rs).memWf = true := by
  unfold Dev.sensorSample
  simp (maxDischargeDepth := 100) +contextual [*]

@[simp ↓] theorem Dev.stepReverse_memWf {d : Dev} {s : Nat} (h_d : d.memWf = true) :
    (Dev.stepReverse d s).memWf = true := by
  unfold Dev.stepReverse
  simp (maxDischargeDepth := 100) +contextual [*]

@[simp ↓] theorem Dev.pwrCfgWrite_memWf {d : Dev} {r : Reg} {v : W64} (h_d : d.memWf = true) :
    (Dev.pwrCfgWrite d r v).memWf = true := by
  unfold Dev.pwrCfgWrite
  simp (maxDischargeDepth := 100) +contextual [*]

@[simp ↓] theorem Dev.atOrder_memWf {d : Dev} {n : Nat} (h_d : d.memWf = true) :
    (Dev.atOrder d n).memWf = true := by
  unfold Dev.atOrder
  simp (maxDischargeDepth := 100) +contextual [*]

@[simp ↓] theorem Dev.order5_memWf {d : Dev} (h_d : d.memWf = true) :
    (Dev.order5 d).memWf = true := by
  unfold Dev.order5
  simp (maxDischargeDepth := 100) +contextual [*]

@[simp ↓] theorem Dev.order4_memWf {d : Dev} (h_d : d.memWf = true) :
    (Dev.order4 d).memWf = true := by
  unfold Dev.order4
  simp (maxDischargeDepth := 100) +contextual [*]

@[simp ↓] theorem Dev.boundaryGo_memWf {d : Dev} (h_d : d.memWf = true) :
    (Dev.boundaryGo d).memWf = true := by
  unfold Dev.boundaryGo
  simp (maxDischargeDepth := 100) +contextual [*]

@[simp ↓] theorem Dev.boundaryAgain_memWf {d : Dev} (h_d : d.memWf = true) :
    (Dev.boundaryAgain d).memWf = true := by
  unfold Dev.boundaryAgain
  simp (maxDischargeDepth := 100) +contextual [*]

@[simp ↓] theorem Dev.decisionApply_memWf {d : Dev} (h_d : d.memWf = true) :
    (Dev.decisionApply d).memWf = true := by
  unfold Dev.decisionApply
  repeat' (first
    | (simp (maxDischargeDepth := 100) +contextual [*]; done)
    | (dsimp only; split))

@[simp ↓] theorem Dev.order6_memWf {d : Dev} (h_d : d.memWf = true) :
    (Dev.order6 d).memWf = true := by
  unfold Dev.order6
  simp (maxDischargeDepth := 100) +contextual [*]

@[simp ↓] theorem Dev.boundaryFinish_memWf {d : Dev} (h_d : d.memWf = true) :
    (Dev.boundaryFinish d).memWf = true := by
  unfold Dev.boundaryFinish
  simp (maxDischargeDepth := 100) +contextual [*]

@[simp ↓] theorem Dev.releaseDtok_memWf {d : Dev} (h_d : d.memWf = true) :
    (Dev.releaseDtok d).memWf = true := by
  unfold Dev.releaseDtok
  simp (maxDischargeDepth := 100) +contextual [*]

@[simp ↓] theorem Dev.pwrResume_memWf {d : Dev} (h_d : d.memWf = true) :
    (Dev.pwrResume d).memWf = true := by
  unfold Dev.pwrResume
  simp (maxDischargeDepth := 100) +contextual [*]

@[simp ↓] theorem Dev.clutchNow_memWf {d : Dev} (h_d : d.memWf = true) :
    (Dev.clutchNow d).memWf = true := by
  unfold Dev.clutchNow
  simp (maxDischargeDepth := 100) +contextual [*]

end Sys2Proof.Machine
end

