-- ==== Sys2Proof/Laws/MemFaults.lean ====
section
/-! SUPPORT. Memory stays in its canonical form: one lemma for each function of the device, for die resets, tables, management, bundles, repair, dumps, time and counters. Only a few
functions touch memory; every other lemma says that the function passes the form on. -/

namespace Sys2Proof.Machine

@[simp ↓] theorem Dev.hostReset_memWf {d : Dev} (h_d : d.memWf = true) :
    (Dev.hostReset d).memWf = true := by
  unfold Dev.hostReset
  simp (maxDischargeDepth := 100) +contextual [*]

@[simp ↓] theorem Dev.slotsHit_memWf {d : Dev} {n : Nat} (h_d : d.memWf = true) :
    (Dev.slotsHit d n).memWf = true := by
  unfold Dev.slotsHit
  simp (maxDischargeDepth := 100) +contextual [*]

@[simp ↓] theorem Dev.dieHold_memWf {d : Dev} {n : Nat} (h_d : d.memWf = true) :
    (Dev.dieHold d n).memWf = true := by
  unfold Dev.dieHold
  simp (maxDischargeDepth := 100) +contextual [*]

@[simp ↓] theorem Dev.mapRepair_memWf {n : Nat} {d : Dev} {r : Nat × Nat} (h_d : d.memWf = true) :
    (Dev.mapRepair n d r).memWf = true := by
  unfold Dev.mapRepair
  simp (maxDischargeDepth := 100) +contextual [*]

@[simp ↓] theorem Dev.dieRelease_memWf {d0 : Dev} {n : Nat} (h_d0 : d0.memWf = true) :
    (Dev.dieRelease d0 n).memWf = true := by
  unfold Dev.dieRelease
  simp (maxDischargeDepth := 100) +contextual [*]

@[simp ↓] theorem Dev.supplyFail_memWf {d : Dev} (h_d : d.memWf = true) :
    (Dev.supplyFail d).memWf = true := by
  unfold Dev.supplyFail
  simp (maxDischargeDepth := 100) +contextual [*]

@[simp ↓] theorem Dev.supplyReact_memWf {d : Dev} (h_d : d.memWf = true) :
    (Dev.supplyReact d).memWf = true := by
  unfold Dev.supplyReact
  simp (maxDischargeDepth := 100) +contextual [*]

@[simp ↓] theorem Dev.spiWrite_memWf {d : Dev} {a : Nat} {bs : List Byte} (h_d : d.memWf = true) :
    (Dev.spiWrite d a bs).memWf = true := by
  unfold Dev.spiWrite
  simp (maxDischargeDepth := 100) +contextual [*]

@[simp ↓] theorem Dev.rrSave_memWf {d : Dev} (h_d : d.memWf = true) :
    (Dev.rrSave d).memWf = true := by
  unfold Dev.rrSave
  repeat' (first
    | (simp (maxDischargeDepth := 100) +contextual [*]; done)
    | split)

@[simp ↓] theorem Dev.addRepair_memWf {d : Dev} {unit spare : Nat} (h_d : d.memWf = true) :
    (Dev.addRepair d unit spare).memWf = true := by
  unfold Dev.addRepair
  simp (maxDischargeDepth := 100) +contextual [*]

@[simp ↓] theorem Dev.takeRepairs_memWf {d : Dev} {rs : List (Nat × Nat)} (h_d : d.memWf = true) :
    (Dev.takeRepairs d rs).memWf = true := by
  unfold Dev.takeRepairs
  simp (maxDischargeDepth := 100) +contextual [*]

@[simp ↓] theorem Dev.setTab_memWf {d : Dev} {n t : Nat} {v : TabSlot} (h_d : d.memWf = true) :
    (Dev.setTab d n t v).memWf = true := by
  unfold Dev.setTab
  simp (maxDischargeDepth := 100) +contextual [*]

@[simp ↓] theorem Dev.tabRej_memWf {d : Dev} {n : Nat} (h_d : d.memWf = true) :
    (Dev.tabRej d n).memWf = true := by
  unfold Dev.tabRej
  simp (maxDischargeDepth := 100) +contextual [*]

@[simp ↓] theorem Dev.tableLoad_memWf {d : Dev} {n t : Nat} (h_d : d.memWf = true) :
    (Dev.tableLoad d n t).memWf = true := by
  unfold Dev.tableLoad
  simp (maxDischargeDepth := 100) +contextual [*]

@[simp ↓] theorem Dev.tableStage_memWf {d : Dev} {n t : Nat} (h_d : d.memWf = true) :
    (Dev.tableStage d n t).memWf = true := by
  unfold Dev.tableStage
  simp (maxDischargeDepth := 100) +contextual [*]

@[simp ↓] theorem Dev.tableCommit_memWf {d : Dev} {n t : Nat} (h_d : d.memWf = true) :
    (Dev.tableCommit d n t).memWf = true := by
  unfold Dev.tableCommit
  simp (maxDischargeDepth := 100) +contextual [*]

@[simp ↓] theorem Dev.tableFail_memWf {d : Dev} {n t code : Nat} (h_d : d.memWf = true) :
    (Dev.tableFail d n t code).memWf = true := by
  unfold Dev.tableFail
  simp (maxDischargeDepth := 100) +contextual [*]

@[simp ↓] theorem Dev.tableFetched_memWf {d : Dev} {n t : Nat} (h_d : d.memWf = true) :
    (Dev.tableFetched d n t).memWf = true := by
  unfold Dev.tableFetched
  simp (maxDischargeDepth := 100) +contextual [*]

@[simp ↓] theorem Dev.tableActivate_memWf {d : Dev} {n t : Nat} (h_d : d.memWf = true) :
    (Dev.tableActivate d n t).memWf = true := by
  unfold Dev.tableActivate
  simp (maxDischargeDepth := 100) +contextual [*]

@[simp ↓] theorem Dev.tcmdWrite_memWf {d : Dev} {n : Nat} {v : W32} (h_d : d.memWf = true) :
    (Dev.tcmdWrite d n v).memWf = true := by
  unfold Dev.tcmdWrite
  repeat' (first
    | (simp (maxDischargeDepth := 100) +contextual [*]; done)
    | (dsimp only; split))

@[simp ↓] theorem Dev.tabRef_memWf {d : Dev} {n t : Nat} (h_d : d.memWf = true) :
    (Dev.tabRef d n t).memWf = true := by
  unfold Dev.tabRef
  simp (maxDischargeDepth := 100) +contextual [*]

@[simp ↓] theorem Dev.tabUnref_memWf {d : Dev} {n t g : Nat} (h_d : d.memWf = true) :
    (Dev.tabUnref d n t g).memWf = true := by
  unfold Dev.tabUnref
  simp (maxDischargeDepth := 100) +contextual [*]

@[simp ↓] theorem Dev.porState_memWf {d : Dev} : (Dev.porState d).memWf = true := by
  unfold Dev.porState Dev.memWf
  rfl

@[simp ↓] theorem Dev.porReset_memWf {d : Dev} (h_d : d.memWf = true) :
    (Dev.porReset d).memWf = true := by
  unfold Dev.porReset
  simp (maxDischargeDepth := 100) +contextual [*]

@[simp ↓] theorem Dev.bootFail_memWf {d : Dev} {stage code : Nat} (h_d : d.memWf = true) :
    (Dev.bootFail d stage code).memWf = true := by
  unfold Dev.bootFail
  simp (maxDischargeDepth := 100) +contextual [*]

@[simp ↓] theorem Dev.rrLoad_memWf {d : Dev} {k : Nat} (h_d : d.memWf = true) :
    (Dev.rrLoad d k).memWf = true := by
  unfold Dev.rrLoad
  simp (maxDischargeDepth := 100) +contextual [*]

@[simp ↓] theorem Dev.rrInit_memWf {d : Dev} (h_d : d.memWf = true) :
    (Dev.rrInit d).memWf = true := by
  unfold Dev.rrInit
  simp (maxDischargeDepth := 100) +contextual [*]

@[simp ↓] theorem Dev.rrBoot_memWf {d : Dev} (h_d : d.memWf = true) :
    (Dev.rrBoot d).2.memWf = true := by
  unfold Dev.rrBoot
  repeat' (first
    | (simp (maxDischargeDepth := 100) +contextual [*]; done)
    | split)

@[simp ↓] theorem Dev.bootEnd_memWf {d : Dev} (h_d : d.memWf = true) :
    (Dev.bootEnd d).memWf = true := by
  unfold Dev.bootEnd
  simp (maxDischargeDepth := 100) +contextual [*]

@[simp ↓] theorem Dev.firmware_memWf {d : Dev} {src : Nat} {img : List Byte} (h_d : d.memWf = true) :
    (Dev.firmware d src img).memWf = true := by
  unfold Dev.firmware
  dsimp only
  generalize h0 : Dev.setRbits _ .mgcBootst 29 28 src = d1
  have h1 : d1.memWf = true := by
    rw [← h0]
    simp (maxDischargeDepth := 100) [h_d]
  have h := Dev.rrBoot_memWf h1
  split <;> rename_i heq <;> rw [heq] at h <;> simp (maxDischargeDepth := 100) +contextual [h]

@[simp ↓] theorem Dev.hostBoot_memWf {d : Dev} (h_d : d.memWf = true) :
    (Dev.hostBoot d).memWf = true := by
  unfold Dev.hostBoot
  simp (maxDischargeDepth := 100) +contextual [*]

@[simp ↓] theorem Dev.spiBoot_memWf {d : Dev} {thenHost : Bool} (h_d : d.memWf = true) :
    (Dev.spiBoot d thenHost).memWf = true := by
  unfold Dev.spiBoot
  simp (maxDischargeDepth := 100) +contextual [*]

@[simp ↓] theorem Dev.darkStart_memWf {d : Dev} (h_d : d.memWf = true) :
    (Dev.darkStart d).memWf = true := by
  unfold Dev.darkStart
  simp (maxDischargeDepth := 100) +contextual [*]

@[simp ↓] theorem Dev.powerOn_memWf {d0 : Dev} {straps : W32} {x : Supply} {readings : List W16} {spiErr : BitVec 3} (h_d0 : d0.memWf = true) :
    (Dev.powerOn d0 straps x readings spiErr).memWf = true := by
  unfold Dev.powerOn
  simp (maxDischargeDepth := 100) +contextual [*]

@[simp ↓] theorem Dev.supplySample_memWf {d : Dev} {x : Supply} (h_d : d.memWf = true) :
    (Dev.supplySample d x).memWf = true := by
  unfold Dev.supplySample
  simp (maxDischargeDepth := 100) +contextual [*]

@[simp ↓] theorem Dev.warmUp_memWf {d : Dev} (h_d : d.memWf = true) :
    (Dev.warmUp d).memWf = true := by
  unfold Dev.warmUp
  simp (maxDischargeDepth := 100) +contextual [*]

@[simp ↓] theorem Dev.bootCmd_memWf {d : Dev} {v : W32} (h_d : d.memWf = true) :
    (Dev.bootCmd d v).memWf = true := by
  unfold Dev.bootCmd
  simp (maxDischargeDepth := 100) +contextual [*]

@[simp ↓] theorem Dev.mbxEnd_memWf {d : Dev} {m res : Nat} (h_d : d.memWf = true) :
    (Dev.mbxEnd d m res).memWf = true := by
  unfold Dev.mbxEnd
  simp (maxDischargeDepth := 100) +contextual [*]

@[simp ↓] theorem Dev.mbxGo_memWf {d : Dev} {m : Nat} (h_d : d.memWf = true) :
    (Dev.mbxGo d m).memWf = true := by
  unfold Dev.mbxGo
  simp (maxDischargeDepth := 100) +contextual [*]

@[simp ↓] theorem Dev.mbxWrite_memWf {d : Dev} {m : Nat} {v : W32} (h_d : d.memWf = true) :
    (Dev.mbxWrite d m v).memWf = true := by
  unfold Dev.mbxWrite
  simp (maxDischargeDepth := 100) +contextual [*]

@[simp ↓] theorem Dev.mbxInfo_memWf {d : Dev} {m : Nat} (h_d : d.memWf = true) :
    (Dev.mbxInfo d m).memWf = true := by
  unfold Dev.mbxInfo
  simp (maxDischargeDepth := 100) +contextual [*]

@[simp ↓] theorem Dev.mbxRrread_memWf {d : Dev} {m : Nat} (h_d : d.memWf = true) :
    (Dev.mbxRrread d m).memWf = true := by
  unfold Dev.mbxRrread
  repeat' (first
    | (simp (maxDischargeDepth := 100) +contextual [*]; done)
    | (dsimp only; split)
    | split)

@[simp ↓] theorem Dev.mbxFwstage_memWf {d : Dev} {m : Nat} (h_d : d.memWf = true) :
    (Dev.mbxFwstage d m).memWf = true := by
  unfold Dev.mbxFwstage
  repeat' (first
    | (simp (maxDischargeDepth := 100) +contextual [*]; done)
    | (dsimp only; split)
    | split)

@[simp ↓] theorem Dev.mbxFwselect_memWf {d : Dev} {m : Nat} (h_d : d.memWf = true) :
    (Dev.mbxFwselect d m).memWf = true := by
  unfold Dev.mbxFwselect
  simp (maxDischargeDepth := 100) +contextual [*]

@[simp ↓] theorem Dev.mbxSvnlock_memWf {d : Dev} {m : Nat} (h_d : d.memWf = true) :
    (Dev.mbxSvnlock d m).memWf = true := by
  unfold Dev.mbxSvnlock
  simp (maxDischargeDepth := 100) +contextual [*]

@[simp ↓] theorem Dev.addAcc_memWf {d : Dev} {c x : Nat} {a : SlotB} (h_d : d.memWf = true) :
    (Dev.addAcc d c x a).memWf = true := by
  unfold Dev.addAcc
  simp (maxDischargeDepth := 100) +contextual [*]

@[simp ↓] theorem Dev.slotBump_memWf {d : Dev} {c x t : Nat} (h_d : d.memWf = true) :
    (Dev.slotBump d c x t).memWf = true := by
  unfold Dev.slotBump
  simp (maxDischargeDepth := 100) +contextual [*]

@[simp ↓] theorem Dev.nextOrd_memWf {d : Dev} {c : Nat} (h_d : d.memWf = true) :
    (Dev.nextOrd d c).2.memWf = true := by
  unfold Dev.nextOrd
  simp (maxDischargeDepth := 100) +contextual [*]

@[simp ↓] theorem Dev.opQueue_memWf {d : Dev} {c x : Nat} {k : Ctx} {push tryForm : Bool} {n a : Nat} (h_d : d.memWf = true) :
    (Dev.opQueue d c x k push tryForm n a).memWf = true := by
  unfold Dev.opQueue
  simp (maxDischargeDepth := 100) +contextual [*]

@[simp ↓] theorem Dev.opEffect_memWf {d : Dev} {c x : Nat} {k : Ctx} {o : SOp} (h_d : d.memWf = true) :
    (Dev.opEffect d c x k o).memWf = true := by
  unfold Dev.opEffect
  repeat' (first
    | (simp (maxDischargeDepth := 100) +contextual [*]; done)
    | split)

@[simp ↓] theorem Dev.opControl_memWf {d : Dev} {c x : Nat} {k : Ctx} {o : SOp} {next : W64} (h_d : d.memWf = true) :
    (Dev.opControl d c x k o next).memWf = true := by
  unfold Dev.opControl
  simp (maxDischargeDepth := 100) +contextual [*]

@[simp ↓] theorem Dev.scalarRow_memWf {d : Dev} {c x : Nat} {o : SOp} (h_d : d.memWf = true) :
    (Dev.scalarRow d c x o).memWf = true := by
  unfold Dev.scalarRow
  repeat' (first
    | (simp (maxDischargeDepth := 100) +contextual [*]; done)
    | (dsimp only; split)
    | split
    | (rename_i heq; have hs := congrArg Prod.snd heq; dsimp only at hs; subst hs))

@[simp ↓] theorem Dev.shiftRow_memWf {d : Dev} {c x : Nat} {op r a : Nat} {imm : W32} (h_d : d.memWf = true) :
    (Dev.shiftRow d c x op r a imm).memWf = true := by
  unfold Dev.shiftRow
  simp (maxDischargeDepth := 100) +contextual [*]

@[simp ↓] theorem Dev.enqueue_memWf {d : Dev} {c x : Nat} {k : Ctx} {w ext : W64} (h_d : d.memWf = true) :
    (Dev.enqueue d c x k w ext).memWf = true := by
  unfold Dev.enqueue
  simp (maxDischargeDepth := 100) +contextual [*]

@[simp ↓] theorem Dev.issueBundle_memWf {d : Dev} {c x : Nat} {k : Ctx} {bu : Bundle} (h_d : d.memWf = true) :
    (Dev.issueBundle d c x k bu).memWf = true := by
  unfold Dev.issueBundle
  simp (maxDischargeDepth := 100) +contextual [*]

@[simp ↓] theorem Dev.noteIssue_memWf {d : Dev} {c x : Nat} {k : Ctx} (h_d : d.memWf = true) :
    (Dev.noteIssue d c x k).memWf = true := by
  unfold Dev.noteIssue
  simp (maxDischargeDepth := 100) +contextual [*]

@[simp ↓] theorem Dev.issueCtx_memWf {d : Dev} {c x : Nat} (h_d : d.memWf = true) :
    (Dev.issueCtx d c x).memWf = true := by
  unfold Dev.issueCtx
  repeat' (first
    | (simp (maxDischargeDepth := 100) +contextual [*]; done)
    | (dsimp only; split)
    | split
    | (rename_i heq; have hs := congrArg Prod.snd heq; dsimp only at hs; subst hs))

@[simp ↓] theorem Dev.setEpisode_memWf {d : Dev} {c e : Nat} {p : Option Episode} (h_d : d.memWf = true) :
    (Dev.setEpisode d c e p).memWf = true := by
  unfold Dev.setEpisode
  simp (maxDischargeDepth := 100) +contextual [*]

@[simp ↓] theorem Dev.takeHead_memWf {d : Dev} {c q : Nat} {h : Head} (h_d : d.memWf = true) :
    (Dev.takeHead d c q h).memWf = true := by
  unfold Dev.takeHead
  repeat' (first
    | (simp (maxDischargeDepth := 100) +contextual [*]; done)
    | split)

@[simp ↓] theorem Dev.endEpisode_memWf {d : Dev} {c e : Nat} {p : Episode} (h_d : d.memWf = true) :
    (Dev.endEpisode d c e p).memWf = true := by
  unfold Dev.endEpisode
  simp (maxDischargeDepth := 100) +contextual [*]

@[simp ↓] theorem Dev.afterCmd_memWf {d : Dev} {c : Nat} (h_d : d.memWf = true) :
    (Dev.afterCmd d c).memWf = true := by
  unfold Dev.afterCmd
  repeat' (first
    | (simp (maxDischargeDepth := 100) +contextual [*]; done)
    | (dsimp only; split)
    | split)

@[simp ↓] theorem Dev.keepShown_memWf {d : Dev} {r : Reg} (h_d : d.memWf = true) :
    (Dev.keepShown d r).memWf = true := by
  unfold Dev.keepShown
  repeat' (first
    | (simp (maxDischargeDepth := 100) +contextual [*]; done)
    | split)

@[simp ↓] theorem Dev.afterRead_memWf {d : Dev} {r : Reg} (h_d : d.memWf = true) :
    (Dev.afterRead d r).memWf = true := by
  unfold Dev.afterRead
  simp (maxDischargeDepth := 100) +contextual [*]

@[simp ↓] theorem Dev.fltWait_memWf {d : Dev} {act scope arg : Nat} (h_d : d.memWf = true) :
    (Dev.fltWait d act scope arg).memWf = true := by
  unfold Dev.fltWait
  simp (maxDischargeDepth := 100) +contextual [*]

@[simp ↓] theorem Dev.escalated_memWf {d : Dev} (h_d : d.memWf = true) :
    (Dev.escalated d).memWf = true := by
  unfold Dev.escalated
  simp (maxDischargeDepth := 100) +contextual [*]

@[simp ↓] theorem Dev.advise_memWf {d : Dev} {n : Nat} (h_d : d.memWf = true) :
    (Dev.advise d n).memWf = true := by
  unfold Dev.advise
  simp (maxDischargeDepth := 100) +contextual [*]

@[simp ↓] theorem Dev.storeReset_memWf {d : Dev} {c x : Nat} (h_d : d.memWf = true) :
    (Dev.storeReset d c x).memWf = true := by
  unfold Dev.storeReset
  simp (maxDischargeDepth := 100) +contextual [*]

@[simp ↓] theorem Dev.storeKeep_memWf {d : Dev} {c x : Nat} (h_d : d.memWf = true) :
    (Dev.storeKeep d c x).memWf = true := by
  unfold Dev.storeKeep
  simp (maxDischargeDepth := 100) +contextual [*]

@[simp ↓] theorem Dev.wdlog_memWf {d : Dev} {c e : Nat} {guilty : Option Nat} {level n step : Nat} (h_d : d.memWf = true) :
    (Dev.wdlog d c e guilty level n step).memWf = true := by
  unfold Dev.wdlog
  simp (maxDischargeDepth := 100) +contextual [*]

@[simp ↓] theorem Dev.cmdDone_memWf {d : Dev} {entry : Nat} (h_d : d.memWf = true) :
    (Dev.cmdDone d entry).memWf = true := by
  unfold Dev.cmdDone
  simp (maxDischargeDepth := 100) +contextual [*]

@[simp ↓] theorem Dev.cmdErr_memWf {d : Dev} {code : Nat} (h_d : d.memWf = true) :
    (Dev.cmdErr d code).memWf = true := by
  unfold Dev.cmdErr
  simp (maxDischargeDepth := 100) +contextual [*]

@[simp ↓] theorem Dev.cmdRun_memWf {d : Dev} {entry : Nat} (h_d : d.memWf = true) :
    (Dev.cmdRun d entry).memWf = true := by
  unfold Dev.cmdRun
  simp (maxDischargeDepth := 100) +contextual [*]

@[simp ↓] theorem Dev.cmdEnd_memWf {d : Dev} {ok : Bool} (h_d : d.memWf = true) :
    (Dev.cmdEnd d ok).memWf = true := by
  unfold Dev.cmdEnd
  simp (maxDischargeDepth := 100) +contextual [*]

@[simp ↓] theorem Dev.cmdEndOf_memWf {d : Dev} {lock : Option Nat} {ok : Bool} (h_d : d.memWf = true) :
    (Dev.cmdEndOf d lock ok).memWf = true := by
  unfold Dev.cmdEndOf
  split <;> simp (maxDischargeDepth := 100) +contextual [*]

@[simp ↓] theorem Dev.showRepairing_memWf {d : Dev} (h_d : d.memWf = true) :
    (Dev.showRepairing d).memWf = true := by
  unfold Dev.showRepairing
  simp (maxDischargeDepth := 100) +contextual [*]

@[simp ↓] theorem Dev.abandonSubs_memWf {d : Dev} {p : Subst → Bool} (h_d : d.memWf = true) :
    (Dev.abandonSubs d p).memWf = true := by
  unfold Dev.abandonSubs
  simp (maxDischargeDepth := 100) +contextual [*]

@[simp ↓] theorem Dev.clusterLost_memWf {d0 : Dev} {c : Nat} (h_d0 : d0.memWf = true) :
    (Dev.clusterLost d0 c).memWf = true := by
  unfold Dev.clusterLost
  simp (maxDischargeDepth := 100) +contextual [*]

@[simp ↓] theorem Dev.subsYield_memWf {d : Dev} {n : Nat} (h_d : d.memWf = true) :
    (Dev.subsYield d n).memWf = true := by
  unfold Dev.subsYield
  simp (maxDischargeDepth := 100) +contextual [*]

@[simp ↓] theorem Dev.dieStart_memWf {d : Dev} {n : Nat} {lock : Option Nat} (h_d : d.memWf = true) :
    (Dev.dieStart d n lock).memWf = true := by
  unfold Dev.dieStart
  simp (maxDischargeDepth := 100) +contextual [*]

@[simp ↓] theorem Dev.level4_memWf {d : Dev} {n : Nat} (h_d : d.memWf = true) :
    (Dev.level4 d n).memWf = true := by
  unfold Dev.level4
  repeat' (first
    | (simp (maxDischargeDepth := 100) +contextual [*]; done)
    | split
    | (rename_i heq; have hs := congrArg Prod.snd heq; dsimp only at hs; subst hs))

@[simp ↓] theorem Dev.substitute_memWf {d : Dev} {c i : Nat} (h_d : d.memWf = true) :
    (Dev.substitute d c i).memWf = true := by
  unfold Dev.substitute
  simp (maxDischargeDepth := 100) +contextual [*]

@[simp ↓] theorem Dev.coreFresh_memWf {d : Dev} {k : Nat} (h_d : d.memWf = true) :
    (Dev.coreFresh d k).memWf = true := by
  unfold Dev.coreFresh
  simp (maxDischargeDepth := 100) +contextual [*]

@[simp ↓] theorem Dev.dropEpisodes_memWf {d : Dev} {k : Nat} (h_d : d.memWf = true) : (Dev.dropEpisodes d k).1.memWf = true := by
  unfold Dev.dropEpisodes
  apply foldl_fst_memWf
  · intro e x he
    split <;> simp (maxDischargeDepth := 100) [he]
  · exact h_d

@[simp ↓] theorem Dev.coreSub_memWf {d : Dev} {k : Nat} {lock : Option Nat} (h_d : d.memWf = true) :
    (Dev.coreSub d k lock).memWf = true := by
  unfold Dev.coreSub
  simp (maxDischargeDepth := 100) +contextual [*]

@[simp ↓] theorem Dev.subFinish_memWf {d0 : Dev} {s : Subst} (h_d0 : d0.memWf = true) :
    (Dev.subFinish d0 s).memWf = true := by
  unfold Dev.subFinish
  simp (maxDischargeDepth := 100) +contextual [*]

@[simp ↓] theorem Dev.subTick_memWf {d : Dev} (h_d : d.memWf = true) :
    (Dev.subTick d).memWf = true := by
  unfold Dev.subTick
  repeat' (first
    | (simp (maxDischargeDepth := 100) +contextual [*]; done)
    | (dsimp only; split)
    | split)

@[simp ↓] theorem Dev.level3_memWf {d : Dev} {k : Nat} (h_d : d.memWf = true) : (Dev.level3 d k).memWf = true := by
  have h := Dev.takeLock_memWf (o := ownerFlt) (a := 3) (u := unitCore k) h_d
  unfold Dev.level3
  split
  · simp [h_d]
  · split
    · simp [h_d]
    · split <;> rename_i heq <;> rw [heq] at h <;> simp (maxDischargeDepth := 100) [h, h_d]

@[simp ↓] theorem Dev.engineStart_memWf {d : Dev} {c e : Nat} {lock : Option Nat} (h_d : d.memWf = true) :
    (Dev.engineStart d c e lock).memWf = true := by
  unfold Dev.engineStart
  repeat' (first
    | (simp (maxDischargeDepth := 100) +contextual [*]; done)
    | (dsimp only; split))

@[simp ↓] theorem Dev.giveUp_memWf {d : Dev} {c e : Nat} (h_d : d.memWf = true) :
    (Dev.giveUp d c e).memWf = true := by
  unfold Dev.giveUp
  repeat' (first
    | (simp (maxDischargeDepth := 100) +contextual [*]; done)
    | split)

@[simp ↓] theorem Dev.level2_memWf {d : Dev} {c e : Nat} (h_d : d.memWf = true) :
    (Dev.level2 d c e).memWf = true := by
  unfold Dev.level2
  repeat' (first
    | (simp (maxDischargeDepth := 100) +contextual [*]; done)
    | (dsimp only; split)
    | split
    | (rename_i heq; have hs := congrArg Prod.snd heq; dsimp only at hs; subst hs))

@[simp ↓] theorem Dev.engineDone_memWf {d : Dev} {c e : Nat} {passed : Bool} (h_d : d.memWf = true) :
    (Dev.engineDone d c e passed).memWf = true := by
  unfold Dev.engineDone
  repeat' (first
    | (simp (maxDischargeDepth := 100) +contextual [*]; done)
    | (dsimp only; split))

@[simp ↓] theorem Dev.wdogExc_memWf {d : Dev} {c x e : Nat} (h_d : d.memWf = true) :
    (Dev.wdogExc d c x e).memWf = true := by
  unfold Dev.wdogExc
  simp (maxDischargeDepth := 100) +contextual [*]

@[simp ↓] theorem Dev.levelOneStart_memWf {d : Dev} {c e : Nat} {lock : Option Nat} (h_d : d.memWf = true) :
    (Dev.levelOneStart d c e lock).memWf = true := by
  unfold Dev.levelOneStart
  simp (maxDischargeDepth := 100) +contextual [*]

@[simp ↓] theorem Dev.level1_memWf {d : Dev} {c e : Nat} (h_d : d.memWf = true) : (Dev.level1 d c e).memWf = true := by
  have h := Dev.takeLock_memWf (o := ownerFlt) (a := 1) (u := unitCore c) h_d
  unfold Dev.level1
  split <;> rename_i heq <;> rw [heq] at h <;> simp (maxDischargeDepth := 100) [h, h_d]

@[simp ↓] theorem Dev.guiltyFound_memWf {d : Dev} {c e : Nat} {p : Episode} {x : Nat} (h_d : d.memWf = true) :
    (Dev.guiltyFound d c e p x).memWf = true := by
  unfold Dev.guiltyFound
  repeat' (first
    | (simp (maxDischargeDepth := 100) +contextual [*]; done)
    | (dsimp only; split))

@[simp ↓] theorem Dev.engineWatchdog_memWf {d : Dev} {c e : Nat} (h_d : d.memWf = true) :
    (Dev.engineWatchdog d c e).memWf = true := by
  unfold Dev.engineWatchdog
  dsimp only
  repeat' split
  all_goals simp (maxDischargeDepth := 100) [h_d]

@[simp ↓] theorem Dev.suspectAdvance_memWf {d : Dev} {c e : Nat} (h_d : d.memWf = true) :
    (Dev.suspectAdvance d c e).memWf = true := by
  unfold Dev.suspectAdvance
  repeat' (first
    | (simp (maxDischargeDepth := 100) +contextual [*]; done)
    | (dsimp only; split)
    | split)

@[simp ↓] theorem Dev.lateLevel2_memWf {d : Dev} {c e : Nat} (h_d : d.memWf = true) :
    (Dev.lateLevel2 d c e).memWf = true := by
  unfold Dev.lateLevel2
  repeat' (first
    | (simp (maxDischargeDepth := 100) +contextual [*]; done)
    | split)

@[simp ↓] theorem Dev.ctxResetLate_memWf {d : Dev} {c x : Nat} (h_d : d.memWf = true) :
    (Dev.ctxResetLate d c x).memWf = true := by
  unfold Dev.ctxResetLate
  simp (maxDischargeDepth := 100) +contextual [*]

@[simp ↓] theorem Dev.engineLate_memWf {d : Dev} {c e : Nat} (h_d : d.memWf = true) :
    (Dev.engineLate d c e).memWf = true := by
  unfold Dev.engineLate
  simp (maxDischargeDepth := 100) +contextual [*]

@[simp ↓] theorem Dev.unitWatchdog_memWf {d : Dev} {unit num : Nat} (h_d : d.memWf = true) :
    (Dev.unitWatchdog d unit num).memWf = true := by
  unfold Dev.unitWatchdog
  simp (maxDischargeDepth := 100) +contextual [*]

@[simp ↓] theorem Dev.forceCore_memWf {d : Dev} {c : Nat} (h_d : d.memWf = true) :
    (Dev.forceCore d c).memWf = true := by
  unfold Dev.forceCore
  simp (maxDischargeDepth := 100) +contextual [*]

@[simp ↓] theorem Dev.forcedArrival_memWf {d : Dev} (h_d : d.memWf = true) :
    (Dev.forcedArrival d).memWf = true := by
  unfold Dev.forcedArrival
  simp (maxDischargeDepth := 100) +contextual [*]

@[simp ↓] theorem Dev.repairedAs_memWf {d : Dev} {unit entry spare : Nat} (h_d : d.memWf = true) :
    (Dev.repairedAs d unit entry spare).memWf = true := by
  unfold Dev.repairedAs
  simp (maxDischargeDepth := 100) +contextual [*]

@[simp ↓] theorem Dev.repaired_memWf {d : Dev} {unit spare : Nat} (h_d : d.memWf = true) :
    (Dev.repaired d unit spare).memWf = true := by
  unfold Dev.repaired
  simp (maxDischargeDepth := 100) +contextual [*]

@[simp ↓] theorem Dev.noSpare_memWf {d : Dev} {unit : Nat} (h_d : d.memWf = true) :
    (Dev.noSpare d unit).memWf = true := by
  unfold Dev.noSpare
  simp (maxDischargeDepth := 100) +contextual [*]

@[simp ↓] theorem Dev.laneSpare_memWf {d : Dev} {p lane : Nat} (h_d : d.memWf = true) :
    (Dev.laneSpare d p lane).2.memWf = true := by
  unfold Dev.laneSpare
  repeat' (first
    | (simp (maxDischargeDepth := 100) +contextual [*]; done)
    | (dsimp only; split))

@[simp ↓] theorem Dev.migrate_memWf {d : Dev} {n chan : Nat} {lock : Option Nat} (h_d : d.memWf = true) :
    (Dev.migrate d n chan lock).2.memWf = true := by
  unfold Dev.migrate
  repeat' (first
    | (simp (maxDischargeDepth := 100) +contextual [*]; done)
    | (dsimp only; split))

@[simp ↓] theorem Dev.invertGranules_memWf {d : Dev} {n chan : Nat} (h_d : d.memWf = true) :
    (Dev.invertGranules d n chan).memWf = true := by
  unfold Dev.invertGranules
  simp (maxDischargeDepth := 100) +contextual [*]

@[simp ↓] theorem Dev.leaveSpare_memWf {d : Dev} {n chan : Nat} (h_d : d.memWf = true) :
    (Dev.leaveSpare d n chan).memWf = true := by
  unfold Dev.leaveSpare
  repeat' (first
    | (simp (maxDischargeDepth := 100) +contextual [*]; done)
    | (dsimp only; split))

@[simp ↓] theorem Dev.migrationDone_memWf {d : Dev} {n : Nat} (h_d : d.memWf = true) :
    (Dev.migrationDone d n).memWf = true := by
  unfold Dev.migrationDone
  repeat' (first
    | (simp (maxDischargeDepth := 100) +contextual [*]; done)
    | (dsimp only; split))

@[simp ↓] theorem Dev.rowSpare_memWf {d : Dev} {u : Nat} (h_d : d.memWf = true) :
    (Dev.rowSpare d u).2.memWf = true := by
  unfold Dev.rowSpare
  repeat' (first
    | (simp (maxDischargeDepth := 100) +contextual [*]; done)
    | (dsimp only; split))

@[simp ↓] theorem Dev.laneTrigger_memWf {d : Dev} {p lane n : Nat} (h_d : d.memWf = true) :
    (Dev.laneTrigger d p lane n).memWf = true := by
  unfold Dev.laneTrigger
  repeat' (first
    | (simp (maxDischargeDepth := 100) +contextual [*]; done)
    | (dsimp only; split)
    | split
    | (rename_i heq; have hs := congrArg Prod.snd heq; dsimp only at hs; subst hs))

@[simp ↓] theorem Dev.channelTrigger_memWf {d : Dev} {n chan count : Nat} {granules : Bool} (h_d : d.memWf = true) :
    (Dev.channelTrigger d n chan count granules).memWf = true := by
  unfold Dev.channelTrigger
  repeat' (first
    | (simp (maxDischargeDepth := 100) +contextual [*]; done)
    | (dsimp only; split)
    | split
    | (rename_i heq; have hs := congrArg Prod.snd heq; dsimp only at hs; subst hs))

@[simp ↓] theorem Dev.fltBegin_memWf {d : Dev} {w : LockWait} {lock : Nat} (h_d : d.memWf = true) :
    (Dev.fltBegin d w lock).memWf = true := by
  unfold Dev.fltBegin
  repeat' (first
    | (simp (maxDischargeDepth := 100) +contextual [*]; done)
    | (dsimp only; split))

@[simp ↓] theorem Dev.lockGrant_memWf {d : Dev} (h_d : d.memWf = true) :
    (Dev.lockGrant d).memWf = true := by
  unfold Dev.lockGrant
  repeat' (first
    | (simp (maxDischargeDepth := 100) +contextual [*]; done)
    | (dsimp only; split)
    | split
    | (rename_i heq; have hs := congrArg Prod.snd heq; dsimp only at hs; subst hs))

@[simp ↓] theorem Dev.cmdBusy_memWf {d : Dev} {o : Owner} {a u : Nat} (h_d : d.memWf = true) :
    (Dev.cmdBusy d o a u).memWf = true := by
  unfold Dev.cmdBusy
  simp (maxDischargeDepth := 100) +contextual [*]

@[simp ↓] theorem Dev.spareFailed_memWf {d : Dev} {n spare : Nat} (h_d : d.memWf = true) :
    (Dev.spareFailed d n spare).memWf = true := by
  unfold Dev.spareFailed
  repeat' (first
    | (simp (maxDischargeDepth := 100) +contextual [*]; done)
    | (dsimp only; split))

@[simp ↓] theorem Dev.channelEvent_memWf {d0 : Dev} {n chan count : Nat} {repeatGranule : Bool} (h_d0 : d0.memWf = true) :
    (Dev.channelEvent d0 n chan count repeatGranule).memWf = true := by
  unfold Dev.channelEvent
  simp (maxDischargeDepth := 100) +contextual [*]

@[simp ↓] theorem Dev.fltLockCmd_memWf {d : Dev} {o : Owner} (h_d : d.memWf = true) :
    (Dev.fltLockCmd d o).memWf = true := by
  unfold Dev.fltLockCmd
  repeat' (first
    | (simp (maxDischargeDepth := 100) +contextual [*]; done)
    | (dsimp only; split)
    | split
    | (rename_i heq; have hs := congrArg Prod.snd heq; dsimp only at hs; subst hs))

@[simp ↓] theorem Dev.fltUnlockCmd_memWf {d : Dev} (h_d : d.memWf = true) :
    (Dev.fltUnlockCmd d).memWf = true := by
  unfold Dev.fltUnlockCmd
  simp (maxDischargeDepth := 100) +contextual [*]

@[simp ↓] theorem Dev.swStart_memWf {d : Dev} {o : Owner} {a u : Nat} {act : Dev → Nat → Dev} (h_d : d.memWf = true)
   (h_act : ∀ e i, e.memWf = true → (act e i).memWf = true) : (Dev.swStart d o a u act).memWf = true := by
  have h := Dev.takeLock_memWf (o := o) (a := a) (u := u) h_d
  unfold Dev.swStart
  split
  · exact h_act _ _ h_d
  · split <;> rename_i heq <;> rw [heq] at h
    · exact h_act _ _ h
    · simp [h_d]

@[simp ↓] theorem Dev.engrstCmd_memWf {d : Dev} {o : Owner} (h_d : d.memWf = true) :
    (Dev.engrstCmd d o).memWf = true := by
  unfold Dev.engrstCmd
  simp (maxDischargeDepth := 100) +contextual [*]

@[simp ↓] theorem Dev.coresubCmd_memWf {d : Dev} {o : Owner} (h_d : d.memWf = true) :
    (Dev.coresubCmd d o).memWf = true := by
  unfold Dev.coresubCmd
  simp (maxDischargeDepth := 100) +contextual [*]

@[simp ↓] theorem Dev.dierstCmd_memWf {d : Dev} {o : Owner} (h_d : d.memWf = true) :
    (Dev.dierstCmd d o).memWf = true := by
  unfold Dev.dierstCmd
  simp (maxDischargeDepth := 100) +contextual [*]

@[simp ↓] theorem Dev.lanespCmd_memWf {d : Dev} {o : Owner} (h_d : d.memWf = true) :
    (Dev.lanespCmd d o).memWf = true := by
  unfold Dev.lanespCmd
  simp (maxDischargeDepth := 100) +contextual [*]

@[simp ↓] theorem Dev.chmigCmd_memWf {d : Dev} {o : Owner} (h_d : d.memWf = true) :
    (Dev.chmigCmd d o).memWf = true := by
  unfold Dev.chmigCmd
  repeat' (first
    | (simp (maxDischargeDepth := 100) +contextual [*]; done)
    | (dsimp only; split)
    | split)

@[simp ↓] theorem Dev.rowspCmd_memWf {d : Dev} {o : Owner} (h_d : d.memWf = true) :
    (Dev.rowspCmd d o).memWf = true := by
  unfold Dev.rowspCmd
  simp (maxDischargeDepth := 100) +contextual [*]

@[simp ↓] theorem Dev.fltRelease_memWf {d : Dev} (h_d : d.memWf = true) :
    (Dev.fltRelease d).memWf = true := by
  unfold Dev.fltRelease
  simp (maxDischargeDepth := 100) +contextual [*]

@[simp ↓] theorem Dev.fltRevote_memWf {d : Dev} (h_d : d.memWf = true) :
    (Dev.fltRevote d).memWf = true := by
  unfold Dev.fltRevote
  simp (maxDischargeDepth := 100) +contextual [*]

@[simp ↓] theorem Dev.subsComplete_memWf {d : Dev} {n : Nat} (h_d : d.memWf = true) :
    (Dev.subsComplete d n).memWf = true := by
  unfold Dev.subsComplete
  simp (maxDischargeDepth := 100) +contextual [*]

@[simp ↓] theorem Dev.dieDone_memWf {d : Dev} {n : Nat} {passed : Bool} (h_d : d.memWf = true) :
    (Dev.dieDone d n passed).memWf = true := by
  unfold Dev.dieDone
  repeat' (first
    | (simp (maxDischargeDepth := 100) +contextual [*]; done)
    | (dsimp only; split))

@[simp ↓] theorem Dev.loadVariant_memWf {d : Dev} (h_d : d.memWf = true) :
    (Dev.loadVariant d).memWf = true := by
  unfold Dev.loadVariant
  repeat' (first
    | (simp (maxDischargeDepth := 100) +contextual [*]; done)
    | (dsimp only; split))

@[simp ↓] theorem Dev.variantTick_memWf {d : Dev} (h_d : d.memWf = true) :
    (Dev.variantTick d).memWf = true := by
  unfold Dev.variantTick
  simp (maxDischargeDepth := 100) +contextual [*]

@[simp ↓] theorem Dev.idle_memWf {d : Dev} (h_d : d.memWf = true) :
    (Dev.idle d).memWf = true := by
  unfold Dev.idle
  simp (maxDischargeDepth := 100) +contextual [*]

@[simp ↓] theorem Dev.dumpRecord_memWf {d : Dev} {p : Dump} {u sec flags : Nat} {bs : List Byte} (h_d : d.memWf = true) :
    (Dev.dumpRecord d p u sec flags bs).1.memWf = true := by
  unfold Dev.dumpRecord
  simp (maxDischargeDepth := 100) +contextual [*]

@[simp ↓] theorem Dev.dumpEnd_memWf {d : Dev} {p : Dump} (h_d : d.memWf = true) :
    (Dev.dumpEnd d p).memWf = true := by
  unfold Dev.dumpEnd
  simp (maxDischargeDepth := 100) +contextual [*]

@[simp ↓] theorem Dev.dumpRun_memWf {d : Dev} {p : Dump} {us : List (Nat × Nat)} (h_d : d.memWf = true) :
    (Dev.dumpRun d p us).memWf = true := by
  induction us generalizing d p with
  | nil => simp [Dev.dumpRun, Dev.dumpEnd_memWf h_d]
  | cons u us ih =>
    obtain ⟨u, sec⟩ := u
    unfold Dev.dumpRun
    split
    · exact ih (Dev.dumpRecord_memWf h_d)
    · simp [h_d]

@[simp ↓] theorem Dev.dumpCmd_memWf {d : Dev} {o : Owner} (h_d : d.memWf = true) :
    (Dev.dumpCmd d o).memWf = true := by
  unfold Dev.dumpCmd
  simp (maxDischargeDepth := 100) +contextual [*]

@[simp ↓] theorem Dev.dumpTimeout_memWf {d : Dev} (h_d : d.memWf = true) :
    (Dev.dumpTimeout d).memWf = true := by
  unfold Dev.dumpTimeout
  repeat' (first
    | (simp (maxDischargeDepth := 100) +contextual [*]; done)
    | (dsimp only; split)
    | split)

@[simp ↓] theorem Dev.onTim_memWf {d : Dev} {f : Tim → Tim} (h_d : d.memWf = true) :
    (Dev.onTim d f).memWf = true := by
  unfold Dev.onTim
  simp (maxDischargeDepth := 100) +contextual [*]

@[simp ↓] theorem Dev.timLock_memWf {d : Dev} {label : Nat} (h_d : d.memWf = true) :
    (Dev.timLock d label).memWf = true := by
  unfold Dev.timLock
  simp (maxDischargeDepth := 100) +contextual [*]

@[simp ↓] theorem Dev.timHoldover_memWf {d : Dev} {cause : Nat} (h_d : d.memWf = true) :
    (Dev.timHoldover d cause).memWf = true := by
  unfold Dev.timHoldover
  simp (maxDischargeDepth := 100) +contextual [*]

@[simp ↓] theorem Dev.ppsEdge_memWf {d : Dev} {gap : Nat} (h_d : d.memWf = true) :
    (Dev.ppsEdge d gap).memWf = true := by
  unfold Dev.ppsEdge
  repeat' (first
    | (simp (maxDischargeDepth := 100) +contextual [*]; done)
    | (dsimp only; split)
    | split)

@[simp ↓] theorem Dev.todSentence_memWf {d : Dev} {utc : Nat} {valid : Bool} (h_d : d.memWf = true) :
    (Dev.todSentence d utc valid).memWf = true := by
  unfold Dev.todSentence
  simp (maxDischargeDepth := 100) +contextual [*]

@[simp ↓] theorem Dev.ppsTimeout_memWf {d : Dev} (h_d : d.memWf = true) :
    (Dev.ppsTimeout d).memWf = true := by
  unfold Dev.ppsTimeout
  simp (maxDischargeDepth := 100) +contextual [*]

@[simp ↓] theorem Dev.timAdj_memWf {d : Dev} {v : W64} (h_d : d.memWf = true) :
    (Dev.timAdj d v).memWf = true := by
  unfold Dev.timAdj
  simp (maxDischargeDepth := 100) +contextual [*]

@[simp ↓] theorem Dev.timCtlWrite_memWf {d : Dev} {v : W64} (h_d : d.memWf = true) :
    (Dev.timCtlWrite d v).memWf = true := by
  unfold Dev.timCtlWrite
  simp (maxDischargeDepth := 100) +contextual [*]

@[simp ↓] theorem Dev.ptpRx_memWf {d : Dev} {l : Nat} {msg : List Byte} (h_d : d.memWf = true) :
    (Dev.ptpRx d l msg).memWf = true := by
  unfold Dev.ptpRx
  simp (maxDischargeDepth := 100) +contextual [*]

@[simp ↓] theorem Dev.tsTx_memWf {d : Dev} (h_d : d.memWf = true) :
    (Dev.tsTx d).memWf = true := by
  unfold Dev.tsTx
  simp (maxDischargeDepth := 100) +contextual [*]

@[simp ↓] theorem Dev.shadowSlot_memWf {d : Dev} {s i : Nat} (h_d : d.memWf = true) :
    (Dev.shadowSlot d s i).memWf = true := by
  unfold Dev.shadowSlot
  simp (maxDischargeDepth := 100) +contextual [*]

@[simp ↓] theorem Dev.shadowSet_memWf {d : Dev} {s : Nat} (h_d : d.memWf = true) :
    (Dev.shadowSet d s).memWf = true := by
  unfold Dev.shadowSet
  simp (maxDischargeDepth := 100) +contextual [*]

@[simp ↓] theorem Dev.discardSet_memWf {d : Dev} {s : Nat} (h_d : d.memWf = true) :
    (Dev.discardSet d s).memWf = true := by
  unfold Dev.discardSet
  simp (maxDischargeDepth := 100) +contextual [*]

@[simp ↓] theorem Dev.openWindow_memWf {d : Dev} {first : Bool} (h_d : d.memWf = true) :
    (Dev.openWindow d first).memWf = true := by
  unfold Dev.openWindow
  simp (maxDischargeDepth := 100) +contextual [*]

@[simp ↓] theorem Dev.resetEdge_memWf {d : Dev} (h_d : d.memWf = true) :
    (Dev.resetEdge d).memWf = true := by
  unfold Dev.resetEdge
  simp (maxDischargeDepth := 100) +contextual [*]

@[simp ↓] theorem Dev.windowEdge_memWf {d : Dev} (h_d : d.memWf = true) :
    (Dev.windowEdge d).memWf = true := by
  unfold Dev.windowEdge
  simp (maxDischargeDepth := 100) +contextual [*]

@[simp ↓] theorem Dev.takeSlot_memWf {d : Dev} {s lost i : Nat} (h_d : d.memWf = true) :
    (Dev.takeSlot d s lost i).memWf = true := by
  unfold Dev.takeSlot
  simp (maxDischargeDepth := 100) +contextual [*]

@[simp ↓] theorem Dev.shadowTake_memWf {d : Dev} (h_d : d.memWf = true) :
    (Dev.shadowTake d).memWf = true := by
  unfold Dev.shadowTake
  repeat' (first
    | (simp (maxDischargeDepth := 100) +contextual [*]; done)
    | (dsimp only; split))

@[simp ↓] theorem Dev.windowRecord_memWf {d : Dev} (h_d : d.memWf = true) :
    (Dev.windowRecord d).memWf = true := by
  unfold Dev.windowRecord
  simp (maxDischargeDepth := 100) +contextual [*]

@[simp ↓] theorem Dev.pmcCmdWrite_memWf {d : Dev} {v : W32} (h_d : d.memWf = true) :
    (Dev.pmcCmdWrite d v).memWf = true := by
  unfold Dev.pmcCmdWrite
  simp (maxDischargeDepth := 100) +contextual [*]

@[simp ↓] theorem Dev.pmcWinWrite_memWf {d : Dev} {v : W32} (h_d : d.memWf = true) :
    (Dev.pmcWinWrite d v).memWf = true := by
  unfold Dev.pmcWinWrite
  simp (maxDischargeDepth := 100) +contextual [*]

@[simp ↓] theorem Dev.dbgCtlSet_memWf {d : Dev} {path : Path} {v : W32} (h_d : d.memWf = true) :
    (Dev.dbgCtlSet d path v).memWf = true := by
  unfold Dev.dbgCtlSet
  simp (maxDischargeDepth := 100) +contextual [*]

@[simp ↓] theorem Dev.trcCtlSet_memWf {d : Dev} {path : Path} {c : Nat} {v : W32} (h_d : d.memWf = true) :
    (Dev.trcCtlSet d path c v).memWf = true := by
  unfold Dev.trcCtlSet
  simp (maxDischargeDepth := 100) +contextual [*]

@[simp ↓] theorem Dev.tapSelect_memWf {d : Dev} {code : Byte} (h_d : d.memWf = true) :
    (Dev.tapSelect d code).memWf = true := by
  unfold Dev.tapSelect
  simp (maxDischargeDepth := 100) +contextual [*]

@[simp ↓] theorem Dev.boundaryScan_memWf {d : Dev} {levels tdi : List Bool} (h_d : d.memWf = true) :
    (Dev.boundaryScan d levels tdi).memWf = true := by
  unfold Dev.boundaryScan
  simp (maxDischargeDepth := 100) +contextual [*]

@[simp ↓] theorem Dev.bypassScan_memWf {d : Dev} {tdi : List Bool} (h_d : d.memWf = true) :
    (Dev.bypassScan d tdi).memWf = true := by
  unfold Dev.bypassScan
  simp (maxDischargeDepth := 100) +contextual [*]

@[simp ↓] theorem Dev.lulIn_memWf {d : Dev} {l t : Nat} {f : LulFrame} {act : Dev → Dev} (h_d : d.memWf = true) (h_act : ∀ e : Dev, e.memWf = true → (act e).memWf = true) :
    (Dev.lulIn d l t f act).memWf = true := by
  unfold Dev.lulIn
  simp (maxDischargeDepth := 100) +contextual [*]

@[simp ↓] theorem Dev.lulThen_memWf {d : Dev} {f : Dev → Dev} (h_d : d.memWf = true) (h_f : ∀ e : Dev, e.memWf = true → (f e).memWf = true) :
    (Dev.lulThen d f).memWf = true := by
  unfold Dev.lulThen
  simp (maxDischargeDepth := 100) +contextual [*]

@[simp ↓] theorem Dev.lulCroakAll_memWf {d : Dev} (h_d : d.memWf = true) :
    (Dev.lulCroakAll d).memWf = true := by
  unfold Dev.lulCroakAll
  simp (maxDischargeDepth := 100) +contextual [*]

@[simp ↓] theorem Dev.windowExpire_memWf {d : Dev} (h_d : d.memWf = true) :
    (Dev.windowExpire d).memWf = true := by
  unfold Dev.windowExpire
  repeat' (first
    | (simp (maxDischargeDepth := 100) +contextual [*]; done)
    | split)

@[simp ↓] theorem Dev.nakRepeat_memWf {d : Dev} (h_d : d.memWf = true) :
    (Dev.nakRepeat d).memWf = true := by
  unfold Dev.nakRepeat
  repeat' (first
    | (simp (maxDischargeDepth := 100) +contextual [*]; done)
    | split)

@[simp ↓] theorem Dev.lastResend_memWf {d : Dev} (h_d : d.memWf = true) :
    (Dev.lastResend d).memWf = true := by
  unfold Dev.lastResend
  repeat' (first
    | (simp (maxDischargeDepth := 100) +contextual [*]; done)
    | (dsimp only; split)
    | split)

@[simp ↓] theorem Dev.rackRepeat_memWf {d : Dev} (h_d : d.memWf = true) :
    (Dev.rackRepeat d).memWf = true := by
  unfold Dev.rackRepeat
  repeat' (first
    | (simp (maxDischargeDepth := 100) +contextual [*]; done)
    | split)

@[simp ↓] theorem Dev.lhpComesUp_memWf {d : Dev} {l : Nat} (h_d : d.memWf = true) :
    (Dev.lhpComesUp d l).memWf = true := by
  unfold Dev.lhpComesUp
  simp (maxDischargeDepth := 100) +contextual [*]

@[simp ↓] theorem Dev.lulBad_memWf {d : Dev} {l : Nat} {fcsBad : Bool} {f : LulFrame} (h_d : d.memWf = true) :
    (Dev.lulBad d l fcsBad f).memWf = true := by
  unfold Dev.lulBad
  simp (maxDischargeDepth := 100) +contextual [*]

end Sys2Proof.Machine
end

