-- ==== Sys2Proof/Laws/MemEngines.lean ====
section
/-! SUPPORT. Memory stays in its canonical form: one lemma for each function of the device, for register accesses, slot B accesses, engine runs, frames, the MXE and the VXE. Only a few
functions touch memory; every other lemma says that the function passes the form on. -/

namespace Sys2Proof.Machine

@[simp ↓] theorem Dev.plainWrite_memWf {d : Dev} {r : Reg} {v : W64} (h_d : d.memWf = true) :
    (Dev.plainWrite d r v).memWf = true := by
  unfold Dev.plainWrite
  simp (maxDischargeDepth := 100) +contextual [*]

@[simp ↓] theorem Dev.fltCmd_memWf {d : Dev} {o : Owner} {v : Nat} (h_d : d.memWf = true) :
    (Dev.fltCmd d o v).memWf = true := by
  unfold Dev.fltCmd
  repeat' (first
    | (simp (maxDischargeDepth := 100) +contextual [*]; done)
    | split)

@[simp ↓] theorem Dev.pwrCmd_memWf {d : Dev} {v : Nat} (h_d : d.memWf = true) :
    (Dev.pwrCmd d v).memWf = true := by
  unfold Dev.pwrCmd
  repeat' (first
    | (simp (maxDischargeDepth := 100) +contextual [*]; done)
    | split)

@[simp ↓] theorem Dev.croakCfgWrite_memWf {d : Dev} {v : W64} (h_d : d.memWf = true) :
    (Dev.croakCfgWrite d v).memWf = true := by
  unfold Dev.croakCfgWrite
  simp (maxDischargeDepth := 100) +contextual [*]

@[simp ↓] theorem Dev.bdpRegWrite_memWf {d : Dev} {n : Nat} {r : Reg} {v : W64} (h_d : d.memWf = true) :
    (Dev.bdpRegWrite d n r v).memWf = true := by
  unfold Dev.bdpRegWrite
  simp (maxDischargeDepth := 100) +contextual [*]

@[simp ↓] theorem Dev.lhpCtlWrite_memWf {d : Dev} {l : Nat} {v : W64} (h_d : d.memWf = true) :
    (Dev.lhpCtlWrite d l v).memWf = true := by
  unfold Dev.lhpCtlWrite
  simp (maxDischargeDepth := 100) +contextual [*]

@[simp ↓] theorem Dev.regWrite_memWf {d : Dev} {path : Path} {r : Reg} {v : W64} (h_d : d.memWf = true) :
    (Dev.regWrite d path r v).memWf = true := by
  unfold Dev.regWrite
  repeat' (first
    | (simp (maxDischargeDepth := 100) +contextual [*]; done)
    | (dsimp only; split))

@[simp ↓] theorem Dev.setLatch_memWf {d : Dev} {path : Path} {l : Option (Nat × W32)} (h_d : d.memWf = true) :
    (Dev.setLatch d path l).memWf = true := by
  unfold Dev.setLatch
  simp (maxDischargeDepth := 100) +contextual [*]

@[simp ↓] theorem Dev.setHeld_memWf {d : Dev} {path : Path} {l : Option (Nat × W32)} (h_d : d.memWf = true) :
    (Dev.setHeld d path l).memWf = true := by
  unfold Dev.setHeld
  simp (maxDischargeDepth := 100) +contextual [*]

@[simp ↓] theorem Dev.halfRead_memWf {d : Dev} {path : Path} {tag : Nat} {v : W64} {upper : Bool} (h_d : d.memWf = true) :
    (Dev.halfRead d path tag v upper).2.memWf = true := by
  unfold Dev.halfRead
  repeat' (first
    | (simp (maxDischargeDepth := 100) +contextual [*]; done)
    | split)

@[simp ↓] theorem Dev.read32_memWf {d : Dev} {path : Path} {a : Nat} (h_d : d.memWf = true) :
    (Dev.read32 d path a).2.memWf = true := by
  unfold Dev.read32
  repeat' (first
    | (simp (maxDischargeDepth := 100) +contextual [*]; done)
    | (dsimp only; split)
    | split)

@[simp ↓] theorem Dev.read64_memWf {d : Dev} {path : Path} {a : Nat} (h_d : d.memWf = true) :
    (Dev.read64 d path a).2.memWf = true := by
  unfold Dev.read64
  repeat' (first
    | (simp (maxDischargeDepth := 100) +contextual [*]; done)
    | (dsimp only; split)
    | split)

@[simp ↓] theorem Dev.bootWrite_memWf {d : Dev} {a : Nat} {bs : List Byte} (h_d : d.memWf = true) :
    (Dev.bootWrite d a bs).memWf = true := by
  unfold Dev.bootWrite
  simp (maxDischargeDepth := 100) +contextual [*]

@[simp ↓] theorem Dev.write32_memWf {d : Dev} {path : Path} {a : Nat} {v : W32} (h_d : d.memWf = true) :
    (Dev.write32 d path a v).memWf = true := by
  unfold Dev.write32
  repeat' (first
    | (simp (maxDischargeDepth := 100) +contextual [*]; done)
    | (dsimp only; split)
    | split)

@[simp ↓] theorem Dev.write64_memWf {d : Dev} {path : Path} {a : Nat} {v : W64} (h_d : d.memWf = true) :
    (Dev.write64 d path a v).memWf = true := by
  unfold Dev.write64
  repeat' (first
    | (simp (maxDischargeDepth := 100) +contextual [*]; done)
    | (dsimp only; split))

@[simp ↓] theorem Dev.regRead_memWf {d : Dev} {path : Path} {a n : Nat} (h_d : d.memWf = true) :
    (Dev.regRead d path a n).2.memWf = true := by
  unfold Dev.regRead
  repeat' (first
    | (simp (maxDischargeDepth := 100) +contextual [*]; done)
    | (dsimp only; split)
    | split)

@[simp ↓] theorem Dev.regPut_memWf {d : Dev} {path : Path} {a : Nat} {bs : List Byte} (h_d : d.memWf = true) :
    (Dev.regPut d path a bs).2.memWf = true := by
  unfold Dev.regPut
  repeat' (first
    | (simp (maxDischargeDepth := 100) +contextual [*]; done)
    | split)

@[simp ↓] theorem Dev.bdpFail_memWf {d : Dev} {n code a : Nat} (h_d : d.memWf = true) :
    (Dev.bdpFail d n code a).memWf = true := by
  unfold Dev.bdpFail
  simp (maxDischargeDepth := 100) +contextual [*]

@[simp ↓] theorem Dev.pathFail_memWf {d : Dev} {path : Path} {a : Nat} (h_d : d.memWf = true) :
    (Dev.pathFail d path a).memWf = true := by
  unfold Dev.pathFail
  repeat' (first
    | (simp (maxDischargeDepth := 100) +contextual [*]; done)
    | (dsimp only; split))

@[simp ↓] theorem Dev.pathStop_memWf {d e : Dev} {path : Path} {perm a n : Nat} (h : d.pathStop path perm a n = some e)
    (h_d : d.memWf = true) : e.memWf = true := by
  unfold Dev.pathStop at h
  split at h
  · split at h
    · cases h; simp [h_d]
    · split at h
      · cases h; simp [h_d]
      · cases h
  · rw [Option.map_eq_some_iff] at h
    obtain ⟨t, -, rfl⟩ := h
    simp [h_d]
  · cases h

@[simp ↓] theorem Dev.allOnes_memWf {d : Dev} {path : Path} {n : Nat} (h_d : d.memWf = true) :
    (Dev.allOnes d path n).memWf = true := by
  unfold Dev.allOnes
  repeat' (first
    | (simp (maxDischargeDepth := 100) +contextual [*]; done)
    | split)

@[simp ↓] theorem Dev.noteHost_memWf {d : Dev} {path : Path} (h_d : d.memWf = true) :
    (Dev.noteHost d path).memWf = true := by
  unfold Dev.noteHost
  simp (maxDischargeDepth := 100) +contextual [*]

@[simp ↓] theorem Dev.busRead_memWf {d : Dev} {path : Path} {a n : Nat} (h_d : d.memWf = true) :
    (Dev.busRead d path a n).memWf = true := by
  have h := Dev.regRead_memWf (path := path) (a := a) (n := n) h_d
  unfold Dev.busRead
  split
  · exact h_d
  · split <;> rename_i hp
    · exact Dev.allOnes_memWf (Dev.pathStop_memWf hp h_d)
    · split <;> rename_i heq <;> rw [heq] at h
      · exact Dev.noteHost_memWf (Dev.emit_memWf h)
      · exact Dev.noteHost_memWf (Dev.allOnes_memWf (Dev.pathFail_memWf h))

@[simp ↓] theorem Dev.busWrite_memWf {d : Dev} {path : Path} {a : Nat} {bs : List Byte} (h_d : d.memWf = true) :
    (Dev.busWrite d path a bs).memWf = true := by
  have h := Dev.regPut_memWf (path := path) (a := a) (bs := bs) h_d
  unfold Dev.busWrite
  split
  · exact h_d
  · split <;> rename_i hp
    · exact Dev.pathStop_memWf hp h_d
    · split <;> rename_i heq <;> rw [heq] at h
      · exact Dev.noteHost_memWf h
      · exact Dev.noteHost_memWf (Dev.pathFail_memWf h)

@[simp ↓] theorem Dev.via_memWf {d : Dev} {path : Path} {r : Reg} {f : Dev → Dev} (h_d : d.memWf = true)
    (h_f : ∀ e : Dev, e.memWf = true → (f e).memWf = true) : (Dev.via d path r f).memWf = true := by
  unfold Dev.via
  split
  · exact h_d
  · split <;> rename_i hp
    · exact Dev.pathStop_memWf hp h_d
    · split
      · exact Dev.noteHost_memWf (h_f d h_d)
      · exact Dev.noteHost_memWf (Dev.pathFail_memWf h_d)

@[simp ↓] theorem Dev.accDone_memWf {d : Dev} {st : Nat} {v : W64} (h_d : d.memWf = true) :
    (Dev.accDone d st v).memWf = true := by
  unfold Dev.accDone
  simp (maxDischargeDepth := 100) +contextual [*]

@[simp ↓] theorem Dev.dbgRead_memWf {d : Dev} {a n : Nat} (h_d : d.memWf = true) :
    (Dev.dbgRead d a n).memWf = true := by
  have h := Dev.regRead_memWf (path := .jtag) (a := a) (n := n) h_d
  unfold Dev.dbgRead
  repeat' split
  all_goals first
    | (rename_i heq; rw [heq] at h; exact Dev.accDone_memWf h)
    | simp (maxDischargeDepth := 100) [h_d]

@[simp ↓] theorem Dev.dbgWrite_memWf {d : Dev} {a : Nat} {bs : List Byte} (h_d : d.memWf = true) :
    (Dev.dbgWrite d a bs).memWf = true := by
  have h := Dev.regPut_memWf (path := .jtag) (a := a) (bs := bs) h_d
  unfold Dev.dbgWrite
  dsimp only
  repeat' split
  all_goals first
    | (rename_i heq; rw [heq] at h; exact Dev.accDone_memWf h)
    | simp (maxDischargeDepth := 100) [h_d]

@[simp ↓] theorem Dev.dbgAccess_memWf {d : Dev} {cmd a : Nat} {v : W64} (h_d : d.memWf = true) :
    (Dev.dbgAccess d cmd a v).memWf = true := by
  unfold Dev.dbgAccess
  repeat' (first
    | (simp (maxDischargeDepth := 100) +contextual [*]; done)
    | split)

@[simp ↓] theorem Dev.dbgScan_memWf {d : Dev} {dr : BitVec 120} {busy : Bool} (h_d : d.memWf = true) :
    (Dev.dbgScan d dr busy).memWf = true := by
  unfold Dev.dbgScan
  simp (maxDischargeDepth := 100) +contextual [*]

@[simp ↓] theorem Dev.smbNext_memWf {d : Dev} (h_d : d.memWf = true) :
    (Dev.smbNext d).memWf = true := by
  unfold Dev.smbNext
  simp (maxDischargeDepth := 100) +contextual [*]

@[simp ↓] theorem Dev.smbAddr_memWf {d : Dev} {a : W48} (h_d : d.memWf = true) :
    (Dev.smbAddr d a).memWf = true := by
  unfold Dev.smbAddr
  simp (maxDischargeDepth := 100) +contextual [*]

@[simp ↓] theorem Dev.smbRead_memWf {d : Dev} (h_d : d.memWf = true) :
    (Dev.smbRead d).memWf = true := by
  unfold Dev.smbRead
  simp (maxDischargeDepth := 100) +contextual [*]

@[simp ↓] theorem Dev.smbWrite_memWf {d : Dev} {v : W32} (h_d : d.memWf = true) :
    (Dev.smbWrite d v).memWf = true := by
  unfold Dev.smbWrite
  simp (maxDischargeDepth := 100) +contextual [*]

@[simp ↓] theorem Dev.smbStatus_memWf {d : Dev} (h_d : d.memWf = true) :
    (Dev.smbStatus d).memWf = true := by
  unfold Dev.smbStatus
  simp (maxDischargeDepth := 100) +contextual [*]

@[simp ↓] theorem Dev.setBdp_memWf {d : Dev} {n : Nat} {b : BdpChan} (h_d : d.memWf = true) :
    (Dev.setBdp d n b).memWf = true := by
  unfold Dev.setBdp
  simp (maxDischargeDepth := 100) +contextual [*]

@[simp ↓] theorem Dev.bdpAdvance_memWf {d : Dev} {n len : Nat} (h_d : d.memWf = true) :
    (Dev.bdpAdvance d n len).memWf = true := by
  unfold Dev.bdpAdvance
  simp (maxDischargeDepth := 100) +contextual [*]

@[simp ↓] theorem Dev.bdpReadFail_memWf {d : Dev} {n : Fin 8} {code a len : Nat} (h_d : d.memWf = true) :
    (Dev.bdpReadFail d n code a len).memWf = true := by
  unfold Dev.bdpReadFail
  simp (maxDischargeDepth := 100) +contextual [*]

@[simp ↓] theorem Dev.bdpMemRead_memWf {d : Dev} {n : Fin 8} {a len : Nat} (h_d : d.memWf = true) :
    (Dev.bdpMemRead d n a len).memWf = true := by
  unfold Dev.bdpMemRead
  simp (maxDischargeDepth := 100) +contextual [*]

@[simp ↓] theorem Dev.bdpRead_memWf {d : Dev} {n : Fin 8} {off len : Nat} (h_d : d.memWf = true) :
    (Dev.bdpRead d n off len).memWf = true := by
  have h1 : ((d.bdpAdvance n len).count 4202 1 len).memWf = true := by simp [h_d]
  have h := Dev.regRead_memWf (path := .bdp n) (a := d.bdpTarget n off) (n := len) h1
  unfold Dev.bdpRead
  dsimp only
  repeat' split
  all_goals first
    | (rename_i heq; rw [heq] at h; simp [h]; done)
    | simp (maxDischargeDepth := 100) [h_d]

@[simp ↓] theorem Dev.bdpWrite_memWf {d : Dev} {n : Fin 8} {off : Nat} {bs : List Byte} (h_d : d.memWf = true) :
    (Dev.bdpWrite d n off bs).memWf = true := by
  unfold Dev.bdpWrite
  repeat' (first
    | (simp (maxDischargeDepth := 100) +contextual [*]; done)
    | (dsimp only; split)
    | split)

@[simp ↓] theorem Dev.bdpPrefetch_memWf {d : Dev} {n : Fin 8} {len : Nat} (h_d : d.memWf = true) :
    (Dev.bdpPrefetch d n len).memWf = true := by
  unfold Dev.bdpPrefetch
  simp (maxDischargeDepth := 100) +contextual [*]

@[simp ↓] theorem Dev.accDrop_memWf {d : Dev} {c x : Nat} (h_d : d.memWf = true) :
    (Dev.accDrop d c x).memWf = true := by
  unfold Dev.accDrop
  simp (maxDischargeDepth := 100) +contextual [*]

@[simp ↓] theorem Dev.accFail_memWf {d : Dev} {c x code a n : Nat} {pc : W64} (h_d : d.memWf = true) :
    (Dev.accFail d c x code a n pc).memWf = true := by
  unfold Dev.accFail
  simp (maxDischargeDepth := 100) +contextual [*]

@[simp ↓] theorem Dev.accWrite_memWf {d : Dev} {a : Nat} {bs : List Byte} {done : Dev → Dev} (h_d : d.memWf = true) (h_done : ∀ e : Dev, e.memWf = true → (done e).memWf = true) :
    (Dev.accWrite d a bs done).memWf = true := by
  unfold Dev.accWrite
  simp (maxDischargeDepth := 100) +contextual [*]

@[simp ↓] theorem Dev.loadDone_memWf {d : Dev} {c x : Nat} {r : SRegId} {a size : Nat} {signed : Bool} {pc : W64} (h_d : d.memWf = true) :
    (Dev.loadDone d c x r a size signed pc).memWf = true := by
  have h := Dev.regRead_memWf (path := ctxPath c x) (a := a) (n := size) h_d
  unfold Dev.loadDone
  dsimp only
  repeat' split
  all_goals first
    | (rename_i heq; rw [heq] at h; simp [h, h_d]; done)
    | simp (maxDischargeDepth := 100) [h_d]

@[simp ↓] theorem Dev.storeDone_memWf {d : Dev} {c x a size : Nat} {v pc : W64} (h_d : d.memWf = true) :
    (Dev.storeDone d c x a size v pc).memWf = true := by
  have h := Dev.regPut_memWf (path := ctxPath c x) (a := a) (bs := toBytes size v.toNat) h_d
  unfold Dev.storeDone
  dsimp only
  repeat' split
  all_goals first
    | (rename_i heq; rw [heq] at h; simp [h, h_d]; done)
    | (apply Dev.accWrite_memWf h_d; intro e h_e; exact Dev.accDrop_memWf h_e)
    | simp (maxDischargeDepth := 100) [h_d]

@[simp ↓] theorem Dev.pushDone_memWf {d : Dev} {c x q : Nat} {r : SRegId} {tryForm : Bool} {bs : List Byte} {ord : Nat} {pc : W64} (h_d : d.memWf = true) :
    (Dev.pushDone d c x q r tryForm bs ord pc).memWf = true := by
  unfold Dev.pushDone
  simp (maxDischargeDepth := 100) +contextual [*]

@[simp ↓] theorem Dev.popDone_memWf {d : Dev} {c x q : Nat} {r : SRegId} {tryForm : Bool} {ord : Nat} {pc : W64} (h_d : d.memWf = true) :
    (Dev.popDone d c x q r tryForm ord pc).memWf = true := by
  unfold Dev.popDone
  simp (maxDischargeDepth := 100) +contextual [*]

@[simp ↓] theorem Job.stop_memWf {j : Job} {e : CmdEnd} (h_j : j.d.memWf = true) :
    (Job.stop j e).d.memWf = true := by
  unfold Job.stop
  simp (maxDischargeDepth := 100) +contextual [*]

@[simp ↓] theorem Job.err_memWf {j : Job} {code : Nat} (h_j : j.d.memWf = true) :
    (Job.err j code).d.memWf = true := by
  unfold Job.err
  simp (maxDischargeDepth := 100) +contextual [*]

@[simp ↓] theorem Job.go_memWf {j : Job} {f : Job → Job} (h_j : j.d.memWf = true) (h_f : ∀ e : Job, e.d.memWf = true → (f e).d.memWf = true) :
    (Job.go j f).d.memWf = true := by
  unfold Job.go
  simp (maxDischargeDepth := 100) +contextual [*]

@[simp ↓] theorem Job.check_memWf {j : Job} {cs : List (Bool × Nat)} (h_j : j.d.memWf = true) :
    (Job.check j cs).d.memWf = true := by
  unfold Job.check
  repeat' (first
    | (simp (maxDischargeDepth := 100) +contextual [*]; done)
    | split)

@[simp ↓] theorem Job.flag_memWf {j : Job} {m : Nat} (h_j : j.d.memWf = true) :
    (Job.flag j m).d.memWf = true := by
  unfold Job.flag
  simp (maxDischargeDepth := 100) +contextual [*]

@[simp ↓] theorem Job.onDev_memWf {j : Job} {f : Dev → Dev} (h_j : j.d.memWf = true) (h_f : ∀ e : Dev, e.memWf = true → (f e).memWf = true) :
    (Job.onDev j f).d.memWf = true := by
  unfold Job.onDev
  simp (maxDischargeDepth := 100) +contextual [*]

@[simp ↓] theorem Job.onCore_memWf {j : Job} {f : Core → Core} (h_j : j.d.memWf = true) :
    (Job.onCore j f).d.memWf = true := by
  unfold Job.onCore
  simp (maxDischargeDepth := 100) +contextual [*]

@[simp ↓] theorem Job.checkAccess_memWf {j : Job} {perm a n : Nat} (h_j : j.d.memWf = true) :
    (Job.checkAccess j perm a n).d.memWf = true := by
  unfold Job.checkAccess
  repeat' (first
    | (simp (maxDischargeDepth := 100) +contextual [*]; done)
    | split)

@[simp ↓] theorem Job.read_memWf {j : Job} {a n : Nat} (h_j : j.d.memWf = true) : (Job.read j a n).2.2.d.memWf = true := by
  have hc := Job.checkAccess_memWf (perm := 0) (a := a) (n := n) h_j
  unfold Job.read
  dsimp only
  generalize j.checkAccess 0 a n = j1 at hc ⊢
  split
  · exact hc
  · split
    · have h := Dev.regRead_memWf (path := ctxPath j.c j.cmd.ctx) (a := a) (n := n) hc
      split <;> rename_i heq <;> rw [heq] at h
      · exact h
      · simp [hc]
    · simp (maxDischargeDepth := 100) +contextual [hc]

@[simp ↓] theorem Job.put_memWf {j : Job} {a : Nat} {bs : List Byte} (h_j : j.d.memWf = true) :
    (Job.put j a bs).d.memWf = true := by
  unfold Job.put
  simp (maxDischargeDepth := 100) +contextual [*]

@[simp ↓] theorem Job.write_memWf {j : Job} {a : Nat} {bs : List Byte} (h_j : j.d.memWf = true) :
    (Job.write j a bs).d.memWf = true := by
  unfold Job.write
  simp (maxDischargeDepth := 100) +contextual [*]

@[simp ↓] theorem Job.writeAll_memWf {j : Job} {ps : List (Nat × List Byte)} (h_j : j.d.memWf = true) :
    (Job.writeAll j ps).d.memWf = true := by
  unfold Job.writeAll
  simp (maxDischargeDepth := 100) +contextual [*]

@[simp ↓] theorem Job.planeBlocks_memWf {j : Job} {f mb eb n : Nat} (h_j : j.d.memWf = true) :
    (Job.planeBlocks j f mb eb n).2.d.memWf = true := by
  have h := Job.read_memWf (a := mb) (n := n * fmtBytes f) (Job.read_memWf (a := eb) (n := n) h_j)
  unfold Job.planeBlocks
  dsimp only
  split <;> exact h

@[simp ↓] theorem Job.blocks_memWf {j : Job} {f mb eb n : Nat} (h_j : j.d.memWf = true) :
    (Job.blocks j f mb eb n).2.d.memWf = true := Job.planeBlocks_memWf h_j

@[simp ↓] theorem Dev.engineRow_memWf {d : Dev} {c : Nat} {q : EngQueue} {eng op : Nat} {run : Job → Job} (h_d : d.memWf = true) (h_run : ∀ e : Job, e.d.memWf = true → (run e).d.memWf = true) :
    (Dev.engineRow d c q eng op run).memWf = true := by
  unfold Dev.engineRow
  repeat' (first
    | (simp (maxDischargeDepth := 100) +contextual [*]; done)
    | (dsimp only; split))

@[simp ↓] theorem Dev.noteErr_memWf {d : Dev} {c e x : Nat} {fin : CmdEnd} (h_d : d.memWf = true) :
    (Dev.noteErr d c e x fin).memWf = true := by
  unfold Dev.noteErr
  repeat' (first
    | (simp (maxDischargeDepth := 100) +contextual [*]; done)
    | split)

@[simp ↓] theorem Dev.cmdFault_memWf {d : Dev} {c e : Nat} {r : Run} {x : Exc} (h_d : d.memWf = true) :
    (Dev.cmdFault d c e r x).memWf = true := by
  unfold Dev.cmdFault
  simp (maxDischargeDepth := 100) +contextual [*]

@[simp ↓] theorem Dev.cmdComplete_memWf {d : Dev} {c q : Nat} (h_d : d.memWf = true) :
    (Dev.cmdComplete d c q).memWf = true := by
  unfold Dev.cmdComplete
  repeat' (first
    | (simp (maxDischargeDepth := 100) +contextual [*]; done)
    | (dsimp only; split)
    | split)

@[simp ↓] theorem Dev.failTransfer_memWf {d : Dev} {p : Nat} {f : Frame} (h_d : d.memWf = true) :
    (Dev.failTransfer d p f).memWf = true := by
  unfold Dev.failTransfer
  simp (maxDischargeDepth := 100) +contextual [*]

@[simp ↓] theorem Dev.dataHere_memWf {d : Dev} {p : Nat} {f : Frame} (h_d : d.memWf = true) :
    (Dev.dataHere d p f).memWf = true := by
  unfold Dev.dataHere
  simp (maxDischargeDepth := 100) +contextual [*]

@[simp ↓] theorem Dev.dataArrived_memWf {d : Dev} {p : Nat} {f : Frame} (h_d : d.memWf = true) :
    (Dev.dataArrived d p f).memWf = true := by
  unfold Dev.dataArrived
  repeat' (first
    | (simp (maxDischargeDepth := 100) +contextual [*]; done)
    | (dsimp only; split)
    | split)

@[simp ↓] theorem Dev.readArrived_memWf {d : Dev} {p : Nat} {f : Frame} (h_d : d.memWf = true) :
    (Dev.readArrived d p f).memWf = true := by
  unfold Dev.readArrived
  simp (maxDischargeDepth := 100) +contextual [*]

@[simp ↓] theorem Dev.gseAnswer_memWf {d : Dev} {f : Frame} (h_d : d.memWf = true) :
    (Dev.gseAnswer d f).memWf = true := by
  unfold Dev.gseAnswer
  simp (maxDischargeDepth := 100) +contextual [*]

@[simp ↓] theorem Dev.answerHere_memWf {d : Dev} {f : Frame} (h_d : d.memWf = true) :
    (Dev.answerHere d f).memWf = true := by
  unfold Dev.answerHere
  simp (maxDischargeDepth := 100) +contextual [*]

@[simp ↓] theorem Dev.qmsgDeliver_memWf {d : Dev} {f : Frame} (h_d : d.memWf = true) :
    (Dev.qmsgDeliver d f).memWf = true := by
  unfold Dev.qmsgDeliver
  simp (maxDischargeDepth := 100) +contextual [*]

@[simp ↓] theorem Dev.qmsgArrived_memWf {d : Dev} {p : Nat} {f : Frame} (h_d : d.memWf = true) :
    (Dev.qmsgArrived d p f).memWf = true := by
  unfold Dev.qmsgArrived
  simp (maxDischargeDepth := 100) +contextual [*]

@[simp ↓] theorem Dev.qmsgRelease_memWf {d : Dev} {c q : Nat} (h_d : d.memWf = true) :
    (Dev.qmsgRelease d c q).memWf = true := by
  unfold Dev.qmsgRelease
  repeat' (first
    | (simp (maxDischargeDepth := 100) +contextual [*]; done)
    | (dsimp only; split)
    | split)

@[simp ↓] theorem Dev.qmsgSend_memWf {d : Dev} {c q : Nat} (h_d : d.memWf = true) :
    (Dev.qmsgSend d c q).memWf = true := by
  unfold Dev.qmsgSend
  repeat' (first
    | (simp (maxDischargeDepth := 100) +contextual [*]; done)
    | (dsimp only; split)
    | split)

@[simp ↓] theorem Job.operand_memWf {j : Job} {f turn lines k mb eb : Nat} (h_j : j.d.memWf = true) :
    (Job.operand j f turn lines k mb eb).2.d.memWf = true := by
  have h := Job.planeBlocks_memWf (f := f) (mb := mb) (eb := eb) (n := lines * k / fmtN f) h_j
  unfold Job.operand
  dsimp only
  split
  · split
    · exact h
    · exact Job.flag_memWf h
  · exact h

@[simp ↓] theorem Job.mxeParity_memWf {j : Job} {bad : Bool} (h_j : j.d.memWf = true) :
    (Job.mxeParity j bad).d.memWf = true := by
  unfold Job.mxeParity
  simp (maxDischargeDepth := 100) +contextual [*]

@[simp ↓] theorem Job.product_memWf {j : Job} {n : Nat} {clr : Bool} {g : Nat} {w bias : Int} {nkb col0 : Nat} {a b : List (List KBlk)} (h_j : j.d.memWf = true) :
    (Job.product j n clr g w bias nkb col0 a b).d.memWf = true := by
  unfold Job.product
  simp (maxDischargeDepth := 100) +contextual [*]

@[simp ↓] theorem Job.mxeTally_memWf {j : Job} (h_j : j.d.memWf = true) :
    (Job.mxeTally j).d.memWf = true := by
  unfold Job.mxeTally
  simp (maxDischargeDepth := 100) +contextual [*]

@[simp ↓] theorem mloadRun_memWf {j : Job} (h_j : j.d.memWf = true) :
    (mloadRun j).d.memWf = true := by
  unfold mloadRun
  simp (maxDischargeDepth := 100) +contextual [*]

@[simp ↓] theorem minvRun_memWf {j : Job} (h_j : j.d.memWf = true) :
    (minvRun j).d.memWf = true := by
  unfold minvRun
  simp (maxDischargeDepth := 100) +contextual [*]

@[simp ↓] theorem mclrRun_memWf {j : Job} (h_j : j.d.memWf = true) :
    (mclrRun j).d.memWf = true := by
  unfold mclrRun
  simp (maxDischargeDepth := 100) +contextual [*]

@[simp ↓] theorem mmulRun_memWf {j : Job} (h_j : j.d.memWf = true) :
    (mmulRun j).d.memWf = true := by
  unfold mmulRun
  simp (maxDischargeDepth := 100) +contextual [*]

@[simp ↓] theorem mmuloRun_memWf {j : Job} (h_j : j.d.memWf = true) :
    (mmuloRun j).d.memWf = true := by
  unfold mmuloRun
  simp (maxDischargeDepth := 100) +contextual [*]

@[simp ↓] theorem mturnRun_memWf {j : Job} (h_j : j.d.memWf = true) :
    (mturnRun j).d.memWf = true := by
  unfold mturnRun
  simp (maxDischargeDepth := 100) +contextual [*]

@[simp ↓] theorem Job.parity_memWf {j : Job} {eng : Nat} {bad : Bool} (h_j : j.d.memWf = true) :
    (Job.parity j eng bad).d.memWf = true := by
  unfold Job.parity
  simp (maxDischargeDepth := 100) +contextual [*]

@[simp ↓] theorem Job.putRow_memWf {j : Job} {key : Nat} {vals : List Val} {mask : Nat} {mz : Bool} (h_j : j.d.memWf = true) :
    (Job.putRow j key vals mask mz).d.memWf = true := by
  unfold Job.putRow
  simp (maxDischargeDepth := 100) +contextual [*]

@[simp ↓] theorem Job.lanes_memWf {j : Job} {eng pm : Nat} {s : Shape} (h_j : j.d.memWf = true) :
    (Job.lanes j eng pm s).2.d.memWf = true := by
  unfold Job.lanes
  repeat' (first
    | (simp (maxDischargeDepth := 100) +contextual [*]; done)
    | (dsimp only; split)
    | split)

@[simp ↓] theorem Job.noteLanes_memWf {j : Job} {eng key mask : Nat} (h_j : j.d.memWf = true) :
    (Job.noteLanes j eng key mask).d.memWf = true := by
  unfold Job.noteLanes
  simp (maxDischargeDepth := 100) +contextual [*]

@[simp ↓] theorem Job.vxeTally_memWf {j : Job} {rows : Nat} (h_j : j.d.memWf = true) :
    (Job.vxeTally j rows).d.memWf = true := by
  unfold Job.vxeTally
  simp (maxDischargeDepth := 100) +contextual [*]

@[simp ↓] theorem Job.ewRow_memWf {dst : Nat} {srcs : List Nat} {mz : Bool} {f : List Fin2 → Val × Nat} {j : Job} {p : Nat × Lanes} (h_j : j.d.memWf = true) :
    (Job.ewRow dst srcs mz f j p).d.memWf = true := by
  unfold Job.ewRow
  simp (maxDischargeDepth := 100) +contextual [*]

@[simp ↓] theorem Job.ew_memWf {j : Job} {dst : Nat} {srcs : List Nat} {pm : Nat} {mz : Bool} {sh : Nat} {f : List Fin2 → Val × Nat} (h_j : j.d.memWf = true) :
    (Job.ew j dst srcs pm mz sh f).d.memWf = true := by
  unfold Job.ew
  simp (maxDischargeDepth := 100) +contextual [*]

@[simp ↓] theorem vop1Run_memWf {j : Job} (h_j : j.d.memWf = true) :
    (vop1Run j).d.memWf = true := by
  unfold vop1Run
  simp (maxDischargeDepth := 100) +contextual [*]

@[simp ↓] theorem vop2Run_memWf {j : Job} (h_j : j.d.memWf = true) :
    (vop2Run j).d.memWf = true := by
  unfold vop2Run
  simp (maxDischargeDepth := 100) +contextual [*]

@[simp ↓] theorem vsfRun_memWf {j : Job} (h_j : j.d.memWf = true) :
    (vsfRun j).d.memWf = true := by
  unfold vsfRun
  simp (maxDischargeDepth := 100) +contextual [*]

@[simp ↓] theorem vcmpRun_memWf {j : Job} (h_j : j.d.memWf = true) :
    (vcmpRun j).d.memWf = true := by
  unfold vcmpRun
  dsimp only
  apply Job.go_memWf (Job.check_memWf h_j)
  intro e h_e
  apply Job.go_memWf (Job.lanes_memWf h_e)
  intro x h_x
  apply Job.vxeTally_memWf
  apply Job.onCore_memWf
  exact Job.memWf_ite _ _ _ (Job.flag_memWf (Job.noteLanes_memWf (Job.noteLanes_memWf h_x)))
    (Job.noteLanes_memWf (Job.noteLanes_memWf h_x))

@[simp ↓] theorem plogicRun_memWf {j : Job} (h_j : j.d.memWf = true) :
    (plogicRun j).d.memWf = true := by
  unfold plogicRun
  simp (maxDischargeDepth := 100) +contextual [*]

@[simp ↓] theorem psetRun_memWf {j : Job} (h_j : j.d.memWf = true) :
    (psetRun j).d.memWf = true := by
  unfold psetRun
  simp (maxDischargeDepth := 100) +contextual [*]

@[simp ↓] theorem vpermRun_memWf {j : Job} (h_j : j.d.memWf = true) :
    (vpermRun j).d.memWf = true := by
  unfold vpermRun
  simp (maxDischargeDepth := 100) +contextual [*]

@[simp ↓] theorem vclrRun_memWf {j : Job} (h_j : j.d.memWf = true) :
    (vclrRun j).d.memWf = true := by
  unfold vclrRun
  simp (maxDischargeDepth := 100) +contextual [*]

@[simp ↓] theorem vldRun_memWf {j : Job} (h_j : j.d.memWf = true) :
    (vldRun j).d.memWf = true := by
  unfold vldRun
  simp (maxDischargeDepth := 100) +contextual [*]

@[simp ↓] theorem vldiRun_memWf {j : Job} (h_j : j.d.memWf = true) :
    (vldiRun j).d.memWf = true := by
  unfold vldiRun
  simp (maxDischargeDepth := 100) +contextual [*]

@[simp ↓] theorem Job.store_memWf {j : Job} {f axis mb eb : Nat} {rnd : Rnd} {base stride : Nat} {rows : List (List Val)} (h_j : j.d.memWf = true) :
    (Job.store j f axis mb eb rnd base stride rows).d.memWf = true := by
  unfold Job.store
  simp (maxDischargeDepth := 100) +contextual [*]

@[simp ↓] theorem vstRun_memWf {j : Job} (h_j : j.d.memWf = true) :
    (vstRun j).d.memWf = true := by
  unfold vstRun
  simp (maxDischargeDepth := 100) +contextual [*]

@[simp ↓] theorem Job.smaxRow_memWf {dst src span : Nat} {c : Fin2} {mz : Bool} {j : Job} {p : Nat × Lanes} (h_j : j.d.memWf = true) :
    (Job.smaxRow dst src span c mz j p).d.memWf = true := by
  unfold Job.smaxRow
  simp (maxDischargeDepth := 100) +contextual [*]

@[simp ↓] theorem vsmaxRun_memWf {j : Job} (h_j : j.d.memWf = true) :
    (vsmaxRun j).d.memWf = true := by
  unfold vsmaxRun
  simp (maxDischargeDepth := 100) +contextual [*]

@[simp ↓] theorem Job.epiRows_memWf {j : Job} {f mb eb nr vl : Nat} (h_j : j.d.memWf = true) :
    (Job.epiRows j f mb eb nr vl).2.d.memWf = true := by
  unfold Job.epiRows
  repeat' (first
    | (simp (maxDischargeDepth := 100) +contextual [*]; done)
    | (dsimp only; split))

@[simp ↓] theorem Job.epiOut_memWf {j : Job} {s : Shape} {rows : List (List Val)} (h_j : j.d.memWf = true) :
    (Job.epiOut j s rows).d.memWf = true := by
  unfold Job.epiOut
  simp (maxDischargeDepth := 100) +contextual [*]

@[simp ↓] theorem vepiRun_memWf {j : Job} (h_j : j.d.memWf = true) :
    (vepiRun j).d.memWf = true := by
  unfold vepiRun
  repeat' (first
    | (simp (maxDischargeDepth := 100) +contextual [*]; done)
    | (dsimp only; split))

end Sys2Proof.Machine
end

