-- ==== Sys2Proof/Laws/MemMoves.lean ====
section
/-! SUPPORT. Memory stays in its canonical form: one lemma for each function of the device, for the reduction unit, the gather-scatter engine, moves, reduction trees and the walker. Only a few
functions touch memory; every other lemma says that the function passes the form on. -/

namespace Sys2Proof.Machine

@[simp ↓] theorem Job.inexact_memWf {j : Job} {b : Bool} (h_j : j.d.memWf = true) :
    (Job.inexact j b).d.memWf = true := by
  unfold Job.inexact
  simp (maxDischargeDepth := 100) +contextual [*]

@[simp ↓] theorem Job.rduTally_memWf {j : Job} {els : Nat} {lost : Bool} (h_j : j.d.memWf = true) :
    (Job.rduTally j els lost).d.memWf = true := by
  unfold Job.rduTally
  simp (maxDischargeDepth := 100) +contextual [*]

@[simp ↓] theorem Job.rectElems_memWf {j : Job} {tr pm : Nat} {s : Shape} (h_j : j.d.memWf = true) :
    (Job.rectElems j tr pm s).2.d.memWf = true := by
  unfold Job.rectElems
  simp (maxDischargeDepth := 100) +contextual [*]

@[simp ↓] theorem Job.tensorElems_memWf {j : Job} {f mb eb n : Nat} (h_j : j.d.memWf = true) :
    (Job.tensorElems j f mb eb n).2.d.memWf = true := by
  unfold Job.tensorElems
  simp (maxDischargeDepth := 100) +contextual [*]

@[simp ↓] theorem Job.reduceSource_memWf {j : Job} (h_j : j.d.memWf = true) :
    (Job.reduceSource j).2.2.d.memWf = true := by
  unfold Job.reduceSource
  repeat' (first
    | (simp (maxDischargeDepth := 100) +contextual [*]; done)
    | (dsimp only; split))

@[simp ↓] theorem Job.oldPart_memWf {j : Job} (h_j : j.d.memWf = true) :
    (Job.oldPart j).2.d.memWf = true := by
  unfold Job.oldPart
  repeat' (first
    | (simp (maxDischargeDepth := 100) +contextual [*]; done)
    | (dsimp only; split)
    | split)

@[simp ↓] theorem Job.putPart_memWf {j : Job} {r : RaPart} (h_j : j.d.memWf = true) :
    (Job.putPart j r).d.memWf = true := by
  unfold Job.putPart
  simp (maxDischargeDepth := 100) +contextual [*]

@[simp ↓] theorem Job.reduceAll_memWf {j : Job} {op : Nat} {els : Elems} (h_j : j.d.memWf = true) :
    (Job.reduceAll j op els).d.memWf = true := by
  unfold Job.reduceAll
  simp (maxDischargeDepth := 100) +contextual [*]

@[simp ↓] theorem Job.reduceLanes_memWf {j : Job} {els : Elems} {r0 : Nat} (h_j : j.d.memWf = true) :
    (Job.reduceLanes j els r0).d.memWf = true := by
  unfold Job.reduceLanes
  simp (maxDischargeDepth := 100) +contextual [*]

@[simp ↓] theorem reduceRun_memWf {op : Nat} {j : Job} (h_j : j.d.memWf = true) :
    (reduceRun op j).d.memWf = true := by
  unfold reduceRun
  simp (maxDischargeDepth := 100) +contextual [*]

@[simp ↓] theorem rsegRun_memWf {j : Job} (h_j : j.d.memWf = true) :
    (rsegRun j).d.memWf = true := by
  unfold rsegRun
  simp (maxDischargeDepth := 100) +contextual [*]

@[simp ↓] theorem Job.gradients_memWf {j : Job} {f n : Nat} (h_j : j.d.memWf = true) :
    (Job.gradients j f n).2.d.memWf = true := by
  unfold Job.gradients
  simp (maxDischargeDepth := 100) +contextual [*]

@[simp ↓] theorem rnoiseRun_memWf {j : Job} (h_j : j.d.memWf = true) :
    (rnoiseRun j).d.memWf = true := by
  unfold rnoiseRun
  simp (maxDischargeDepth := 100) +contextual [*]

@[simp ↓] theorem rstRun_memWf {j : Job} (h_j : j.d.memWf = true) :
    (rstRun j).d.memWf = true := by
  unfold rstRun
  simp (maxDischargeDepth := 100) +contextual [*]

@[simp ↓] theorem rclrRun_memWf {j : Job} (h_j : j.d.memWf = true) :
    (rclrRun j).d.memWf = true := by
  unfold rclrRun
  simp (maxDischargeDepth := 100) +contextual [*]

@[simp ↓] theorem Job.gseFlag_memWf {j : Job} {i : Nat} {b : Bool} (h_j : j.d.memWf = true) :
    (Job.gseFlag j i b).d.memWf = true := by
  unfold Job.gseFlag
  simp (maxDischargeDepth := 100) +contextual [*]

@[simp ↓] theorem Job.notePos_memWf {j : Job} {p : Nat} {idx : Option Nat} (h_j : j.d.memWf = true) :
    (Job.notePos j p idx).d.memWf = true := by
  unfold Job.notePos
  repeat' (first
    | (simp (maxDischargeDepth := 100) +contextual [*]; done)
    | (dsimp only; split))

@[simp ↓] theorem Job.noteFail_memWf {j : Job} {old : Job} {p : Nat} {idx : Option Nat} (h_j : j.d.memWf = true) (h_old : old.d.memWf = true) :
    (Job.noteFail j old p idx).d.memWf = true := by
  unfold Job.noteFail
  simp (maxDischargeDepth := 100) +contextual [*]

@[simp ↓] theorem Job.gseCount_memWf {j : Job} {i n : Nat} (h_j : j.d.memWf = true) :
    (Job.gseCount j i n).d.memWf = true := by
  unfold Job.gseCount
  simp (maxDischargeDepth := 100) +contextual [*]

@[simp ↓] theorem Job.readRow_memWf {j : Job} {t : GTab} {a : Nat × Nat} (h_j : j.d.memWf = true) :
    (Job.readRow j t a).2.d.memWf = true := by
  unfold Job.readRow
  repeat' (first
    | (simp (maxDischargeDepth := 100) +contextual [*]; done)
    | (dsimp only; split))

@[simp ↓] theorem Job.writeRow_memWf {j : Job} {a : Nat × Nat} {r : Row} {more : List (Nat × List Byte)} (h_j : j.d.memWf = true) :
    (Job.writeRow j a r more).d.memWf = true := by
  unfold Job.writeRow
  simp (maxDischargeDepth := 100) +contextual [*]

@[simp ↓] theorem Job.words_memWf {j : Job} {a n : Nat} (h_j : j.d.memWf = true) : (Job.words j a n).2.d.memWf = true := by
  unfold Job.words
  split
  · simp [h_j]
  · apply foldl_job_snd_memWf
    · intro e x he
      dsimp only
      split <;> simp [he]
    · exact h_j

@[simp ↓] theorem Job.needWords_memWf {j : Job} {ws : List GWord} (h_j : j.d.memWf = true) :
    (Job.needWords j ws).d.memWf = true := by
  unfold Job.needWords
  repeat' (first
    | (simp (maxDischargeDepth := 100) +contextual [*]; done)
    | split)

@[simp ↓] theorem Job.needKeys_memWf {j : Job} {ws : List GWord} (h_j : j.d.memWf = true) :
    (Job.needKeys j ws).d.memWf = true := by
  unfold Job.needKeys
  repeat' (first
    | (simp (maxDischargeDepth := 100) +contextual [*]; done)
    | split)

@[simp ↓] theorem Job.checkIndex_memWf {j : Job} {t : GTab} {oob : Bool} {ws : List GWord} (h_j : j.d.memWf = true) :
    (Job.checkIndex j t oob ws).d.memWf = true := by
  unfold Job.checkIndex
  repeat' (first
    | (simp (maxDischargeDepth := 100) +contextual [*]; done)
    | split)

@[simp ↓] theorem Job.skipIndex_memWf {j : Job} {t : GTab} {ws : List GWord} (h_j : j.d.memWf = true) :
    (Job.skipIndex j t ws).d.memWf = true := by
  unfold Job.skipIndex
  simp (maxDischargeDepth := 100) +contextual [*]

@[simp ↓] theorem Job.fetchLocal_memWf {j : Job} {t : GTab} {wants : List (Nat × Nat)} (h_j : j.d.memWf = true) :
    (Job.fetchLocal j t wants).2.d.memWf = true := by
  unfold Job.fetchLocal
  apply foldl_job_snd_memWf
  · intro e x he
    dsimp only
    split
    · exact he
    · split <;> simp [he]
  · exact h_j

@[simp ↓] theorem Dev.remoteRead_memWf {d : Dev} {c q dev pos : Nat} {sp : Nat × Nat} (h_d : d.memWf = true) :
    (Dev.remoteRead d c q dev pos sp).memWf = true := by
  unfold Dev.remoteRead
  simp (maxDischargeDepth := 100) +contextual [*]

@[simp ↓] theorem Dev.requestRow_memWf {d : Dev} {c q : Nat} {t : GTab} {w : Nat × Nat} (h_d : d.memWf = true) :
    (Dev.requestRow d c q t w).memWf = true := by
  unfold Dev.requestRow
  simp (maxDischargeDepth := 100) +contextual [*]

@[simp ↓] theorem issueReads_memWf {n : Nat} {d : Dev} {c q : Nat} {t : GTab} (h_d : d.memWf = true) :
    (Dev.issueReads n d c q t).memWf = true := by
  induction n generalizing d with
  | zero => exact h_d
  | succ n ih =>
    unfold Dev.issueReads
    dsimp only
    split
    · split
      · split
        · exact h_d
        · exact ih (by simp [h_d])
      · exact h_d
    · exact h_d

@[simp ↓] theorem ggathDone_memWf {t : GTab} {p : GsePlan} {got : List (Nat × Fetched)} {j : Job} (h_j : j.d.memWf = true) :
    (ggathDone t p got j).d.memWf = true := by
  unfold ggathDone
  repeat' (first
    | (simp (maxDischargeDepth := 100) +contextual [*]; done)
    | (dsimp only; split)
    | split
    | (apply foldl_job_memWf <;> intros))

@[simp ↓] theorem gpackDone_memWf {t : GTab} {p : GsePlan} {got : List (Nat × Fetched)} {j : Job} (h_j : j.d.memWf = true) :
    (gpackDone t p got j).d.memWf = true := by
  unfold gpackDone
  repeat' (first
    | (simp (maxDischargeDepth := 100) +contextual [*]; done)
    | (dsimp only; split)
    | split
    | (apply foldl_job_memWf <;> intros))

@[simp ↓] theorem gsegDone_memWf {t : GTab} {p : GsePlan} {got : List (Nat × Fetched)} {j : Job} (h_j : j.d.memWf = true) :
    (gsegDone t p got j).d.memWf = true := by
  unfold gsegDone
  extract_lets -underBinder mb eb cnt gotFail fail one j1
  have h1 : j1.d.memWf = true := by
    apply foldl_job_memWf
    · intro e x he
      apply Job.go_memWf he
      intro y hy
      extract_lets -underBinder a z reach
      clear_value reach
      split
      · exact hy
      · apply Job.noteFail_memWf _ hy
        apply Job.go_memWf
        · show (if j.op 4 = 1 then y.readRow t (t.region mb eb x) else (([], []), y)).2.d.memWf = true
          split
          · exact Job.readRow_memWf hy
          · exact hy
        · intro v hv
          simp (maxDischargeDepth := 100) +contextual [hv]
    · exact h_j
  clear_value j1 fail
  split
  · split
    · exact h1
    · simp (maxDischargeDepth := 100) [h1]
  · exact h1

@[simp ↓] theorem gatherDone_memWf {t : GTab} {p : GsePlan} {got : List (Nat × Fetched)} {j : Job} (h_j : j.d.memWf = true) :
    (gatherDone t p got j).d.memWf = true := by
  unfold gatherDone
  repeat' (first
    | (simp (maxDischargeDepth := 100) +contextual [*]; done)
    | split)

@[simp ↓] theorem Job.gather_memWf {j : Job} {t : GTab} {p : GsePlan} (h_j : j.d.memWf = true) :
    (Job.gather j t p).d.memWf = true := by
  unfold Job.gather
  split
  · show ((j.onCore (fun k => k.setPlan j.q (some p))).onDev (fun d => Dev.issueReads (p.todo.length + 1) d j.c j.q t)).d.memWf = true
    apply Job.onDev_memWf
    · simp [h_j]
    · intro e he
      exact issueReads_memWf he
  · exact gatherDone_memWf (Job.fetchLocal_memWf h_j)

@[simp ↓] theorem gtabRun_memWf {j : Job} (h_j : j.d.memWf = true) :
    (gtabRun j).d.memWf = true := by
  unfold gtabRun
  simp (maxDischargeDepth := 100) +contextual [*]

@[simp ↓] theorem ggathRun_memWf {j : Job} (h_j : j.d.memWf = true) :
    (ggathRun j).d.memWf = true := by
  unfold ggathRun
  simp (maxDischargeDepth := 100) +contextual [*]

@[simp ↓] theorem gscatRun_memWf {j : Job} (h_j : j.d.memWf = true) : (gscatRun j).d.memWf = true := by
  unfold gscatRun
  extract_lets -underBinder n a t
  apply Job.go_memWf (by simp [h_j])
  intro e he
  extract_lets -underBinder w
  apply Job.go_memWf (by simp (maxDischargeDepth := 100) [w, he])
  intro x hx
  extract_lets -underBinder stop upTo mb eb fin
  have hd : fin.d.memWf = true := by
    apply foldl_job_memWf
    · intro y p hy
      apply Job.go_memWf hy
      intro z hz
      simp (maxDischargeDepth := 100) +contextual [hz]
    · simp [hx]
  clear_value fin stop
  split
  · split
    · exact hd
    · simp (maxDischargeDepth := 100) [hd]
  · exact hd

@[simp ↓] theorem Job.scratch_memWf {j : Job} {a n : Nat} (h_j : j.d.memWf = true) :
    (Job.scratch j a n).d.memWf = true := by
  unfold Job.scratch
  simp (maxDischargeDepth := 100) +contextual [*]

@[simp ↓] theorem gscaddRun_memWf {j : Job} (h_j : j.d.memWf = true) : (gscaddRun j).d.memWf = true := by
  unfold gscaddRun
  extract_lets -underBinder n a scr sorted t no
  apply Job.go_memWf (by simp [h_j])
  intro e he
  extract_lets -underBinder w unordered
  apply Job.go_memWf (by simp (maxDischargeDepth := 100) [w, he])
  intro x hx
  split
  · simp (maxDischargeDepth := 100) [hx]
  · extract_lets -underBinder x1 named mb eb
    have h1 : x1.d.memWf = true := by
      show (if sorted then x else x.scratch scr n).d.memWf = true
      split
      · exact hx
      · simp [hx]
    apply Job.go_memWf h1
    intro y0 h0
    apply foldl_job_memWf
    · intro y i hy
      apply Job.go_memWf hy
      intro z hz
      extract_lets -underBinder ps o o1 rows
      have ho : o.2.d.memWf = true := by
        show (if j.op 4 = 1 then z.readRow t (t.addr i) else (([], []), z)).2.d.memWf = true
        split
        · exact Job.readRow_memWf hz
        · exact hz
      have hr : rows.2.d.memWf = true := by
        apply foldl_job_snd_memWf
        · intro r p hr
          dsimp only
          split
          · exact hr
          · simp (maxDischargeDepth := 100) [hr]
        · exact Job.noteFail_memWf ho hz
      apply Job.go_memWf hr
      intro v hv
      simp (maxDischargeDepth := 100) +contextual [hv]
    · simp [h0]

@[simp ↓] theorem gsegRun_memWf {j : Job} (h_j : j.d.memWf = true) :
    (gsegRun j).d.memWf = true := by
  unfold gsegRun
  simp (maxDischargeDepth := 100) +contextual [*]

@[simp ↓] theorem Job.ragged_memWf {j : Job} {write : Bool} {f : Job → List Nat → Job} (h_j : j.d.memWf = true)
   (h_f : ∀ e os, e.d.memWf = true → (f e os).d.memWf = true) : (Job.ragged j write f).d.memWf = true := by
  unfold Job.ragged
  extract_lets -underBinder nseq l o t badLen
  apply Job.go_memWf (by simp [h_j])
  intro e he
  extract_lets -underBinder w offs known order long
  apply Job.go_memWf (by simp (maxDischargeDepth := 100) [w, he])
  intro x hx
  apply Job.go_memWf (by simp [hx])
  intro y hy
  exact h_f _ _ (by simp [hy])

@[simp ↓] theorem gpackRun_memWf {j : Job} (h_j : j.d.memWf = true) :
    (gpackRun j).d.memWf = true := by
  unfold gpackRun
  simp (maxDischargeDepth := 100) +contextual [*]

@[simp ↓] theorem gunpkRun_memWf {j : Job} (h_j : j.d.memWf = true) :
    (gunpkRun j).d.memWf = true := by
  unfold gunpkRun
  simp (maxDischargeDepth := 100) +contextual [*]

@[simp ↓] theorem gsortRun_memWf {j : Job} (h_j : j.d.memWf = true) :
    (gsortRun j).d.memWf = true := by
  unfold gsortRun
  repeat' (first
    | (simp (maxDischargeDepth := 100) +contextual [*]; done)
    | (dsimp only; split))

@[simp ↓] theorem guniqRun_memWf {j : Job} (h_j : j.d.memWf = true) :
    (guniqRun j).d.memWf = true := by
  unfold guniqRun
  simp (maxDischargeDepth := 100) +contextual [*]

@[simp ↓] theorem gtopkRun_memWf {j : Job} (h_j : j.d.memWf = true) :
    (gtopkRun j).d.memWf = true := by
  unfold gtopkRun
  simp (maxDischargeDepth := 100) +contextual [*]

@[simp ↓] theorem ghistRun_memWf {j : Job} (h_j : j.d.memWf = true) :
    (ghistRun j).d.memWf = true := by
  unfold ghistRun
  dsimp only
  refine Job.go_memWf (by simp [h_j]) fun e he => ?_
  refine Job.go_memWf (by simp [he]) fun x hx => ?_
  refine Job.go_memWf ?_ fun y hy => ?_
  · split <;> simp [hx]
  · refine Job.go_memWf (by simp [hy]) fun z hz => ?_
    split <;> simp [hz]

@[simp ↓] theorem Dev.finishRun_memWf {d : Dev} {c q : Nat} {r : Run} {run : Job → Job} (h_d : d.memWf = true) (h_run : ∀ e : Job, e.d.memWf = true → (run e).d.memWf = true) :
    (Dev.finishRun d c q r run).memWf = true := by
  unfold Dev.finishRun
  simp (maxDischargeDepth := 100) +contextual [*]

@[simp ↓] theorem Dev.gseStep_memWf {d : Dev} {c q : Nat} (h_d : d.memWf = true) : (Dev.gseStep d c q).memWf = true := by
  unfold Dev.gseStep
  dsimp only
  split
  · rename_i r p _ _
    have hi := issueReads_memWf (n := p.todo.length + 1) (c := c) (q := q)
      (t := Job.slot { d := d, c := c, q := q, cmd := r.cmd } (gatherSlot r.cmd.word)) h_d
    split
    · apply Dev.onCore_memWf
      exact Dev.finishRun_memWf h_d (fun e he => gatherDone_memWf he)
    · split
      · apply Dev.onCore_memWf
        exact Dev.finishRun_memWf hi (fun e he => gatherDone_memWf he)
      · exact hi
  · exact h_d

@[simp ↓] theorem Dev.rowReturn_memWf {d : Dev} {c q pos : Nat} (h_d : d.memWf = true) :
    (Dev.rowReturn d c q pos).memWf = true := by
  unfold Dev.rowReturn
  repeat' (first
    | (simp (maxDischargeDepth := 100) +contextual [*]; done)
    | (dsimp only; split))

@[simp ↓] theorem Dev.rowTimeout_memWf {d : Dev} {c q : Nat} (h_d : d.memWf = true) :
    (Dev.rowTimeout d c q).memWf = true := by
  unfold Dev.rowTimeout
  repeat' (first
    | (simp (maxDischargeDepth := 100) +contextual [*]; done)
    | (dsimp only; split)
    | split)

@[simp ↓] theorem Dev.gatherRow_memWf {d : Dev} {c : Nat} {q : EngQueue} {op : Nat} {run : Job → Job} (h_d : d.memWf = true) (h_run : ∀ e : Job, e.d.memWf = true → (run e).d.memWf = true) :
    (Dev.gatherRow d c q op run).memWf = true := by
  unfold Dev.gatherRow
  simp (maxDischargeDepth := 100) +contextual [*]

@[simp ↓] theorem Job.mveCount_memWf {j : Job} {i n : Nat} (h_j : j.d.memWf = true) :
    (Job.mveCount j i n).d.memWf = true := by
  unfold Job.mveCount
  simp (maxDischargeDepth := 100) +contextual [*]

theorem chainJob_memWf {d : Dev} {c q : Nat} {ch : Chain} {j : Job} (h_d : d.memWf = true)
    (h : d.chainJob c q = some (ch, j)) : j.d.memWf = true := by
  unfold Dev.chainJob at h
  split at h
  · split at h
    · cases h
      exact h_d
    · cases h
  · cases h

@[simp ↓] theorem Dev.dropRefs_memWf {d : Dev} {n : Nat} {as : List Admitted} (h_d : d.memWf = true) :
    (Dev.dropRefs d n as).memWf = true := by
  unfold Dev.dropRefs
  simp (maxDischargeDepth := 100) +contextual [*]

@[simp ↓] theorem Job.failDesc_memWf {j : Job} {desc unit : Nat} (h_j : j.d.memWf = true) :
    (Job.failDesc j desc unit).d.memWf = true := by
  unfold Job.failDesc
  repeat' (first
    | (simp (maxDischargeDepth := 100) +contextual [*]; done)
    | (dsimp only; split))

@[simp ↓] theorem Dev.endChain_memWf {j : Job} {ch : Chain} {n : Nat} {e : CmdEnd} (h_j : j.d.memWf = true) :
    (Dev.endChain j ch n e).memWf = true := by
  unfold Dev.endChain
  simp (maxDischargeDepth := 100) +contextual [*]

@[simp ↓] theorem Dev.descDone_memWf {j : Job} {ch : Chain} {m : MDesc} {unit : Nat} (h_j : j.d.memWf = true) :
    (Dev.descDone j ch m unit).memWf = true := by
  unfold Dev.descDone
  repeat' (first
    | (simp (maxDischargeDepth := 100) +contextual [*]; done)
    | (dsimp only; split)
    | split)

@[simp ↓] theorem mvxRun_memWf {j : Job} (h_j : j.d.memWf = true) :
    (mvxRun j).d.memWf = true := by
  unfold mvxRun
  simp (maxDischargeDepth := 100) +contextual [*]

@[simp ↓] theorem Dev.descStart_memWf {d : Dev} {c q : Nat} (h_d : d.memWf = true) : (Dev.descStart d c q).memWf = true := by
  unfold Dev.descStart
  split
  · exact h_d
  · rename_i ch j heq
    have hj := chainJob_memWf h_d heq
    split
    · exact h_d
    · extract_lets -underBinder j0 bad r j1 m j2
      have hb : bad.d.memWf = true := by simp [bad, j0, hj]
      have h1 : j1.d.memWf = true := by
        show (if bad.fin.isSome then bad else r.2.2.check _).d.memWf = true
        split
        · exact hb
        · simp [r, hb]
      have h2 : j2.d.memWf = true := by
        apply Job.go_memWf h1
        intro e he
        split <;> simp [he]
      split
      · simp [h2]
      · simp [h2]

@[simp ↓] theorem Dev.moveRow_memWf {d : Dev} {c q : Nat} {kind : MKind} {f : MDesc → Job → Job × Nat} (h_d : d.memWf = true)
   (h_f : ∀ m e, e.d.memWf = true → (f m e).1.d.memWf = true) : (Dev.moveRow d c q kind f).memWf = true := by
  unfold Dev.moveRow
  split
  · exact h_d
  · rename_i ch j heq
    have hj := chainJob_memWf h_d heq
    dsimp only
    split
    · exact h_d
    · simp [h_f _ _ hj]

@[simp ↓] theorem Job.units_memWf {j : Job} {n : Nat} {f : Job → Nat → Job} (h_j : j.d.memWf = true)
   (h_f : ∀ e u, e.d.memWf = true → (f e u).d.memWf = true) : (Job.units j n f).1.d.memWf = true := by
  unfold Job.units
  apply foldl_job_fst_memWf
  · intro e x he
    split
    · exact he
    · exact h_f _ _ he
  · exact h_j

@[simp ↓] theorem copyRun_memWf {m : MDesc} {j : Job} (h_j : j.d.memWf = true) : (copyRun m j).1.d.memWf = true := by
  unfold copyRun
  extract_lets -underBinder src dst step r
  show r.1.d.memWf = true
  apply foldl_job_fst_memWf
  · intro p k hp
    show (step p k).1.d.memWf = true
    simp only [step]
    split
    · exact hp
    · have hc : ((p.1.checkAccess 0 (src k) m.n0).checkAccess 1 (dst k) m.n0).d.memWf = true := by simp [hp]
      split
      · exact hc
      · split <;> simp (maxDischargeDepth := 100) [hc]
  · exact h_j

@[simp ↓] theorem fillRun_memWf {m : MDesc} {j : Job} (h_j : j.d.memWf = true) :
    (fillRun m j).1.d.memWf = true := by
  unfold fillRun
  simp (maxDischargeDepth := 100) +contextual [*]

@[simp ↓] theorem Job.srcBlock_memWf {m : MDesc} {p : BlkCache × Job} {k : Nat} (h_p : p.2.d.memWf = true) :
    (Job.srcBlock m p k).2.d.memWf = true := by
  unfold Job.srcBlock
  repeat' (first
    | (simp (maxDischargeDepth := 100) +contextual [*]; done)
    | (dsimp only; split))

@[simp ↓] theorem Job.putBlock_memWf {j : Job} {m : MDesc} {k : Nat} {b : QBlock} (h_j : j.d.memWf = true) :
    (Job.putBlock j m k b).d.memWf = true := by
  unfold Job.putBlock
  simp (maxDischargeDepth := 100) +contextual [*]

@[simp ↓] theorem convertRun_memWf {m : MDesc} {j : Job} (h_j : j.d.memWf = true) : (convertRun m j).1.d.memWf = true := by
  unfold convertRun
  extract_lets -underBinder n step r
  show r.2.1.d.memWf = true
  have key : ∀ (l : List Nat) (p : BlkCache × Job × Nat), p.2.1.d.memWf = true → (l.foldl step p).2.1.d.memWf = true := by
    intro l
    induction l with
    | nil => intro p hp; exact hp
    | cons k l ih =>
      intro p hp
      apply ih
      simp only [step]
      split
      · exact hp
      · apply Job.go_memWf
        · exact foldl_job_snd_memWf (Job.srcBlock m) _ (fun e x he => Job.srcBlock_memWf he) hp
        · intro e he
          simp [he]
  exact key _ _ h_j

@[simp ↓] theorem Dev.codedStart_memWf {d : Dev} {c q op : Nat} (h_d : d.memWf = true) :
    (Dev.codedStart d c q op).memWf = true := by
  unfold Dev.codedStart
  repeat' (first
    | (simp (maxDischargeDepth := 100) +contextual [*]; done)
    | (dsimp only; split))

@[simp ↓] theorem Dev.takeBlock_memWf {d : Dev} {n c q : Nat} (h_d : d.memWf = true) :
    (Dev.takeBlock d n c q).memWf = true := by
  unfold Dev.takeBlock
  repeat' (first
    | (simp (maxDischargeDepth := 100) +contextual [*]; done)
    | (dsimp only; split)
    | split)

@[simp ↓] theorem Job.codecFault_memWf {j : Job} {n code desc : Nat} (h_j : j.d.memWf = true) :
    (Job.codecFault j n code desc).d.memWf = true := by
  unfold Job.codecFault
  simp (maxDischargeDepth := 100) +contextual [*]

@[simp ↓] theorem Job.crcErr_memWf {j : Job} {n : Nat} (h_j : j.d.memWf = true) :
    (Job.crcErr j n).d.memWf = true := by
  unfold Job.crcErr
  simp (maxDischargeDepth := 100) +contextual [*]

@[simp ↓] theorem frEncBlock_memWf {m : MDesc} {k : Nat} {j : Job} (h_j : j.d.memWf = true) :
    (frEncBlock m k j).d.memWf = true := by
  unfold frEncBlock
  simp (maxDischargeDepth := 100) +contextual [*]

@[simp ↓] theorem frDecBlock_memWf {m : MDesc} {k : Nat} {j : Job} (h_j : j.d.memWf = true) :
    (frDecBlock m k j).d.memWf = true := by
  unfold frDecBlock
  simp (maxDischargeDepth := 100) +contextual [*]

@[simp ↓] theorem Job.tcFail_memWf {j : Job} {n code desc : Nat} (h_j : j.d.memWf = true) :
    (Job.tcFail j n code desc).d.memWf = true := by
  unfold Job.tcFail
  simp (maxDischargeDepth := 100) +contextual [*]

@[simp ↓] theorem tcEncBlock_memWf {m : MDesc} {desc k off : Nat} {a : Admitted} {j : Job} (h_j : j.d.memWf = true) :
    (tcEncBlock m desc k off a j).1.d.memWf = true := by
  unfold tcEncBlock
  repeat' (first
    | (simp (maxDischargeDepth := 100) +contextual [*]; done)
    | (dsimp only; split)
    | split)

@[simp ↓] theorem tcDecBlock_memWf {m : MDesc} {desc k : Nat} {a : Admitted} {j : Job} (h_j : j.d.memWf = true) :
    (tcDecBlock m desc k a j).d.memWf = true := by
  unfold tcDecBlock
  extract_lets -underBinder x
  apply Job.go_memWf (by simp [x, h_j])
  intro e0 h0
  apply Job.go_memWf (by simp [h0])
  intro e he
  extract_lets -underBinder t b
  apply Job.go_memWf (by simp [b, he])
  intro f hf
  apply Job.go_memWf (by simp [hf])
  intro g hg
  dsimp -failIfUnchanged only
  split
  · simp [hg]
  · simp (maxDischargeDepth := 100) +contextual [hg]

@[simp ↓] theorem runBlock_memWf {m : MDesc} {ch : Chain} {a : Admitted} {j : Job} (h_j : j.d.memWf = true) :
    (runBlock m ch a j).1.d.memWf = true := by
  unfold runBlock
  repeat' (first
    | (simp (maxDischargeDepth := 100) +contextual [*]; done)
    | split)

@[simp ↓] theorem Dev.blockDone_memWf {d : Dev} {n c q : Nat} (h_d : d.memWf = true) :
    (Dev.blockDone d n c q).memWf = true := by
  unfold Dev.blockDone
  repeat' (first
    | (simp (maxDischargeDepth := 100) +contextual [*]; done)
    | (dsimp only; split)
    | split)

@[simp ↓] theorem Dev.fabricPost_memWf {d : Dev} {c q : Nat} (h_d : d.memWf = true) : (Dev.fabricPost d c q).memWf = true := by
  unfold Dev.fabricPost
  split
  · exact h_d
  · rename_i ch j heq
    have hj := chainJob_memWf h_d heq
    dsimp only
    split
    · exact h_d
    · split
      · simp (maxDischargeDepth := 100) [hj]
      · split
        · exact h_d
        · simp [h_d]

@[simp ↓] theorem Dev.fabricEnd_memWf {d : Dev} {x : Post} {code : Option Nat} (h_d : d.memWf = true) :
    (Dev.fabricEnd d x code).memWf = true := by
  unfold Dev.fabricEnd
  split
  · exact h_d
  · rename_i ch j heq
    have hj := chainJob_memWf h_d heq
    dsimp only
    split <;> simp (maxDischargeDepth := 100) [hj]

@[simp ↓] theorem Dev.dropTree_memWf {d : Dev} {t ph : Nat} (h_d : d.memWf = true) :
    (Dev.dropTree d t ph).memWf = true := by
  unfold Dev.dropTree
  simp (maxDischargeDepth := 100) +contextual [*]

@[simp ↓] theorem Dev.setTree_memWf {d : Dev} {x : TreeRun} (h_d : d.memWf = true) :
    (Dev.setTree d x).memWf = true := by
  unfold Dev.setTree
  simp (maxDischargeDepth := 100) +contextual [*]

@[simp ↓] theorem Job.treePart_memWf {j : Job} {t : Tree} {ph : Nat} (h_j : j.d.memWf = true) :
    (Job.treePart j t ph).2.d.memWf = true := by
  unfold Job.treePart
  repeat' (first
    | (simp (maxDischargeDepth := 100) +contextual [*]; done)
    | (dsimp only; split)
    | split)

@[simp ↓] theorem Dev.treeFrame_memWf {d : Dev} {e : Edge} {t ph dir : Nat} {m : Nat × List Byte × Bool} (h_d : d.memWf = true) :
    (Dev.treeFrame d e t ph dir m).memWf = true := by
  unfold Dev.treeFrame
  simp (maxDischargeDepth := 100) +contextual [*]

@[simp ↓] theorem Dev.onRtx_memWf {d : Dev} {x : TreeRun} {fin : CmdEnd} {f : Job → Job} (h_d : d.memWf = true) (h_f : ∀ e : Job, e.d.memWf = true → (f e).d.memWf = true) :
    (Dev.onRtx d x fin f).memWf = true := by
  unfold Dev.onRtx
  repeat' (first
    | (simp (maxDischargeDepth := 100) +contextual [*]; done)
    | (dsimp only; split)
    | split
    | (apply foldl_memWf <;> intros))

@[simp ↓] theorem Dev.failTree_memWf {d : Dev} {x : TreeRun} (h_d : d.memWf = true) :
    (Dev.failTree d x).memWf = true := by
  unfold Dev.failTree
  simp (maxDischargeDepth := 100) +contextual [*]

@[simp ↓] theorem Job.takeDown_memWf {j : Job} {t : Tree} {ph off : Nat} {pl : List Byte} (h_j : j.d.memWf = true) :
    (Job.takeDown j t ph off pl).d.memWf = true := by
  unfold Job.takeDown
  simp (maxDischargeDepth := 100) +contextual [*]

@[simp ↓] theorem Job.takeDone_memWf {j : Job} {pl : List Byte} (h_j : j.d.memWf = true) :
    (Job.takeDone j pl).d.memWf = true := by
  unfold Job.takeDone
  simp (maxDischargeDepth := 100) +contextual [*]

@[simp ↓] theorem Dev.treeSpread_memWf {d : Dev} {x : TreeRun} {m : Nat × List Byte × Bool} {fin : CmdEnd} {f : Job → Job} (h_d : d.memWf = true) (h_f : ∀ e : Job, e.d.memWf = true → (f e).d.memWf = true) :
    (Dev.treeSpread d x m fin f).memWf = true := by
  unfold Dev.treeSpread
  simp (maxDischargeDepth := 100) +contextual [*]

@[simp ↓] theorem Dev.treeDown_memWf {d : Dev} {x : TreeRun} {m : Nat × List Byte × Bool} (h_d : d.memWf = true) :
    (Dev.treeDown d x m).memWf = true := by
  unfold Dev.treeDown
  simp (maxDischargeDepth := 100) +contextual [*]

@[simp ↓] theorem Dev.treeDownAt_memWf {d : Dev} {t ph : Nat} {m : Nat × List Byte × Bool} (h_d : d.memWf = true) :
    (Dev.treeDownAt d t ph m).memWf = true := by
  unfold Dev.treeDownAt
  simp (maxDischargeDepth := 100) +contextual [*]

@[simp ↓] theorem Dev.treeRoot_memWf {d : Dev} {x : TreeRun} {n : NodeSum} (h_d : d.memWf = true) :
    (Dev.treeRoot d x n).memWf = true := by
  unfold Dev.treeRoot
  simp (maxDischargeDepth := 100) +contextual [*]

@[simp ↓] theorem Dev.treeUp_memWf {d : Dev} {x : TreeRun} {e : Edge} {n : NodeSum} (h_d : d.memWf = true) :
    (Dev.treeUp d x e n).memWf = true := by
  unfold Dev.treeUp
  simp (maxDischargeDepth := 100) +contextual [*]

@[simp ↓] theorem Dev.treeAdvance_memWf {d : Dev} {x : TreeRun} (h_d : d.memWf = true) :
    (Dev.treeAdvance d x).memWf = true := by
  unfold Dev.treeAdvance
  repeat' (first
    | (simp (maxDischargeDepth := 100) +contextual [*]; done)
    | (dsimp only; split)
    | split)

@[simp ↓] theorem Dev.treesAdvance_memWf {d : Dev} (h_d : d.memWf = true) :
    (Dev.treesAdvance d).memWf = true := by
  unfold Dev.treesAdvance
  simp (maxDischargeDepth := 100) +contextual [*]

@[simp ↓] theorem Job.joinTree_memWf {j : Job} {t : Tree} {ph : Nat} {desc : List Byte} {part : Option (List Byte)} (h_j : j.d.memWf = true) :
    (Job.joinTree j t ph desc part).d.memWf = true := by
  unfold Job.joinTree
  repeat' (first
    | (simp (maxDischargeDepth := 100) +contextual [*]; done)
    | (dsimp only; split)
    | split)

@[simp ↓] theorem Job.badTree_memWf {j : Job} {ph : Nat} {desc : List Byte} (h_j : j.d.memWf = true) :
    (Job.badTree j ph desc).d.memWf = true := by
  unfold Job.badTree
  simp (maxDischargeDepth := 100) +contextual [*]

@[simp ↓] theorem rtxRun_memWf {j : Job} (h_j : j.d.memWf = true) : (rtxRun j).d.memWf = true := by
  unfold rtxRun
  extract_lets -underBinder ph a j0
  apply Job.go_memWf (by simp (maxDischargeDepth := 100) +contextual [j0, h_j])
  intro e he
  extract_lets -underBinder r
  apply Job.go_memWf (by simp [r, he])
  intro x hx
  split
  · simp [hx]
  · apply Job.go_memWf (by simp [hx])
    intro y hy
    dsimp only
    apply Job.go_memWf (by simp [hy])
    intro z hz
    simp [hz]

@[simp ↓] theorem Dev.treeFromChild_memWf {d : Dev} {p : Nat} {x : TreeRun} {f : Frame} (h_d : d.memWf = true) :
    (Dev.treeFromChild d p x f).memWf = true := by
  unfold Dev.treeFromChild
  simp (maxDischargeDepth := 100) +contextual [*]

@[simp ↓] theorem Dev.treeFromParent_memWf {d : Dev} {p : Nat} {x : TreeRun} {f : Frame} (h_d : d.memWf = true) :
    (Dev.treeFromParent d p x f).memWf = true := by
  unfold Dev.treeFromParent
  repeat' (first
    | (simp (maxDischargeDepth := 100) +contextual [*]; done)
    | split)

@[simp ↓] theorem Dev.treeArrived_memWf {d : Dev} {p : Nat} {f : Frame} (h_d : d.memWf = true) :
    (Dev.treeArrived d p f).memWf = true := by
  unfold Dev.treeArrived
  simp (maxDischargeDepth := 100) +contextual [*]

@[simp ↓] theorem Dev.soLatch_memWf {d : Dev} {p : Nat} (h_d : d.memWf = true) :
    (Dev.soLatch d p).memWf = true := by
  unfold Dev.soLatch
  simp (maxDischargeDepth := 100) +contextual [*]

@[simp ↓] theorem Dev.soStart_memWf {d : Dev} {p : Nat} (h_d : d.memWf = true) :
    (Dev.soStart d p).memWf = true := by
  unfold Dev.soStart
  simp (maxDischargeDepth := 100) +contextual [*]

@[simp ↓] theorem Dev.soAdvance_memWf {d : Dev} {p : Nat} (h_d : d.memWf = true) :
    (Dev.soAdvance d p).memWf = true := by
  unfold Dev.soAdvance
  simp (maxDischargeDepth := 100) +contextual [*]

@[simp ↓] theorem Dev.soHalt_memWf {d : Dev} {p : Nat} (h_d : d.memWf = true) :
    (Dev.soHalt d p).memWf = true := by
  unfold Dev.soHalt
  simp (maxDischargeDepth := 100) +contextual [*]

theorem sendPost_memWf {p n : Nat} {d : Dev} {x : Post} (h_d : d.memWf = true) : (Dev.sendPost p n d x).1.memWf = true := by
  induction n generalizing d x with
  | zero => exact h_d
  | succ n ih =>
    unfold Dev.sendPost
    dsimp only
    split
    · exact h_d
    · split
      · exact h_d
      · split
        · exact h_d
        · split
          · simp [h_d]
          · exact ih (by simp [h_d])

@[simp ↓] theorem Dev.setPost_memWf {d : Dev} {p : Nat} {x : Post} {y : Option Post} (h_d : d.memWf = true) :
    (Dev.setPost d p x y).memWf = true := by
  unfold Dev.setPost
  simp (maxDischargeDepth := 100) +contextual [*]

@[simp ↓] theorem Dev.soLocal_memWf {d : Dev} {p : Nat} {e : SlotEntry} (h_d : d.memWf = true) : (Dev.soLocal d p e).memWf = true := by
  unfold Dev.soLocal
  split
  · exact h_d
  · split
    · simp [h_d]
    · rename_i x _ _
      have h := sendPost_memWf (p := p) (n := ceilDiv x.len 4096) (x := x) h_d
      dsimp only
      split <;> simp (maxDischargeDepth := 100) [h]

theorem sendFwd_memWf {p inp n : Nat} {xid : W32} {d : Dev} (h_d : d.memWf = true) :
    (Dev.sendFwd p inp xid n d).1.memWf = true := by
  induction n generalizing d with
  | zero => exact h_d
  | succ n ih =>
    unfold Dev.sendFwd
    dsimp only
    split
    · exact h_d
    · split
      · exact h_d
      · split
        · simp [h_d]
        · exact ih (by simp [h_d])

@[simp ↓] theorem Dev.soForward_memWf {d : Dev} {p : Nat} {e : SlotEntry} (h_d : d.memWf = true) :
    (Dev.soForward d p e).memWf = true := by
  have h0 := Dev.soLocal_memWf (p := p) (e := e) h_d
  unfold Dev.soForward
  dsimp only
  split
  · simp [h0]
  · have h := sendFwd_memWf (p := p) (inp := e.inport) (xid := e.xid)
      (n := ((d.soLocal p e).link e.inport).fwd.length) h0
    split <;> simp [h]

@[simp ↓] theorem Dev.walk_memWf {d : Dev} {p : Nat} (h_d : d.memWf = true) : (Dev.walk d p).memWf = true := by
  have h1 := Dev.soStart_memWf (p := d.linkOf p) h_d
  unfold Dev.walk
  dsimp only
  split
  · exact h1
  · split
    · simp [h1]
    · split
      · simp [h1]
      · split <;> simp [h1]

@[simp ↓] theorem Dev.walkStall_memWf {d : Dev} {p : Nat} (h_d : d.memWf = true) :
    (Dev.walkStall d p).memWf = true := by
  unfold Dev.walkStall
  repeat' (first
    | (simp (maxDischargeDepth := 100) +contextual [*]; done)
    | (dsimp only; split)
    | split)

/-- A command run through `State.run` keeps the form where its effect on the device does. -/
theorem State.run_memWf {s t : State} {f : Dev → Dev} (h : s.run f = .next t) (h_s : s.dev.memWf = true)
    (h_f : ∀ d : Dev, d.memWf = true → (f d).memWf = true) : t.dev.memWf = true := by
  cases h
  exact Dev.deliver_memWf h_s (Dev.traceFlush_memWf (h_f _ (Dev.fresh_memWf h_s)))

end Sys2Proof.Machine
end

