-- ==== Sys2Proof/Laws/State.lean ====
section
/-! SUPPORT. Laws of the device's records: what each basic update leaves in each field, and reading back a register, a
core, a context and a scalar register. -/

namespace Sys2Proof.Machine

/-! ### Every field after every basic update -/

@[simp] theorem Dev.setReg_mem (d : Dev) (r : Reg) (v : W64) : (d.setReg r v).mem = d.mem := rfl
@[simp] theorem Dev.setReg_badPar (d : Dev) (r : Reg) (v : W64) : (d.setReg r v).badPar = d.badPar := rfl
@[simp] theorem Dev.setReg_cores (d : Dev) (r : Reg) (v : W64) : (d.setReg r v).cores = d.cores := rfl
@[simp] theorem Dev.setReg_pmcOn (d : Dev) (r : Reg) (v : W64) : (d.setReg r v).pmcOn = d.pmcOn := rfl
@[simp] theorem Dev.setReg_diesUp (d : Dev) (r : Reg) (v : W64) : (d.setReg r v).diesUp = d.diesUp := rfl
@[simp] theorem Dev.setReg_prot (d : Dev) (r : Reg) (v : W64) : (d.setReg r v).prot = d.prot := rfl
@[simp] theorem Dev.setReg_spills (d : Dev) (r : Reg) (v : W64) : (d.setReg r v).spills = d.spills := rfl
@[simp] theorem Dev.setReg_waitingWrites (d : Dev) (r : Reg) (v : W64) : (d.setReg r v).waitingWrites = d.waitingWrites := rfl
@[simp] theorem Dev.setReg_heldBumps (d : Dev) (r : Reg) (v : W64) : (d.setReg r v).heldBumps = d.heldBumps := rfl
@[simp] theorem Dev.setReg_written (d : Dev) (r : Reg) (v : W64) : (d.setReg r v).written = d.written := rfl
@[simp] theorem Dev.setReg_links (d : Dev) (r : Reg) (v : W64) : (d.setReg r v).links = d.links := rfl
@[simp] theorem Dev.setReg_deadXids (d : Dev) (r : Reg) (v : W64) : (d.setReg r v).deadXids = d.deadXids := rfl
@[simp] theorem Dev.setReg_trees (d : Dev) (r : Reg) (v : W64) : (d.setReg r v).trees = d.trees := rfl
@[simp] theorem Dev.setReg_chorus (d : Dev) (r : Reg) (v : W64) : (d.setReg r v).chorus = d.chorus := rfl
@[simp] theorem Dev.setReg_lul (d : Dev) (r : Reg) (v : W64) : (d.setReg r v).lul = d.lul := rfl
@[simp] theorem Dev.setReg_tim (d : Dev) (r : Reg) (v : W64) : (d.setReg r v).tim = d.tim := rfl
@[simp] theorem Dev.setReg_snp (d : Dev) (r : Reg) (v : W64) : (d.setReg r v).snp = d.snp := rfl
@[simp] theorem Dev.setReg_flt (d : Dev) (r : Reg) (v : W64) : (d.setReg r v).flt = d.flt := rfl
@[simp] theorem Dev.setReg_pwr (d : Dev) (r : Reg) (v : W64) : (d.setReg r v).pwr = d.pwr := rfl
@[simp] theorem Dev.setReg_pmc (d : Dev) (r : Reg) (v : W64) : (d.setReg r v).pmc = d.pmc := rfl
@[simp] theorem Dev.setReg_mgc (d : Dev) (r : Reg) (v : W64) : (d.setReg r v).mgc = d.mgc := rfl
@[simp] theorem Dev.setReg_arbs (d : Dev) (r : Reg) (v : W64) : (d.setReg r v).arbs = d.arbs := rfl
@[simp] theorem Dev.setReg_bdp (d : Dev) (r : Reg) (v : W64) : (d.setReg r v).bdp = d.bdp := rfl
@[simp] theorem Dev.setReg_tabs (d : Dev) (r : Reg) (v : W64) : (d.setReg r v).tabs = d.tabs := rfl
@[simp] theorem Dev.setReg_lulHeld (d : Dev) (r : Reg) (v : W64) : (d.setReg r v).lulHeld = d.lulHeld := rfl
@[simp] theorem Dev.setReg_msixOpen (d : Dev) (r : Reg) (v : W64) : (d.setReg r v).msixOpen = d.msixOpen := rfl
@[simp] theorem Dev.setReg_msixPend (d : Dev) (r : Reg) (v : W64) : (d.setReg r v).msixPend = d.msixPend := rfl
@[simp] theorem Dev.setReg_trace (d : Dev) (r : Reg) (v : W64) : (d.setReg r v).trace = d.trace := rfl
@[simp] theorem Dev.setReg_traceQ (d : Dev) (r : Reg) (v : W64) : (d.setReg r v).traceQ = d.traceQ := rfl
@[simp] theorem Dev.setReg_latches (d : Dev) (r : Reg) (v : W64) : (d.setReg r v).latches = d.latches := rfl
@[simp] theorem Dev.setReg_heldWrites (d : Dev) (r : Reg) (v : W64) : (d.setReg r v).heldWrites = d.heldWrites := rfl
@[simp] theorem Dev.setReg_outbox (d : Dev) (r : Reg) (v : W64) : (d.setReg r v).outbox = d.outbox := rfl
@[simp] theorem Dev.setReg_freeCtr (d : Dev) (r : Reg) (v : W64) : (d.setReg r v).freeCtr = d.freeCtr := rfl

@[simp] theorem Dev.setCore_mem (d : Dev) (c : Nat) (k : Core) : (d.setCore c k).mem = d.mem := rfl
@[simp] theorem Dev.setCore_badPar (d : Dev) (c : Nat) (k : Core) : (d.setCore c k).badPar = d.badPar := rfl
@[simp] theorem Dev.setCore_regs (d : Dev) (c : Nat) (k : Core) : (d.setCore c k).regs = d.regs := rfl
@[simp] theorem Dev.setCore_pmcOn (d : Dev) (c : Nat) (k : Core) : (d.setCore c k).pmcOn = d.pmcOn := rfl
@[simp] theorem Dev.setCore_diesUp (d : Dev) (c : Nat) (k : Core) : (d.setCore c k).diesUp = d.diesUp := rfl
@[simp] theorem Dev.setCore_prot (d : Dev) (c : Nat) (k : Core) : (d.setCore c k).prot = d.prot := rfl
@[simp] theorem Dev.setCore_spills (d : Dev) (c : Nat) (k : Core) : (d.setCore c k).spills = d.spills := rfl
@[simp] theorem Dev.setCore_waitingWrites (d : Dev) (c : Nat) (k : Core) : (d.setCore c k).waitingWrites = d.waitingWrites := rfl
@[simp] theorem Dev.setCore_heldBumps (d : Dev) (c : Nat) (k : Core) : (d.setCore c k).heldBumps = d.heldBumps := rfl
@[simp] theorem Dev.setCore_written (d : Dev) (c : Nat) (k : Core) : (d.setCore c k).written = d.written := rfl
@[simp] theorem Dev.setCore_links (d : Dev) (c : Nat) (k : Core) : (d.setCore c k).links = d.links := rfl
@[simp] theorem Dev.setCore_deadXids (d : Dev) (c : Nat) (k : Core) : (d.setCore c k).deadXids = d.deadXids := rfl
@[simp] theorem Dev.setCore_trees (d : Dev) (c : Nat) (k : Core) : (d.setCore c k).trees = d.trees := rfl
@[simp] theorem Dev.setCore_chorus (d : Dev) (c : Nat) (k : Core) : (d.setCore c k).chorus = d.chorus := rfl
@[simp] theorem Dev.setCore_lul (d : Dev) (c : Nat) (k : Core) : (d.setCore c k).lul = d.lul := rfl
@[simp] theorem Dev.setCore_tim (d : Dev) (c : Nat) (k : Core) : (d.setCore c k).tim = d.tim := rfl
@[simp] theorem Dev.setCore_snp (d : Dev) (c : Nat) (k : Core) : (d.setCore c k).snp = d.snp := rfl
@[simp] theorem Dev.setCore_flt (d : Dev) (c : Nat) (k : Core) : (d.setCore c k).flt = d.flt := rfl
@[simp] theorem Dev.setCore_pwr (d : Dev) (c : Nat) (k : Core) : (d.setCore c k).pwr = d.pwr := rfl
@[simp] theorem Dev.setCore_pmc (d : Dev) (c : Nat) (k : Core) : (d.setCore c k).pmc = d.pmc := rfl
@[simp] theorem Dev.setCore_mgc (d : Dev) (c : Nat) (k : Core) : (d.setCore c k).mgc = d.mgc := rfl
@[simp] theorem Dev.setCore_arbs (d : Dev) (c : Nat) (k : Core) : (d.setCore c k).arbs = d.arbs := rfl
@[simp] theorem Dev.setCore_bdp (d : Dev) (c : Nat) (k : Core) : (d.setCore c k).bdp = d.bdp := rfl
@[simp] theorem Dev.setCore_tabs (d : Dev) (c : Nat) (k : Core) : (d.setCore c k).tabs = d.tabs := rfl
@[simp] theorem Dev.setCore_lulHeld (d : Dev) (c : Nat) (k : Core) : (d.setCore c k).lulHeld = d.lulHeld := rfl
@[simp] theorem Dev.setCore_msixOpen (d : Dev) (c : Nat) (k : Core) : (d.setCore c k).msixOpen = d.msixOpen := rfl
@[simp] theorem Dev.setCore_msixPend (d : Dev) (c : Nat) (k : Core) : (d.setCore c k).msixPend = d.msixPend := rfl
@[simp] theorem Dev.setCore_trace (d : Dev) (c : Nat) (k : Core) : (d.setCore c k).trace = d.trace := rfl
@[simp] theorem Dev.setCore_traceQ (d : Dev) (c : Nat) (k : Core) : (d.setCore c k).traceQ = d.traceQ := rfl
@[simp] theorem Dev.setCore_latches (d : Dev) (c : Nat) (k : Core) : (d.setCore c k).latches = d.latches := rfl
@[simp] theorem Dev.setCore_heldWrites (d : Dev) (c : Nat) (k : Core) : (d.setCore c k).heldWrites = d.heldWrites := rfl
@[simp] theorem Dev.setCore_outbox (d : Dev) (c : Nat) (k : Core) : (d.setCore c k).outbox = d.outbox := rfl
@[simp] theorem Dev.setCore_freeCtr (d : Dev) (c : Nat) (k : Core) : (d.setCore c k).freeCtr = d.freeCtr := rfl

@[simp] theorem Dev.useFree_mem (d : Dev) (n : Nat) : (d.useFree n).mem = d.mem := rfl
@[simp] theorem Dev.useFree_badPar (d : Dev) (n : Nat) : (d.useFree n).badPar = d.badPar := rfl
@[simp] theorem Dev.useFree_regs (d : Dev) (n : Nat) : (d.useFree n).regs = d.regs := rfl
@[simp] theorem Dev.useFree_cores (d : Dev) (n : Nat) : (d.useFree n).cores = d.cores := rfl
@[simp] theorem Dev.useFree_pmcOn (d : Dev) (n : Nat) : (d.useFree n).pmcOn = d.pmcOn := rfl
@[simp] theorem Dev.useFree_diesUp (d : Dev) (n : Nat) : (d.useFree n).diesUp = d.diesUp := rfl
@[simp] theorem Dev.useFree_prot (d : Dev) (n : Nat) : (d.useFree n).prot = d.prot := rfl
@[simp] theorem Dev.useFree_spills (d : Dev) (n : Nat) : (d.useFree n).spills = d.spills := rfl
@[simp] theorem Dev.useFree_waitingWrites (d : Dev) (n : Nat) : (d.useFree n).waitingWrites = d.waitingWrites := rfl
@[simp] theorem Dev.useFree_heldBumps (d : Dev) (n : Nat) : (d.useFree n).heldBumps = d.heldBumps := rfl
@[simp] theorem Dev.useFree_written (d : Dev) (n : Nat) : (d.useFree n).written = d.written := rfl
@[simp] theorem Dev.useFree_links (d : Dev) (n : Nat) : (d.useFree n).links = d.links := rfl
@[simp] theorem Dev.useFree_deadXids (d : Dev) (n : Nat) : (d.useFree n).deadXids = d.deadXids := rfl
@[simp] theorem Dev.useFree_trees (d : Dev) (n : Nat) : (d.useFree n).trees = d.trees := rfl
@[simp] theorem Dev.useFree_chorus (d : Dev) (n : Nat) : (d.useFree n).chorus = d.chorus := rfl
@[simp] theorem Dev.useFree_lul (d : Dev) (n : Nat) : (d.useFree n).lul = d.lul := rfl
@[simp] theorem Dev.useFree_tim (d : Dev) (n : Nat) : (d.useFree n).tim = d.tim := rfl
@[simp] theorem Dev.useFree_snp (d : Dev) (n : Nat) : (d.useFree n).snp = d.snp := rfl
@[simp] theorem Dev.useFree_flt (d : Dev) (n : Nat) : (d.useFree n).flt = d.flt := rfl
@[simp] theorem Dev.useFree_pwr (d : Dev) (n : Nat) : (d.useFree n).pwr = d.pwr := rfl
@[simp] theorem Dev.useFree_pmc (d : Dev) (n : Nat) : (d.useFree n).pmc = d.pmc := rfl
@[simp] theorem Dev.useFree_mgc (d : Dev) (n : Nat) : (d.useFree n).mgc = d.mgc := rfl
@[simp] theorem Dev.useFree_arbs (d : Dev) (n : Nat) : (d.useFree n).arbs = d.arbs := rfl
@[simp] theorem Dev.useFree_bdp (d : Dev) (n : Nat) : (d.useFree n).bdp = d.bdp := rfl
@[simp] theorem Dev.useFree_tabs (d : Dev) (n : Nat) : (d.useFree n).tabs = d.tabs := rfl
@[simp] theorem Dev.useFree_lulHeld (d : Dev) (n : Nat) : (d.useFree n).lulHeld = d.lulHeld := rfl
@[simp] theorem Dev.useFree_msixOpen (d : Dev) (n : Nat) : (d.useFree n).msixOpen = d.msixOpen := rfl
@[simp] theorem Dev.useFree_msixPend (d : Dev) (n : Nat) : (d.useFree n).msixPend = d.msixPend := rfl
@[simp] theorem Dev.useFree_trace (d : Dev) (n : Nat) : (d.useFree n).trace = d.trace := rfl
@[simp] theorem Dev.useFree_traceQ (d : Dev) (n : Nat) : (d.useFree n).traceQ = d.traceQ := rfl
@[simp] theorem Dev.useFree_latches (d : Dev) (n : Nat) : (d.useFree n).latches = d.latches := rfl
@[simp] theorem Dev.useFree_heldWrites (d : Dev) (n : Nat) : (d.useFree n).heldWrites = d.heldWrites := rfl
@[simp] theorem Dev.useFree_outbox (d : Dev) (n : Nat) : (d.useFree n).outbox = d.outbox := rfl

@[simp] theorem Dev.emit_mem (d : Dev) (o : Out) : (d.emit o).mem = d.mem := rfl
@[simp] theorem Dev.emit_badPar (d : Dev) (o : Out) : (d.emit o).badPar = d.badPar := rfl
@[simp] theorem Dev.emit_regs (d : Dev) (o : Out) : (d.emit o).regs = d.regs := rfl
@[simp] theorem Dev.emit_cores (d : Dev) (o : Out) : (d.emit o).cores = d.cores := rfl
@[simp] theorem Dev.emit_pmcOn (d : Dev) (o : Out) : (d.emit o).pmcOn = d.pmcOn := rfl
@[simp] theorem Dev.emit_diesUp (d : Dev) (o : Out) : (d.emit o).diesUp = d.diesUp := rfl
@[simp] theorem Dev.emit_prot (d : Dev) (o : Out) : (d.emit o).prot = d.prot := rfl
@[simp] theorem Dev.emit_spills (d : Dev) (o : Out) : (d.emit o).spills = d.spills := rfl
@[simp] theorem Dev.emit_waitingWrites (d : Dev) (o : Out) : (d.emit o).waitingWrites = d.waitingWrites := rfl
@[simp] theorem Dev.emit_heldBumps (d : Dev) (o : Out) : (d.emit o).heldBumps = d.heldBumps := rfl
@[simp] theorem Dev.emit_written (d : Dev) (o : Out) : (d.emit o).written = d.written := rfl
@[simp] theorem Dev.emit_links (d : Dev) (o : Out) : (d.emit o).links = d.links := rfl
@[simp] theorem Dev.emit_deadXids (d : Dev) (o : Out) : (d.emit o).deadXids = d.deadXids := rfl
@[simp] theorem Dev.emit_trees (d : Dev) (o : Out) : (d.emit o).trees = d.trees := rfl
@[simp] theorem Dev.emit_chorus (d : Dev) (o : Out) : (d.emit o).chorus = d.chorus := rfl
@[simp] theorem Dev.emit_lul (d : Dev) (o : Out) : (d.emit o).lul = d.lul := rfl
@[simp] theorem Dev.emit_tim (d : Dev) (o : Out) : (d.emit o).tim = d.tim := rfl
@[simp] theorem Dev.emit_snp (d : Dev) (o : Out) : (d.emit o).snp = d.snp := rfl
@[simp] theorem Dev.emit_flt (d : Dev) (o : Out) : (d.emit o).flt = d.flt := rfl
@[simp] theorem Dev.emit_pwr (d : Dev) (o : Out) : (d.emit o).pwr = d.pwr := rfl
@[simp] theorem Dev.emit_pmc (d : Dev) (o : Out) : (d.emit o).pmc = d.pmc := rfl
@[simp] theorem Dev.emit_mgc (d : Dev) (o : Out) : (d.emit o).mgc = d.mgc := rfl
@[simp] theorem Dev.emit_arbs (d : Dev) (o : Out) : (d.emit o).arbs = d.arbs := rfl
@[simp] theorem Dev.emit_bdp (d : Dev) (o : Out) : (d.emit o).bdp = d.bdp := rfl
@[simp] theorem Dev.emit_tabs (d : Dev) (o : Out) : (d.emit o).tabs = d.tabs := rfl
@[simp] theorem Dev.emit_lulHeld (d : Dev) (o : Out) : (d.emit o).lulHeld = d.lulHeld := rfl
@[simp] theorem Dev.emit_msixOpen (d : Dev) (o : Out) : (d.emit o).msixOpen = d.msixOpen := rfl
@[simp] theorem Dev.emit_msixPend (d : Dev) (o : Out) : (d.emit o).msixPend = d.msixPend := rfl
@[simp] theorem Dev.emit_trace (d : Dev) (o : Out) : (d.emit o).trace = d.trace := rfl
@[simp] theorem Dev.emit_traceQ (d : Dev) (o : Out) : (d.emit o).traceQ = d.traceQ := rfl
@[simp] theorem Dev.emit_latches (d : Dev) (o : Out) : (d.emit o).latches = d.latches := rfl
@[simp] theorem Dev.emit_heldWrites (d : Dev) (o : Out) : (d.emit o).heldWrites = d.heldWrites := rfl
@[simp] theorem Dev.emit_freeCtr (d : Dev) (o : Out) : (d.emit o).freeCtr = d.freeCtr := rfl

@[simp] theorem Dev.emit_outbox (d : Dev) (o : Out) : (d.emit o).outbox = d.outbox ++ [o] := rfl
@[simp] theorem Dev.useFree_freeCtr (d : Dev) (n : Nat) : (d.useFree n).freeCtr = d.freeCtr + n := rfl

/-! ### The delivery of messages -/

/-- Delivering messages changes nothing but the outputs and the pending-bit array. -/
theorem Dev.deliver_eq (a b : Dev) : ∃ o p, a.deliver b = { b with outbox := o, msixPend := p } := by
  suffices h : ∀ (l : List Nat) (e : Dev), (∃ o p, e = { b with outbox := o, msixPend := p }) →
      ∃ o p, l.foldl (fun (e : Dev) v =>
        if a.vectorRises b v then
          if mapGet (fun _ => false) b.msixOpen v then e.emit (.msix v)
          else { e with msixPend := mapSet (fun _ => false) e.msixPend v true }
        else e) e = { b with outbox := o, msixPend := p } by
    obtain ⟨o, p, he⟩ := h (List.range 4) b ⟨b.outbox, b.msixPend, rfl⟩
    unfold Dev.deliver
    rw [he]
    dsimp only
    split
    · exact ⟨_, _, rfl⟩
    · exact ⟨_, _, rfl⟩
  intro l
  induction l with
  | nil => intro e h; exact h
  | cons v l ih =>
    intro e h
    apply ih
    obtain ⟨o, p, rfl⟩ := h
    dsimp only
    split
    · split
      · exact ⟨_, _, rfl⟩
      · exact ⟨_, _, rfl⟩
    · exact ⟨_, _, rfl⟩

@[simp] theorem Dev.deliver_mem (a b : Dev) : (a.deliver b).mem = b.mem := by
  obtain ⟨o, p, h⟩ := Dev.deliver_eq a b
  rw [h]

@[simp] theorem Dev.deliver_badPar (a b : Dev) : (a.deliver b).badPar = b.badPar := by
  obtain ⟨o, p, h⟩ := Dev.deliver_eq a b
  rw [h]

@[simp] theorem Dev.deliver_regs (a b : Dev) : (a.deliver b).regs = b.regs := by
  obtain ⟨o, p, h⟩ := Dev.deliver_eq a b
  rw [h]

@[simp] theorem Dev.deliver_cores (a b : Dev) : (a.deliver b).cores = b.cores := by
  obtain ⟨o, p, h⟩ := Dev.deliver_eq a b
  rw [h]

@[simp] theorem Dev.deliver_pmcOn (a b : Dev) : (a.deliver b).pmcOn = b.pmcOn := by
  obtain ⟨o, p, h⟩ := Dev.deliver_eq a b
  rw [h]

@[simp] theorem Dev.deliver_diesUp (a b : Dev) : (a.deliver b).diesUp = b.diesUp := by
  obtain ⟨o, p, h⟩ := Dev.deliver_eq a b
  rw [h]

@[simp] theorem Dev.deliver_prot (a b : Dev) : (a.deliver b).prot = b.prot := by
  obtain ⟨o, p, h⟩ := Dev.deliver_eq a b
  rw [h]

@[simp] theorem Dev.deliver_spills (a b : Dev) : (a.deliver b).spills = b.spills := by
  obtain ⟨o, p, h⟩ := Dev.deliver_eq a b
  rw [h]

@[simp] theorem Dev.deliver_waitingWrites (a b : Dev) : (a.deliver b).waitingWrites = b.waitingWrites := by
  obtain ⟨o, p, h⟩ := Dev.deliver_eq a b
  rw [h]

@[simp] theorem Dev.deliver_heldBumps (a b : Dev) : (a.deliver b).heldBumps = b.heldBumps := by
  obtain ⟨o, p, h⟩ := Dev.deliver_eq a b
  rw [h]

@[simp] theorem Dev.deliver_written (a b : Dev) : (a.deliver b).written = b.written := by
  obtain ⟨o, p, h⟩ := Dev.deliver_eq a b
  rw [h]

@[simp] theorem Dev.deliver_links (a b : Dev) : (a.deliver b).links = b.links := by
  obtain ⟨o, p, h⟩ := Dev.deliver_eq a b
  rw [h]

@[simp] theorem Dev.deliver_deadXids (a b : Dev) : (a.deliver b).deadXids = b.deadXids := by
  obtain ⟨o, p, h⟩ := Dev.deliver_eq a b
  rw [h]

@[simp] theorem Dev.deliver_trees (a b : Dev) : (a.deliver b).trees = b.trees := by
  obtain ⟨o, p, h⟩ := Dev.deliver_eq a b
  rw [h]

@[simp] theorem Dev.deliver_chorus (a b : Dev) : (a.deliver b).chorus = b.chorus := by
  obtain ⟨o, p, h⟩ := Dev.deliver_eq a b
  rw [h]

@[simp] theorem Dev.deliver_lul (a b : Dev) : (a.deliver b).lul = b.lul := by
  obtain ⟨o, p, h⟩ := Dev.deliver_eq a b
  rw [h]

@[simp] theorem Dev.deliver_tim (a b : Dev) : (a.deliver b).tim = b.tim := by
  obtain ⟨o, p, h⟩ := Dev.deliver_eq a b
  rw [h]

@[simp] theorem Dev.deliver_snp (a b : Dev) : (a.deliver b).snp = b.snp := by
  obtain ⟨o, p, h⟩ := Dev.deliver_eq a b
  rw [h]

@[simp] theorem Dev.deliver_flt (a b : Dev) : (a.deliver b).flt = b.flt := by
  obtain ⟨o, p, h⟩ := Dev.deliver_eq a b
  rw [h]

@[simp] theorem Dev.deliver_pwr (a b : Dev) : (a.deliver b).pwr = b.pwr := by
  obtain ⟨o, p, h⟩ := Dev.deliver_eq a b
  rw [h]

@[simp] theorem Dev.deliver_pmc (a b : Dev) : (a.deliver b).pmc = b.pmc := by
  obtain ⟨o, p, h⟩ := Dev.deliver_eq a b
  rw [h]

@[simp] theorem Dev.deliver_mgc (a b : Dev) : (a.deliver b).mgc = b.mgc := by
  obtain ⟨o, p, h⟩ := Dev.deliver_eq a b
  rw [h]

@[simp] theorem Dev.deliver_arbs (a b : Dev) : (a.deliver b).arbs = b.arbs := by
  obtain ⟨o, p, h⟩ := Dev.deliver_eq a b
  rw [h]

@[simp] theorem Dev.deliver_bdp (a b : Dev) : (a.deliver b).bdp = b.bdp := by
  obtain ⟨o, p, h⟩ := Dev.deliver_eq a b
  rw [h]

@[simp] theorem Dev.deliver_tabs (a b : Dev) : (a.deliver b).tabs = b.tabs := by
  obtain ⟨o, p, h⟩ := Dev.deliver_eq a b
  rw [h]

@[simp] theorem Dev.deliver_lulHeld (a b : Dev) : (a.deliver b).lulHeld = b.lulHeld := by
  obtain ⟨o, p, h⟩ := Dev.deliver_eq a b
  rw [h]

@[simp] theorem Dev.deliver_msixOpen (a b : Dev) : (a.deliver b).msixOpen = b.msixOpen := by
  obtain ⟨o, p, h⟩ := Dev.deliver_eq a b
  rw [h]

@[simp] theorem Dev.deliver_trace (a b : Dev) : (a.deliver b).trace = b.trace := by
  obtain ⟨o, p, h⟩ := Dev.deliver_eq a b
  rw [h]

@[simp] theorem Dev.deliver_traceQ (a b : Dev) : (a.deliver b).traceQ = b.traceQ := by
  obtain ⟨o, p, h⟩ := Dev.deliver_eq a b
  rw [h]

@[simp] theorem Dev.deliver_latches (a b : Dev) : (a.deliver b).latches = b.latches := by
  obtain ⟨o, p, h⟩ := Dev.deliver_eq a b
  rw [h]

@[simp] theorem Dev.deliver_heldWrites (a b : Dev) : (a.deliver b).heldWrites = b.heldWrites := by
  obtain ⟨o, p, h⟩ := Dev.deliver_eq a b
  rw [h]

@[simp] theorem Dev.deliver_freeCtr (a b : Dev) : (a.deliver b).freeCtr = b.freeCtr := by
  obtain ⟨o, p, h⟩ := Dev.deliver_eq a b
  rw [h]

/-! ### The trace of a command -/

@[simp] theorem Dev.fresh_traceQ (d : Dev) : d.fresh.traceQ = [] := rfl
@[simp] theorem Dev.fresh_mem (d : Dev) : d.fresh.mem = d.mem := rfl
@[simp] theorem Dev.fresh_badPar (d : Dev) : d.fresh.badPar = d.badPar := rfl
@[simp] theorem Dev.fresh_regs (d : Dev) : d.fresh.regs = d.regs := rfl
@[simp] theorem Dev.fresh_cores (d : Dev) : d.fresh.cores = d.cores := rfl
@[simp] theorem Dev.fresh_pmcOn (d : Dev) : d.fresh.pmcOn = d.pmcOn := rfl
@[simp] theorem Dev.fresh_diesUp (d : Dev) : d.fresh.diesUp = d.diesUp := rfl
@[simp] theorem Dev.fresh_prot (d : Dev) : d.fresh.prot = d.prot := rfl
@[simp] theorem Dev.fresh_spills (d : Dev) : d.fresh.spills = d.spills := rfl
@[simp] theorem Dev.fresh_waitingWrites (d : Dev) : d.fresh.waitingWrites = d.waitingWrites := rfl
@[simp] theorem Dev.fresh_heldBumps (d : Dev) : d.fresh.heldBumps = d.heldBumps := rfl
@[simp] theorem Dev.fresh_written (d : Dev) : d.fresh.written = d.written := rfl
@[simp] theorem Dev.fresh_links (d : Dev) : d.fresh.links = d.links := rfl
@[simp] theorem Dev.fresh_deadXids (d : Dev) : d.fresh.deadXids = d.deadXids := rfl
@[simp] theorem Dev.fresh_trees (d : Dev) : d.fresh.trees = d.trees := rfl
@[simp] theorem Dev.fresh_chorus (d : Dev) : d.fresh.chorus = d.chorus := rfl
@[simp] theorem Dev.fresh_lul (d : Dev) : d.fresh.lul = d.lul := rfl
@[simp] theorem Dev.fresh_tim (d : Dev) : d.fresh.tim = d.tim := rfl
@[simp] theorem Dev.fresh_snp (d : Dev) : d.fresh.snp = d.snp := rfl
@[simp] theorem Dev.fresh_flt (d : Dev) : d.fresh.flt = d.flt := rfl
@[simp] theorem Dev.fresh_pwr (d : Dev) : d.fresh.pwr = d.pwr := rfl
@[simp] theorem Dev.fresh_pmc (d : Dev) : d.fresh.pmc = d.pmc := rfl
@[simp] theorem Dev.fresh_mgc (d : Dev) : d.fresh.mgc = d.mgc := rfl
@[simp] theorem Dev.fresh_arbs (d : Dev) : d.fresh.arbs = d.arbs := rfl
@[simp] theorem Dev.fresh_bdp (d : Dev) : d.fresh.bdp = d.bdp := rfl
@[simp] theorem Dev.fresh_tabs (d : Dev) : d.fresh.tabs = d.tabs := rfl
@[simp] theorem Dev.fresh_lulHeld (d : Dev) : d.fresh.lulHeld = d.lulHeld := rfl
@[simp] theorem Dev.fresh_msixOpen (d : Dev) : d.fresh.msixOpen = d.msixOpen := rfl
@[simp] theorem Dev.fresh_msixPend (d : Dev) : d.fresh.msixPend = d.msixPend := rfl
@[simp] theorem Dev.fresh_trace (d : Dev) : d.fresh.trace = d.trace := rfl
@[simp] theorem Dev.fresh_latches (d : Dev) : d.fresh.latches = d.latches := rfl
@[simp] theorem Dev.fresh_heldWrites (d : Dev) : d.fresh.heldWrites = d.heldWrites := rfl
@[simp] theorem Dev.fresh_outbox (d : Dev) : d.fresh.outbox = d.outbox := rfl
@[simp] theorem Dev.fresh_freeCtr (d : Dev) : d.fresh.freeCtr = d.freeCtr := rfl

/-- Writing an event's entry changes registers and the trace memory alone. -/
theorem Dev.tracePut_eq (d : Dev) (n : TraceNote) : ∃ r m, d.tracePut n = { d with regs := r, trace := m } := by
  unfold Dev.tracePut
  dsimp only
  split
  · exact ⟨d.regs, d.trace, rfl⟩
  · split
    · exact ⟨_, _, rfl⟩
    · exact ⟨_, _, rfl⟩

/-- Writing events' entries changes registers and the trace memory alone. -/
theorem Dev.tracePuts_eq (l : List TraceNote) (d : Dev) :
    ∃ r m, l.foldl (fun (e : Dev) n => e.tracePut n) d = { d with regs := r, trace := m } := by
  induction l generalizing d with
  | nil => exact ⟨d.regs, d.trace, rfl⟩
  | cons n l ih =>
    obtain ⟨r, m, h⟩ := Dev.tracePut_eq d n
    rw [List.foldl_cons, h]
    obtain ⟨r2, m2, h2⟩ := ih { d with regs := r, trace := m }
    exact ⟨r2, m2, h2⟩

/-- The trace of one core changes registers, the trace memory and the count of free values alone. -/
theorem Dev.traceCore_eq (d : Dev) (c : Nat) : ∃ r m n, d.traceCore c = { d with regs := r, trace := m, freeCtr := n } := by
  unfold Dev.traceCore
  obtain ⟨r, m, h⟩ := Dev.tracePuts_eq
    (((List.range 21).flatMap (fun r => d.traceQ.filter (fun n => n.core == c && n.rank == r))).take 4) d
  dsimp only
  rw [h]
  split
  · exact ⟨_, _, _, rfl⟩
  · exact ⟨_, _, _, rfl⟩

/-- Writing the trace of a command changes registers, the trace memory and the count of free values, and leaves no event
waiting. -/
theorem Dev.traceFlush_eq (d : Dev) :
    ∃ r m n, d.traceFlush = { d with regs := r, trace := m, freeCtr := n, traceQ := [] } := by
  suffices h : ∀ (l : List Nat) (e : Dev), ∃ r m n,
      l.foldl (fun (e : Dev) c => e.traceCore c) e = { e with regs := r, trace := m, freeCtr := n } by
    unfold Dev.traceFlush
    split
    · rename_i hq
      have hq' : d.traceQ = [] := by simpa using hq
      exact ⟨d.regs, d.trace, d.freeCtr, by cases d; simp_all⟩
    · obtain ⟨r, m, n, he⟩ := h ((d.traceQ.map TraceNote.core).eraseDups) d
      rw [he]
      exact ⟨r, m, n, rfl⟩
  intro l
  induction l with
  | nil => intro e; exact ⟨e.regs, e.trace, e.freeCtr, rfl⟩
  | cons c l ih =>
    intro e
    obtain ⟨r, m, n, h⟩ := Dev.traceCore_eq e c
    rw [List.foldl_cons, h]
    obtain ⟨r2, m2, n2, h2⟩ := ih { e with regs := r, trace := m, freeCtr := n }
    exact ⟨r2, m2, n2, h2⟩

/-- With no event waiting nothing is written. -/
theorem Dev.traceFlush_none (d : Dev) (h : d.traceQ = []) : d.traceFlush = d := by
  simp [Dev.traceFlush, h]

@[simp] theorem Dev.traceFlush_traceQ (d : Dev) : d.traceFlush.traceQ = [] := by
  obtain ⟨r, m, n, h⟩ := Dev.traceFlush_eq d
  rw [h]

@[simp] theorem Dev.traceFlush_mem (d : Dev) : d.traceFlush.mem = d.mem := by
  obtain ⟨r, m, n, h⟩ := Dev.traceFlush_eq d
  rw [h]

@[simp] theorem Dev.traceFlush_badPar (d : Dev) : d.traceFlush.badPar = d.badPar := by
  obtain ⟨r, m, n, h⟩ := Dev.traceFlush_eq d
  rw [h]

@[simp] theorem Dev.traceFlush_cores (d : Dev) : d.traceFlush.cores = d.cores := by
  obtain ⟨r, m, n, h⟩ := Dev.traceFlush_eq d
  rw [h]

@[simp] theorem Dev.traceFlush_pmcOn (d : Dev) : d.traceFlush.pmcOn = d.pmcOn := by
  obtain ⟨r, m, n, h⟩ := Dev.traceFlush_eq d
  rw [h]

@[simp] theorem Dev.traceFlush_diesUp (d : Dev) : d.traceFlush.diesUp = d.diesUp := by
  obtain ⟨r, m, n, h⟩ := Dev.traceFlush_eq d
  rw [h]

@[simp] theorem Dev.traceFlush_prot (d : Dev) : d.traceFlush.prot = d.prot := by
  obtain ⟨r, m, n, h⟩ := Dev.traceFlush_eq d
  rw [h]

@[simp] theorem Dev.traceFlush_spills (d : Dev) : d.traceFlush.spills = d.spills := by
  obtain ⟨r, m, n, h⟩ := Dev.traceFlush_eq d
  rw [h]

@[simp] theorem Dev.traceFlush_waitingWrites (d : Dev) : d.traceFlush.waitingWrites = d.waitingWrites := by
  obtain ⟨r, m, n, h⟩ := Dev.traceFlush_eq d
  rw [h]

@[simp] theorem Dev.traceFlush_heldBumps (d : Dev) : d.traceFlush.heldBumps = d.heldBumps := by
  obtain ⟨r, m, n, h⟩ := Dev.traceFlush_eq d
  rw [h]

@[simp] theorem Dev.traceFlush_written (d : Dev) : d.traceFlush.written = d.written := by
  obtain ⟨r, m, n, h⟩ := Dev.traceFlush_eq d
  rw [h]

@[simp] theorem Dev.traceFlush_links (d : Dev) : d.traceFlush.links = d.links := by
  obtain ⟨r, m, n, h⟩ := Dev.traceFlush_eq d
  rw [h]

@[simp] theorem Dev.traceFlush_deadXids (d : Dev) : d.traceFlush.deadXids = d.deadXids := by
  obtain ⟨r, m, n, h⟩ := Dev.traceFlush_eq d
  rw [h]

@[simp] theorem Dev.traceFlush_trees (d : Dev) : d.traceFlush.trees = d.trees := by
  obtain ⟨r, m, n, h⟩ := Dev.traceFlush_eq d
  rw [h]

@[simp] theorem Dev.traceFlush_chorus (d : Dev) : d.traceFlush.chorus = d.chorus := by
  obtain ⟨r, m, n, h⟩ := Dev.traceFlush_eq d
  rw [h]

@[simp] theorem Dev.traceFlush_lul (d : Dev) : d.traceFlush.lul = d.lul := by
  obtain ⟨r, m, n, h⟩ := Dev.traceFlush_eq d
  rw [h]

@[simp] theorem Dev.traceFlush_tim (d : Dev) : d.traceFlush.tim = d.tim := by
  obtain ⟨r, m, n, h⟩ := Dev.traceFlush_eq d
  rw [h]

@[simp] theorem Dev.traceFlush_snp (d : Dev) : d.traceFlush.snp = d.snp := by
  obtain ⟨r, m, n, h⟩ := Dev.traceFlush_eq d
  rw [h]

@[simp] theorem Dev.traceFlush_flt (d : Dev) : d.traceFlush.flt = d.flt := by
  obtain ⟨r, m, n, h⟩ := Dev.traceFlush_eq d
  rw [h]

@[simp] theorem Dev.traceFlush_pwr (d : Dev) : d.traceFlush.pwr = d.pwr := by
  obtain ⟨r, m, n, h⟩ := Dev.traceFlush_eq d
  rw [h]

@[simp] theorem Dev.traceFlush_pmc (d : Dev) : d.traceFlush.pmc = d.pmc := by
  obtain ⟨r, m, n, h⟩ := Dev.traceFlush_eq d
  rw [h]

@[simp] theorem Dev.traceFlush_mgc (d : Dev) : d.traceFlush.mgc = d.mgc := by
  obtain ⟨r, m, n, h⟩ := Dev.traceFlush_eq d
  rw [h]

@[simp] theorem Dev.traceFlush_arbs (d : Dev) : d.traceFlush.arbs = d.arbs := by
  obtain ⟨r, m, n, h⟩ := Dev.traceFlush_eq d
  rw [h]

@[simp] theorem Dev.traceFlush_bdp (d : Dev) : d.traceFlush.bdp = d.bdp := by
  obtain ⟨r, m, n, h⟩ := Dev.traceFlush_eq d
  rw [h]

@[simp] theorem Dev.traceFlush_tabs (d : Dev) : d.traceFlush.tabs = d.tabs := by
  obtain ⟨r, m, n, h⟩ := Dev.traceFlush_eq d
  rw [h]

@[simp] theorem Dev.traceFlush_lulHeld (d : Dev) : d.traceFlush.lulHeld = d.lulHeld := by
  obtain ⟨r, m, n, h⟩ := Dev.traceFlush_eq d
  rw [h]

@[simp] theorem Dev.traceFlush_msixOpen (d : Dev) : d.traceFlush.msixOpen = d.msixOpen := by
  obtain ⟨r, m, n, h⟩ := Dev.traceFlush_eq d
  rw [h]

@[simp] theorem Dev.traceFlush_msixPend (d : Dev) : d.traceFlush.msixPend = d.msixPend := by
  obtain ⟨r, m, n, h⟩ := Dev.traceFlush_eq d
  rw [h]

@[simp] theorem Dev.traceFlush_latches (d : Dev) : d.traceFlush.latches = d.latches := by
  obtain ⟨r, m, n, h⟩ := Dev.traceFlush_eq d
  rw [h]

@[simp] theorem Dev.traceFlush_heldWrites (d : Dev) : d.traceFlush.heldWrites = d.heldWrites := by
  obtain ⟨r, m, n, h⟩ := Dev.traceFlush_eq d
  rw [h]

@[simp] theorem Dev.traceFlush_outbox (d : Dev) : d.traceFlush.outbox = d.outbox := by
  obtain ⟨r, m, n, h⟩ := Dev.traceFlush_eq d
  rw [h]

/-! ### Reading back -/

@[simp] theorem Dev.reg_setReg_same (d : Dev) (r : Reg) (v : W64) : (d.setReg r v).reg r = v := by
  simp [Dev.reg, Dev.setReg]

theorem Dev.reg_setReg_other (d : Dev) {r q : Reg} (v : W64) (h : q.addr ≠ r.addr) : (d.setReg r v).reg q = d.reg q := by
  simp [Dev.reg, Dev.setReg, mapGet_mapSet_other _ _ h]

@[simp] theorem Dev.core_setReg (d : Dev) (r : Reg) (v : W64) (c : Nat) : (d.setReg r v).core c = d.core c := rfl
@[simp] theorem Dev.ctx_setReg (d : Dev) (r : Reg) (v : W64) (c x : Nat) : (d.setReg r v).ctx c x = d.ctx c x := rfl
@[simp] theorem Dev.reg_setCore (d : Dev) (c : Nat) (k : Core) (r : Reg) : (d.setCore c k).reg r = d.reg r := rfl
@[simp] theorem Dev.reg_useFree (d : Dev) (n : Nat) (r : Reg) : (d.useFree n).reg r = d.reg r := rfl
@[simp] theorem Dev.reg_emit (d : Dev) (o : Out) (r : Reg) : (d.emit o).reg r = d.reg r := rfl

@[simp] theorem Dev.core_setCore_same (d : Dev) (c : Nat) (k : Core) : (d.setCore c k).core c = k := by
  simp [Dev.core, Dev.setCore]

theorem Dev.core_setCore_other (d : Dev) {c e : Nat} (k : Core) (h : e ≠ c) : (d.setCore c k).core e = d.core e := by
  simp [Dev.core, Dev.setCore, mapGet_mapSet_other _ _ h]

@[simp] theorem Core.ctx_setCtx_same (k : Core) (x : Nat) (v : Ctx) : (k.setCtx x v).ctx x = v := by
  simp [Core.ctx, Core.setCtx]

theorem Core.ctx_setCtx_other (k : Core) {x y : Nat} (v : Ctx) (h : y ≠ x) : (k.setCtx x v).ctx y = k.ctx y := by
  simp [Core.ctx, Core.setCtx, mapGet_mapSet_other _ _ h]

@[simp] theorem Dev.ctx_setCtx_same (d : Dev) (c x : Nat) (v : Ctx) : (d.setCtx c x v).ctx c x = v := by
  simp [Dev.ctx, Dev.setCtx]

theorem Dev.ctx_setCtx_other (d : Dev) (c : Nat) {x y : Nat} (v : Ctx) (h : y ≠ x) : (d.setCtx c x v).ctx c y = d.ctx c y := by
  simp [Dev.ctx, Dev.setCtx, Core.ctx_setCtx_other _ _ h]

theorem Dev.ctx_setCtx_core (d : Dev) {c e : Nat} (x y : Nat) (v : Ctx) (h : e ≠ c) :
    (d.setCtx c x v).ctx e y = d.ctx e y := by
  simp [Dev.ctx, Dev.setCtx, Dev.core_setCore_other _ _ h]

@[simp] theorem Ctx.sreg_setS_same (k : Ctx) (r : Nat) (v : W64) : (k.setS r v).sreg r = v := by
  simp [Ctx.sreg, Ctx.setS]

theorem Ctx.sreg_setS_other (k : Ctx) {r q : Nat} (v : W64) (h : q ≠ r) : (k.setS r v).sreg q = k.sreg q := by
  simp [Ctx.sreg, Ctx.setS, mapGet_mapSet_other _ _ h]

@[simp] theorem Ctx.setS_pc (k : Ctx) (r : Nat) (v : W64) : (k.setS r v).pc = k.pc := rfl
@[simp] theorem Ctx.setS_cstatus (k : Ctx) (r : Nat) (v : W64) : (k.setS r v).cstatus = k.cstatus := rfl
@[simp] theorem Ctx.setS_acc (k : Ctx) (r : Nat) (v : W64) : (k.setS r v).acc = k.acc := rfl
@[simp] theorem Ctx.setState_s (k : Ctx) (v : Nat) : (k.setState v).s = k.s := rfl
@[simp] theorem Ctx.setState_pc (k : Ctx) (v : Nat) : (k.setState v).pc = k.pc := rfl
@[simp] theorem Ctx.setState_acc (k : Ctx) (v : Nat) : (k.setState v).acc = k.acc := rfl

/-- Running a command answers a next state, and the queue is as it was. -/
theorem State.run_next (s : State) (f : Dev → Dev) :
    s.run f = .next { s with dev := s.dev.deliver (f s.dev.fresh).traceFlush } := rfl

/-- What a run can do: one next state, whose queue is as it was. -/
theorem State.run_cases {s t : State} {f : Dev → Dev} (h : s.run f = .next t) :
    t.pending = s.pending ∧ t.dev = s.dev.deliver (f s.dev.fresh).traceFlush := by
  cases h
  exact ⟨rfl, rfl⟩

end Sys2Proof.Machine
end

