-- ==== Sys2Proof/Laws/Turns.lean ====
section
/-! SUPPORT. What the start of an engine command leaves of its core, and whose turn it is. -/

namespace Sys2Proof.Machine

/-! ### The queue last served -/

@[simp] theorem Core.serve_ctxs (k : Core) (q : Nat) (w : W64) : (k.serve q w).ctxs = k.ctxs := rfl
@[simp] theorem Core.serve_fifo (k : Core) (q : Nat) (w : W64) : (k.serve q w).fifo = k.fifo := rfl
@[simp] theorem Core.serve_running (k : Core) (q : Nat) (w : W64) : (k.serve q w).running = k.running := rfl
@[simp] theorem Core.serve_leases (k : Core) (q : Nat) (w : W64) : (k.serve q w).leases = k.leases := rfl
@[simp] theorem Core.serve_lastIssuer (k : Core) (q : Nat) (w : W64) : (k.serve q w).lastIssuer = k.lastIssuer := rfl
@[simp] theorem Core.serve_issuer (k : Core) (q : Nat) (w : W64) : (k.serve q w).issuer = k.issuer := rfl
@[simp] theorem Core.serve_runLen (k : Core) (q : Nat) (w : W64) : (k.serve q w).runLen = k.runLen := rfl
@[simp] theorem Core.serve_ord (k : Core) (q : Nat) (w : W64) : (k.serve q w).ord = k.ord := rfl
@[simp] theorem Core.serve_stopped (k : Core) (q : Nat) (w : W64) : (k.serve q w).stopped = k.stopped := rfl
@[simp] theorem Core.serve_mxe (k : Core) (q : Nat) (w : W64) : (k.serve q w).mxe = k.mxe := rfl
@[simp] theorem Core.serve_vxe (k : Core) (q : Nat) (w : W64) : (k.serve q w).vxe = k.vxe := rfl
@[simp] theorem Core.serve_gse (k : Core) (q : Nat) (w : W64) : (k.serve q w).gse = k.gse := rfl
@[simp] theorem Core.serve_chains (k : Core) (q : Nat) (w : W64) : (k.serve q w).chains = k.chains := rfl
@[simp] theorem Core.serve_saved (k : Core) (q : Nat) (w : W64) : (k.serve q w).saved = k.saved := rfl

/-- A command that needs nothing in turn leaves every turn as it is. -/
theorem Core.serve_of_needs_nothing {k : Core} {q : Nat} {w : W64} (h : startNeeds w = []) : k.serve q w = k := by
  simp [Core.serve, h]

/-! ### The turn -/

/-- A command that needs nothing in turn always has it. -/
theorem Dev.hasTurn_of_needs_nothing {d : Dev} {c q : Nat} {h : Head} (hn : startNeeds h.cmd.word = []) :
    d.hasTurn c q h = true := by
  simp [Dev.hasTurn, hn]

/-- Where no other queue of the engine has a head, a queue has the turn on everything. -/
theorem Dev.firstFor_of_alone {d : Dev} {c q : Nat} (h : ∀ p, p < 4 → q / 4 * 4 + p ≠ q → d.headOf c (q / 4 * 4 + p) = none)
    (r : Nat) : d.firstFor c q r = true := by
  simp only [Dev.firstFor, List.all_eq_true, List.mem_range]
  intro p hp
  by_cases e : q / 4 * 4 + p = q
  · simp [e]
  · simp [h p hp e]

end Sys2Proof.Machine
end

