-- ==== Sys2Proof/WellFormed.lean ====
section
/-! DEFINITION. Well-formed commands: the lengths that a command's byte strings may have. Every other operand is bounded
by its type. -/

namespace Sys2Proof

/-- A link frame's payload is a whole number of 32-byte units, at most 4,096 bytes (10 R265). -/
def Frame.wf (f : Frame) : Bool := f.payload.length % 32 == 0 && decide (f.payload.length ≤ 4096)

/-- A Lular frame's payload is at most PSZ, 8,960 bytes (12 R311). -/
def LulFrame.wf (f : LulFrame) : Bool := decide (f.payload.length ≤ 8960)

/-- Whether the command's byte strings have lengths that the spec allows. -/
def Instr.wf : Instr → Bool
  | .dataFrame _ f | .rdreqFrame _ f | .rdrspFrame _ f | .treeFrame _ f | .chorusVoteFrame _ f
  | .chorusDecisionFrame _ f | .croakFrame _ f | .ctrlFrame _ f | .qmsgFrame _ f | .sequencedFrameDiscard _ f => f.wf
  | .lulData _ f | .lulNak _ f | .lulRack _ f | .lulDec _ f | .lulDack _ f | .lulCroak _ f | .lulBusy _ f
  | .lulJreq _ f | .lulJdata _ f | .lulJend _ f | .lularFrameDrop _ _ f => f.wf
  | .bdpRead _ _ len => decide (1 ≤ len.toNat ∧ len.toNat ≤ 4096)
  | .bdpWrite _ _ data => decide (1 ≤ data.length ∧ data.length ≤ 4096)
  | .ptpRx _ msg => decide (msg.length ≤ 1500)
  | .twinComparePoll slot => slot.length == 256
  | .sensorSample readings => readings.length == 111
  | _ => true

end Sys2Proof
end

