-- ==== Sys2Proof/Tests/Slice0.lean ====
section
/-! SUPPORT. The package's own tests: ill-formed commands that the check refuses; for the statements with hypotheses,
concrete states and operands that meet them, clause by clause; and single steps on small states. -/

set_option Elab.async false

namespace Sys2Proof.Tests

open Sys2Proof Sys2Proof.Machine Sys2Proof.Claim

/-! ### Small states -/

/-- A device with these registers set. -/
def withRegs (rs : List (Reg × Nat)) (d : Dev) : Dev := rs.foldl (fun (e : Dev) x => e.setRegN x.1 x.2) d

/-- A device with every die out of reset and these registers set. -/
def up (rs : List (Reg × Nat)) : Dev := withRegs rs { diesUp := [(0, true), (1, true), (2, true), (3, true)] }

/-- The device `up` with a core 0. -/
def core0 (rs : List (Reg × Nat)) (k : Core) : Dev := { up rs with cores := [(0, k)] }

/-- The device `up` whose core 0 has a context 0. -/
def ctx0 (rs : List (Reg × Nat)) (k : Ctx) : Dev := core0 rs { ctxs := [(0, k)] }

/-- A READY context with these scalar registers. -/
def ready (s : List (Nat × W64)) : Ctx := { cstatus := 2, s := s }

/-- A window that grants R, W and X on all of [0, 2^48). -/
def wholeWindow : List (Nat × W128) := [(0, BitVec.ofNat 128 (0xFFFFFFFFF * 2 ^ 76 + 0xF))]

/-- A page window that grants R and W on [4096, 8192). -/
def pageWindow : List (Nat × W128) := [(7, BitVec.ofNat 128 (1 * 2 ^ 76 + 1 * 2 ^ 12 + 0xB))]

/-- A link frame with a payload. -/
def frame (typ : BitVec 4) (payload : List Byte) : Frame :=
  { typ := typ, vc := 0, lastf := false, lseq := 0, src := 0, dst := 0, xid := 0, off := 0, addr := 0, step := 0, tv := false,
    core := 0, token := 0, ack := 0, payload := payload }

/-- A Lular frame with a payload. -/
def lulFrame (typ : BitVec 4) (payload : List Byte) : LulFrame :=
  { env := {}, rsv := 0, crc := 0, ver := 1, typ := typ, joined := false, reform := false, srcSite := 0, dstSite := 0, dev := 0, nshard := 0, round := 0,
    seq := 0, nframes := 0, step := 0, dprop := 0, txtime := 0, terr := 0, since := 0, payload := payload }

/-! ### Memory outside every region -/

theorem mapGet_default {α : Type} {f : Nat → α} {m : List (Nat × α)} {k : Nat} (h : ∀ e ∈ m, e.1 ≠ k) :
    mapGet f m k = f k := by
  induction m with
  | nil => rfl
  | cons e m ih =>
    obtain ⟨j, v⟩ := e
    have hj : j ≠ k := h (j, v) (by simp)
    simp [mapGet, hj]
    exact ih (fun e he => h e (by simp [he]))

/-- No register's reset value has bit 63 set. -/
theorem reset_value_small (r : Reg) : r.resetValue < 2 ^ 63 := by
  unfold Reg.resetValue
  split <;> first | decide | (split <;> decide)

theorem reset_bit63 (a : Nat) : bit (regDefault a) 63 = false := by
  unfold regDefault
  split
  · rename_i r _
    have h := reset_value_small r
    show (BitVec.ofNat 64 r.resetValue).getLsbD 63 = false
    rw [BitVec.getLsbD_ofNat, Nat.testBit_lt_two_pow h, Bool.and_false]
  · rfl

/-- Where no register of a region is set, no region is valid. -/
theorem region_none {d : Dev} (h : ∀ e ∈ d.regs, e.1 < pregBase ∨ pregBase + 72 * 0x200 ≤ e.1) {u n : Nat} (hu : u < 72)
    (hn : n < 32) : d.region u n = none := by
  have ha : bit (d.reg (.pregCfg u n)) 63 = false := by
    unfold Dev.reg
    rw [mapGet_default, reset_bit63]
    intro e he
    have := h e he
    simp only [pregBase, Reg.addr] at this ⊢
    omega
  simp [Dev.region, ha]

/-- Where no register of a region is set, no byte of stack 0 or of cluster 0 lies in a region. -/
theorem no_region {d : Dev} (h : ∀ e ∈ d.regs, e.1 < pregBase ∨ pregBase + 72 * 0x200 ≤ e.1) (p : Nat)
    (hp : p < stackSize ∨ 0xF000000000 ≤ p ∧ p < 0xF001000000) : d.regionAt p = none := by
  have hu : ∃ u ∈ [0, 64], unitOf p = some u := by
    unfold unitOf
    unfold stackSize at *
    rcases hp with hp | hp
    · exact ⟨64, by simp, by rw [if_pos (by omega)]; congr 1; omega⟩
    · exact ⟨0, by simp, by rw [if_neg (by omega), if_pos (by omega)]; congr 1; omega⟩
  obtain ⟨u, hm, hu⟩ := hu
  have hr : d.regionsOf u = [] := by
    unfold Dev.regionsOf
    rw [List.filterMap_eq_nil_iff]
    intro n hn
    have hn : n < 32 := by simpa using hn
    exact region_none h (by simp at hm; omega) hn
  simp [Dev.regionAt, hu, hr]

set_option maxRecDepth 20000 in
/-- Memory of a device without regions that answers is within reach of a window over everything. -/
theorem reaches_whole {d : Dev} {c x perm a n : Nat} (hw : (d.ctx c x).w = wholeWindow) (hp : perm < 3)
    (ha : a + n ≤ 0x1000000000000) (hm : d.memOk a n = true) (hs : isRegSpace a = false)
    (hr : ∀ e ∈ d.regs, e.1 < pregBase ∨ pregBase + 72 * 0x200 ≤ e.1) (hq : d.prot = [])
    (hb : a + n ≤ stackSize ∨ 0xF000000000 ≤ a ∧ a + n ≤ 0xF001000000) : Reaches d c x perm a n := by
  refine ⟨⟨0, by decide, ?_⟩, hm, hs, fun p h1 h2 => no_region hr p (by omega), hq⟩
  have h0 : (d.ctx c x).window 0 = BitVec.ofNat 128 (0xFFFFFFFFF * 2 ^ 76 + 0xF) := by simp [Ctx.window, hw, wholeWindow, mapGet]
  rw [h0]
  have lo : bits (BitVec.ofNat 128 (0xFFFFFFFFF * 2 ^ 76 + 0xF)) 47 12 = 0 := by decide +kernel
  have hi : bits (BitVec.ofNat 128 (0xFFFFFFFFF * 2 ^ 76 + 0xF)) 111 76 = 0xFFFFFFFFF := by decide +kernel
  have grants : ∀ i < 3, bit (BitVec.ofNat 128 (0xFFFFFFFFF * 2 ^ 76 + 0xF)) i = true := by decide +kernel
  rw [lo, hi]
  have g := grants perm hp
  refine ⟨by decide +kernel, g, ?_, ?_, ?_⟩ <;> clear lo hi grants h0 g hm hr <;> omega

/-- The MGC reaches every register whose die answers. -/
theorem mgc_reaches {d : Dev} {r : Reg} (h : d.regReach r.addr = true) : PathReaches d .mgc r := ⟨rfl, rfl, h⟩

/-- Memory without regions is plain. -/
theorem plain_memory {d : Dev} {a n : Nat} (hm : d.memOk a n = true) (hs : isRegSpace a = false)
    (hr : ∀ e ∈ d.regs, e.1 < pregBase ∨ pregBase + 72 * 0x200 ≤ e.1) (hq : d.prot = [])
    (hb : a + n ≤ stackSize ∨ 0xF000000000 ≤ a ∧ a + n ≤ 0xF001000000) : PlainMemory d a n :=
  ⟨hm, hs, fun p h1 h2 => no_region hr p (by omega), hq⟩

/-! ### Ill-formed commands -/

/-- A link frame's payload is whole units of 32 bytes, up to 4,096 (10 R265). -/
theorem test_frame_payload_unit_refused : (Instr.dataFrame 0 (frame 0 (List.replicate 33 0))).wf = false := by decide +kernel
theorem test_frame_payload_length_refused : (Instr.treeFrame 0 (frame 3 (List.replicate 4128 0))).wf = false := by
  decide +kernel
theorem test_frame_accepted : (Instr.dataFrame 0 (frame 0 (List.replicate 32 0))).wf = true := by decide +kernel
/-- A Lular frame's payload is at most PSZ (12 R311). -/
theorem test_lular_payload_refused : (Instr.lulData 0 (lulFrame 1 (List.replicate 8961 0))).wf = false := by decide +kernel
theorem test_lular_payload_accepted : (Instr.lulData 0 (lulFrame 1 (List.replicate 8960 0))).wf = true := by decide +kernel
/-- A bulk data request moves 1 to 4,096 bytes (08 R204). -/
theorem test_bdp_read_refused : (Instr.bdpRead 0 0 0).wf = false ∧ (Instr.bdpRead 0 0 (BitVec.ofNat 13 4097)).wf = false := by decide +kernel
theorem test_bdp_write_refused : (Instr.bdpWrite 0 0 []).wf = false := by decide +kernel
/-- A PTP message fits an Ethernet payload. -/
theorem test_ptp_refused : (Instr.ptpRx 0 (List.replicate 1501 0)).wf = false := by decide +kernel
/-- The twin's slot image is 256 bytes, and a sample has a reading for each of the 111 sensors. -/
theorem test_twin_slot_refused : (Instr.twinComparePoll (List.replicate 255 0)).wf = false := by decide +kernel
theorem test_sample_refused : (Instr.sensorSample (List.replicate 110 0)).wf = false := by decide +kernel

end Sys2Proof.Tests
namespace Sys2Proof.Tests
open Sys2Proof Sys2Proof.Machine Sys2Proof.Claim

/-! ### Hypotheses: cores, contexts and scalar operations -/

theorem meets_ready : Ready (ctx0 [] (ready [])) 0 0 := by unfold Ready; decide +kernel
/-- The last core, and the last context, too. -/
theorem meets_ready_last : Ready { up [] with cores := [(511, { ctxs := [(79, ready [])] })] } 511 79 := by
  unfold Ready; decide +kernel
theorem meets_scalar_corners :
    let d := ctx0 [] (ready [(1, BitVec.ofInt 64 (-2 ^ 63)), (2, BitVec.ofInt 64 (-1))])
    (d.ctx 0 0).sreg 0 = 0 ∧ (d.ctx 0 0).sreg 1 = BitVec.ofInt 64 (-2 ^ 63) ∧ (d.ctx 0 0).sreg 2 = BitVec.ofInt 64 (-1) := by decide +kernel
theorem meets_immediates : (63#32).toNat < 64 ∧ 64 ≤ (64#32).toNat ∧ (65535#48).toNat < 65536 ∧ 65536 ≤ (65536#48).toNat := by
  decide +kernel

/-- B5 names queue 52 of core 0, an enabled ring of two entries at DPA 0xF000000000: with room, full, and disabled. -/
def trapRing (qptr qcfg : Nat) : Dev :=
  ctx0 [(.qcfg 0 52, qcfg), (.qbase 0 52, 0xF000000000), (.qptr 0 52, qptr)] { ready [] with b := [(5, 0x40 + 52)] }

theorem meets_exception_entry :
    let d := trapRing 0 (2 ^ 31 + 1)
    let q := bits ((d.ctx 0 0).binding 5) 5 0
    bit ((d.ctx 0 0).binding 5) 6 = true ∧ 52 ≤ q ∧ q ≤ 59 ∧ d.memWf = true ∧ d.ringFull 0 q = false ∧ d.queueOn 0 q = true ∧
    d.rbits (.qcfg 0 q) 3 0 ≤ 12 ∧ d.memOk (d.ringEntry 0 q (d.ringTail 0 q)) 64 = true ∧
    d.regionAt (d.ringEntry 0 q (d.ringTail 0 q)) = none ∧ d.prot = [] := by decide +kernel
theorem meets_exception_entry_full : (trapRing (2 ^ 29) (2 ^ 31 + 1)).ringFull 0 52 = true := by decide +kernel
theorem meets_exception_entry_disabled : (trapRing 0 1).queueOn 0 52 = false := by decide +kernel
theorem meets_exception_entry_unnamed : bit ((ctx0 [] (ready [])).ctx 0 0 |>.binding 5) 6 = false := by decide +kernel

/-- WAIT at the last value that holds and at the first that does not. -/
theorem meets_wait :
    let d := fun (v : W64) => ctx0 [(.token 0 255, 5)] (ready [(3, v)])
    let v := fun (n : W64) => (((d n).ctx 0 0).sreg 3).toNat % 2 ^ 32
    (((d 5).reg (.token 0 255)).toNat + (2 ^ 32 - v 5)) % 2 ^ 32 < 2 ^ 31 ∧
    ¬ (((d 6).reg (.token 0 255)).toNat + (2 ^ 32 - v 6)) % 2 ^ 32 < 2 ^ 31 := by decide +kernel

/-- A lease that is free, one that another context holds, one that the context holds, and a unit without a lease. -/
theorem meets_leases :
    let d := core0 [] { ctxs := [(0, ready [])], leases := [(1, { owner := some 5 }), (3, { owner := some 0 })] }
    (d.ctx 0 0).a1c = false ∧ ((d.core 0).lease 0).owner = none ∧ ((d.core 0).lease 0).waiters = [] ∧
    ((d.core 0).lease 1).owner = some 5 ∧ (5 : Nat) ≠ 0 ∧ ((d.core 0).lease 3).owner = some 0 ∧
    ¬ ((2#3) = 0 ∨ (2#3) = 1 ∨ (2#3) = 3) ∧ ¬ ((7#3) = 0 ∨ (7#3) = 1 ∨ (7#3) = 3) := by decide +kernel

/-- An A1C context, with no work and with a queued command; a native one; and one that waits on a token. -/
theorem meets_barrier :
    let k : Ctx := { cstatus := 0x102 }
    let idle := ctx0 [] k
    let busy := core0 [] { ctxs := [(0, k)], fifo := [(0, [{ ctx := 0, pc := 0, word := 0 }])] }
    (idle.ctx 0 0).a1c = true ∧ (idle.core 0).hasWork 0 = false ∧ (busy.ctx 0 0).a1c = true ∧ (busy.core 0).hasWork 0 = true ∧
    (busy.ctx 0 0).state = 2 ∧ ((ctx0 [] (ready [])).ctx 0 0).a1c = false := by decide +kernel
theorem meets_gate :
    let d := ctx0 [(.token 0 7, 9)] { cstatus := 3, gated := [.token 7 9] }
    d.coreRuns 0 = true ∧ (d.ctx 0 0).state = 3 ∧ (d.ctx 0 0).gated = [.token 7 9] ∧
    ((d.reg (.token 0 7)).toNat + (2 ^ 32 - 9)) % 2 ^ 32 < 2 ^ 31 := by decide +kernel

/-! ### Hypotheses: slot B -/

/-- A window of one page: its first and its last eight bytes are in it, bytes across its end are not. -/
def paged : Ctx := { ready [(1, 4096), (2, 8184), (3, 8185), (4, 8192)] with w := pageWindow }

theorem meets_in_window : InWindow paged 0 4096 8 ∧ InWindow paged 1 8184 8 := by
  constructor <;> exact ⟨7, by decide⟩
theorem meets_outside_window : ¬ InWindow (ready [(1, 8)]) 0 8 8 := by
  rintro ⟨i, _, h, _⟩; simp [ready, Ctx.window, mapGet, bit] at h
theorem meets_load_addresses :
    loadStoreAddress paged 1 0 = 4096 ∧ 4096 % 8 = 0 ∧ loadStoreAddress paged 3 0 % 8 ≠ 0 ∧ loadStoreAddress paged 4 (-8) = 8184 ∧
    isRegSpace 4096 = false := by decide +kernel

/-- A load, and a store, in flight: at memory that answers, with right and with wrong parity, and at memory that does not. -/
def inFlight (acc : List SlotB) (bad : List (Nat × Bool)) : Dev := { ctx0 [] { ready [] with acc := acc } with badPar := bad }

theorem meets_load_completes :
    let d := inFlight [.load 31 0xF000000000 8 true 64] []
    let e := inFlight [.load 31 0xF000000000 8 true 64] [(0xF000000007, true)]
    (d.ctx 0 0).acc = [.load 31 0xF000000000 8 true 64] ∧ isRegSpace 0xF000000000 = false ∧ (d.ctx 0 0).state = 2 ∧
    d.memOk 0xF000000000 8 = true ∧ d.badAt 0xF000000000 8 = false ∧ e.badAt 0xF000000000 8 = true ∧
    d.memOk 0xE000000000 8 = false ∧ isRegSpace 0xE000000000 = false := by decide +kernel
theorem meets_no_bump : NoBump (ready []) := by intro n h; cases h
theorem meets_store_completes :
    let d := inFlight [.store 0xF000000008 4 7 0] []
    (d.ctx 0 0).acc = [.store 0xF000000008 4 7 0] ∧ 0xF000000008 % 4 = 0 ∧ d.memWf = true ∧ d.prot = [] ∧
    d.regionAt 0xF000000008 = none ∧ (d.ctx 0 0).ceQueue = none := by decide +kernel

/-- Unit 0 has a region of one page a frame at 0xF000010000; its live view begins there. -/
def regioned (acc : List SlotB) : Dev :=
  { ctx0 [(.pregCfg 0 0, 2 ^ 63 + 0xF000010000 + 1)] { ready [] with acc := acc } with badPar := [] }

theorem meets_region_views :
    let d := regioned [.store 0xF000010040 8 7 0]
    d.memOk 0xF000010040 8 = true ∧ d.prot = [] ∧ (d.regionAt 0xF000010040).map (fun r => (r.view 0xF000010040).2) = some 64 ∧
    (d.regionAt 0xF000010038).map (fun r => (r.view 0xF000010038).2) = some 56 ∧
    (d.regionAt 0xF00002FFF8).map (fun r => (r.view 0xF00002FFF8).2) = some 0xFFF8 ∧ d.regionAt 0xF000030000 = none := by decide +kernel

theorem meets_token_bumps :
    let d := inFlight [] []
    let e := inFlight [.store 0xF000000000 8 0 0, .bump 3] []
    d.isAtok 0 3 = false ∧ hasStore (d.ctx 0 0).acc = false ∧ hasStore (e.ctx 0 0).acc = true ∧ e.isAtok 0 255 = false ∧
    e.memOk 0xF000000000 8 = true ∧ e.regionAt 0xF000000000 = none ∧ e.prot = [] := by decide +kernel

end Sys2Proof.Tests
namespace Sys2Proof.Tests
open Sys2Proof Sys2Proof.Machine Sys2Proof.Claim

/-! ### Hypotheses: engine commands -/

/-- Command `op` of engine `e` with its low bits and captured scalars. -/
def cmdOf (e op low : Nat) (s : List (Nat × W64)) : Cmd :=
  { ctx := 0, pc := 64, word := BitVec.ofNat 64 ((e + 1) * 2 ^ 61 + op * 2 ^ 56 + low), s := s }

/-- Core 0 with that command at the head of queue 0 of its engine; its context reaches everything. -/
def queued (e op low : Nat) (s : List (Nat × W64)) : Dev :=
  core0 [] { ctxs := [(0, { ready [] with w := wholeWindow })], fifo := [(4 * e, [cmdOf e op low s])] }

/-- A queue 0 has the turn on a resource that has served none. -/
theorem has_turn {d : Dev} {c e r : Nat} (h : (d.core c).lastServed = []) : HasTurn d c e 0 r := by
  intro p g _ _ _
  simp [h, mapGet]
/-- The conditions of a start but for the running commands. -/
def FreeButRuns (d : Dev) (c e q : Nat) (k : Cmd) : Prop :=
  let n := bits k.word 45 38
  d.coreRuns c = true ∧ d.replaying c = none ∧ d.engHold c e = false ∧ d.inEngineReset c e = false ∧
  ((d.core c).queue (4 * e + q)).head? = some k ∧ (d.core c).run (4 * e + q) = none ∧ (d.ctx c k.ctx).held = false ∧
  (d.core c).unfinished k.ctx = false ∧
  (bit k.word 46 = true →
    ((d.reg (.token c (if k.a1c then 192 + n % 64 else n))).toNat % 2 ^ 32 + 2 ^ 32 -
      (k.sreg (bits k.word 37 33)).toNat % 2 ^ 32) % 2 ^ 32 < 2 ^ 31)
theorem free_to_start {d : Dev} {c e q : Nat} {k : Cmd} (hr : (d.core c).allRuns = []) (h : FreeButRuns d c e q k) :
    FreeToStart d c e q k := by
  obtain ⟨h1, h2, h3, h4, h5, h6, h7, h8, h9⟩ := h
  exact ⟨h1, h2, h3, h4, h5, Or.inl h6, h7, h8, h9, by simp [hr]⟩
/-- The first command that was issued goes behind no other. -/
theorem not_behind {d : Dev} {c e q : Nat} {k : Cmd} (h : k.ord = 0) : ¬ GoesBehind d c e q k := by
  rintro ⟨f, p, g, _, _, _, _, ho, _⟩; omega
/-- A command of queue 0 starts where nothing of its core has run. -/
theorem starts {d : Dev} {c e : Nat} {k : Cmd} (hr : (d.core c).allRuns = []) (hl : (d.core c).lastServed = [])
    (h : FreeButRuns d c e 0 k)
    (hg : k.ord = 0 ∧ (∀ g ∈ (d.core c).queue (4 * e + 0), g.bad = false) ∧
      (e = 3 → (d.core c).plan (4 * e + 0) = none) ∧ (e = 4 → (d.core c).chain (4 * e + 0) = none)) :
    Starts d c e 0 k := by
  refine ⟨⟨free_to_start hr h, ?_⟩, not_behind hg.1, hg.2⟩
  cases hn : needsOf k with
  | nil => exact Or.inl rfl
  | cons r rs => exact Or.inr ⟨r, by simp, has_turn hl⟩

theorem meets_engine_commands_start :
    ∀ row ∈ engineRows, IsCmd (cmdOf row.2.1 row.2.2 0 []) row.2.1 row.2.2 ∧
      Starts (queued row.2.1 row.2.2 0 []) 0 row.2.1 0 (cmdOf row.2.1 row.2.2 0 []) := by
  intro row h
  refine ⟨?_, starts ?_ ?_ ?_ ?_⟩
  · exact (by unfold IsCmd; decide +kernel : ∀ row ∈ engineRows, IsCmd (cmdOf row.2.1 row.2.2 0 []) row.2.1 row.2.2) row h
  · revert row; decide +kernel
  · revert row; decide +kernel
  · exact (by unfold FreeButRuns; decide +kernel : ∀ row ∈ engineRows,
      FreeButRuns (queued row.2.1 row.2.2 0 []) 0 row.2.1 0 (cmdOf row.2.1 row.2.2 0 [])) row h
  · revert row; decide +kernel
/-- Queues 0 and 1 of the MXE hold an MCLR each; the array has served queue 0, so it is the turn of queue 1. -/
def twoQueued : Dev :=
  core0 [] { ctxs := [(0, { ready [] with w := wholeWindow })], lastServed := [(1, 0)],
             fifo := [(0, [cmdOf 0 4 0 []]), (1, [cmdOf 0 4 1 []])] }
theorem free_queue0 : FreeToStart twoQueued 0 0 0 (cmdOf 0 4 0 []) :=
  free_to_start (by decide +kernel) (by unfold FreeButRuns; decide +kernel)
theorem free_queue1 : FreeToStart twoQueued 0 0 1 (cmdOf 0 4 1 []) :=
  free_to_start (by decide +kernel) (by unfold FreeButRuns; decide +kernel)
theorem meets_no_turn :
    FreeToStart twoQueued 0 0 0 (cmdOf 0 4 0 []) ∧ IsCmd (cmdOf 0 4 0 []) 0 4 ∧ needsOf (cmdOf 0 4 0 []) = [1] ∧
    ∀ r ∈ needsOf (cmdOf 0 4 0 []), ¬ HasTurn twoQueued 0 0 0 r := by
  refine ⟨free_queue0, by unfold IsCmd; decide +kernel, by decide +kernel, ?_⟩
  have hn : needsOf (cmdOf 0 4 0 []) = [1] := by decide +kernel
  rw [hn]
  intro r hr h
  rw [List.mem_singleton] at hr
  subst hr
  exact absurd (h 1 (cmdOf 0 4 1 []) (by decide) free_queue1 (by decide +kernel)) (by decide +kernel)
/-- MMUL in queue 0 uses WB0, which MLOAD in queue 1, issued earlier, loads; it may start, and goes behind. -/
def behindLoad : Dev :=
  core0 [] { ctxs := [(0, { ready [] with w := wholeWindow })],
             fifo := [(0, [{ cmdOf 0 2 0 [] with ord := 1 }]), (1, [cmdOf 0 0 0 []])] }
theorem meets_behind :
    FreeToStart behindLoad 0 0 0 { cmdOf 0 2 0 [] with ord := 1 } ∧ IsCmd { cmdOf 0 2 0 [] with ord := 1 } 0 2 ∧
    GoesBehind behindLoad 0 0 0 { cmdOf 0 2 0 [] with ord := 1 } := by
  refine ⟨free_to_start (by decide +kernel) (by unfold FreeButRuns; decide +kernel), by unfold IsCmd; decide +kernel, 0, 1,
    cmdOf 0 0 0 [], by decide, by decide, by decide, by decide +kernel, by decide,
    free_to_start (by decide +kernel) (by unfold FreeButRuns; decide +kernel), Or.inr ⟨0, by decide +kernel, ?_⟩⟩
  intro p g hp hg hn
  have hq : ∀ p < 4, p ≠ 1 → ∀ g, ((behindLoad.core 0).queue (4 * 0 + p)).head? = some g → 0 ∉ needsOf g := by
    have h0 : ((behindLoad.core 0).queue (4 * 0 + 0)).head? = some { cmdOf 0 2 0 [] with ord := 1 } := by decide +kernel
    have h2 : ∀ p ∈ [2, 3], ((behindLoad.core 0).queue (4 * 0 + p)).head? = none := by decide +kernel
    have hm : 0 ∉ needsOf { cmdOf 0 2 0 [] with ord := 1 } := by decide +kernel
    intro p hp h1 g hg
    have : p = 0 ∨ p = 2 ∨ p = 3 := by omega
    rcases this with rfl | rfl | rfl
    · rw [h0] at hg; cases hg; exact hm
    · rw [h2 2 (by simp)] at hg; cases hg
    · rw [h2 3 (by simp)] at hg; cases hg
  by_cases h1 : p = 1
  · subst h1; exact Nat.le_refl _
  · exact absurd hn (hq p hp h1 g hg.2.2.2.2.1)
/-- MCLR in queue 0 waits for its turn, and runs in queue 1. -/
theorem test_turns :
    (match exec (.mclr 0 0) { dev := twoQueued } with | .next t => decide (t.dev.cores = twoQueued.cores) | _ => false) = true ∧
    (match exec (.mclr 0 1) { dev := twoQueued } with
     | .next t => decide ((t.dev.core 0).lastServed = [(1, 1)]) && ((t.dev.core 0).run 1).isSome
     | _ => false) = true := by decide +kernel
/-- With a start condition that holds: token 5 has reached the threshold in S6. -/
theorem meets_start_condition :
    Starts { queued 0 4 (2 ^ 46 + 5 * 2 ^ 38 + 6 * 2 ^ 33) [(6, 3)] with regs := [((Reg.token 0 5).addr, 3)] } 0 0 0
      (cmdOf 0 4 (2 ^ 46 + 5 * 2 ^ 38 + 6 * 2 ^ 33) [(6, 3)]) :=
  starts (by decide +kernel) rfl (by unfold FreeButRuns; decide +kernel) (by decide +kernel)

/-- Behind a run that goes on, one that has ended. -/
theorem meets_engine_completes_second :
    let r : Run := { cmd := cmdOf 1 5 0 [], fin := .ok }
    let g : Run := { cmd := cmdOf 1 5 0 [], fin := .going }
    ((core0 [] { running := [(4, some g)], later := [(4, [r])] }).core 0).runs 4 = [g] ++ r :: [] ∧ g.fin = .going := by
  decide +kernel
/-- A run that has ended: with a token to bump, without one, in an error, and one that goes on. -/
theorem meets_engine_completes :
    let r : Run := { cmd := cmdOf 1 5 (2 ^ 47 + 9 * 2 ^ 48) [], fin := .ok }
    let d := core0 [] { ctxs := [(0, ready [])], running := [(4, some r)] }
    (d.core 0).runs 4 = [] ++ r :: [] ∧ (∀ b ∈ ([] : List Run), b.fin = .going) ∧ d.waitingWrites = [] ∧ d.replaying 0 = none ∧ r.cmd.a1c = false ∧ r.fin = .ok ∧
    bit r.cmd.word 47 = true ∧ d.isAtok 0 (bits r.cmd.word 55 48) = false ∧ bit (cmdOf 0 5 0 []).word 47 = false ∧
    (0 : Nat) < 80 ∧ (d.ctx 0 0).state ≠ 0 ∧ (d.ctx 0 0).state ≠ 5 ∧ (d.ctx 0 0).a1c = false ∧ (255 : Nat) < 256 := by decide +kernel

theorem meets_matrix_commands :
    let k := cmdOf 0 2 (2 ^ 11 * 3) [(3, 64)]
    (mapGet (fun _ => 0) (cmdOf 0 2 0 []).s (bits (cmdOf 0 2 0 []).word 15 11)).toNat % 128 = 0 ∧
    (mapGet (fun _ => 0) k.s (bits k.word 15 11)).toNat % 128 = 64 ∧ bits k.word 29 27 < 5 ∧ bits k.word 26 25 < 2 ∧
    (((queued 0 2 0 []).core 0).weightBuf 0).valid = false := by decide +kernel
/-- MTURN of FR2 blocks, from DPA 0 and 0x8000 to 0x10000 and 0x18000: S0 to S3. -/
def turn : Cmd := cmdOf 0 5 (1 * 2 ^ 15) [(0, 0), (1, 0x8000), (2, 0x10000), (3, 0x18000)]
def turnDev : Dev := queued 0 5 (1 * 2 ^ 15) [(0, 0), (1, 0x8000), (2, 0x10000), (3, 0x18000)]
theorem meets_matrix_turn :
    let nm := 4096 * fmtBits 0 / 8
    let ne := 4096 / fmtN 0
    bits turn.word 32 30 = 0 ∧ bits turn.word 29 27 = 0 ∧ bits turn.word 26 25 < 2 ∧ turnDev.memWf = true ∧
    captured turn 0 = 0 ∧ captured turn 1 = 0x8000 ∧ captured turn 2 = 0x10000 ∧ captured turn 3 = 0x18000 ∧
    Apart 0x10000 nm 0x18000 ne ∧ turnDev.badAt 0 nm = false ∧ turnDev.badAt 0x8000 ne = false := by
  unfold Apart; decide +kernel
theorem meets_matrix_turn_reach :
    let nm := 4096 * fmtBits 0 / 8
    let ne := 4096 / fmtN 0
    Reaches turnDev 0 0 0 0 nm ∧ Reaches turnDev 0 0 0 0x8000 ne ∧ Reaches turnDev 0 0 1 0x10000 nm ∧
    Reaches turnDev 0 0 1 0x18000 ne := by
  refine ⟨?_, ?_, ?_, ?_⟩ <;>
    exact reaches_whole rfl (by decide) (by decide +kernel) (by decide +kernel) (by decide +kernel) (by decide +kernel) rfl (by decide +kernel)

theorem meets_vector_commands :
    let d := queued 1 6 0 []
    (d.core 0).predBad 0 = false ∧ (d.core 0).predBad 7 = false ∧ bits (cmdOf 1 12 (3 * 2 ^ 27) []).word 32 27 < 4 ∧
    32 ≤ bits (cmdOf 1 12 (32 * 2 ^ 27) []).word 32 27 := by decide +kernel
/-- VLDI from CLM, at the lowest DPA that is not a stack's, and from a stack. -/
theorem meets_vldi :
    let k := cmdOf 1 1 (2 * 2 ^ 23) [(2, 0xF000000000)]
    let d := queued 1 1 (2 * 2 ^ 23) [(2, 0xF000000000)]
    8 * stackSize ≤ (mapGet (fun _ => (0 : W64)) k.s (bits k.word 27 23)).toNat % 2 ^ 48 ∧ d.badAt 0xF000000000 256 = false ∧
    (mapGet (fun _ => (0 : W64)) (cmdOf 1 1 0 []).s (bits (cmdOf 1 1 0 []).word 27 23)).toNat % 2 ^ 48 < 8 * stackSize := by
  decide +kernel
theorem meets_vldi_reach : Reaches (queued 1 1 (2 * 2 ^ 23) [(2, 0xF000000000)]) 0 0 0 0xF000000000 256 :=
  reaches_whole rfl (by decide) (by decide +kernel) (by decide +kernel) (by decide +kernel) (by decide +kernel) rfl (by decide +kernel)
/-- VCMP of V0 with V1, all 64 lanes. -/
theorem meets_vcmp :
    let low := 32 * 2 ^ 22 + 33 * 2 ^ 16 + 4 * 2 ^ 5
    let k := cmdOf 1 5 low [(4, 0x140)]
    let d := queued 1 5 low [(4, 0x140)]
    let sh := mapGet (fun _ => (0 : W64)) k.s (bits k.word 9 5)
    32 ≤ bits k.word 27 22 ∧ 32 ≤ bits k.word 21 16 ∧ bits k.word 15 10 = 0 ∧ shapeBad sh = false ∧
    (∀ i < bits sh 6 0, (d.core 0).laneBad 256 i = false ∧ (d.core 0).laneBad 257 i = false ∧
      ((d.core 0).vrow 256).exp i = ((d.core 0).vrow 257).exp i ∧ ((d.core 0).vrow 256).mant i ≠ -2 ^ 31 ∧
      ((d.core 0).vrow 257).mant i ≠ -2 ^ 31) ∧
    (∀ i < 64, (d.core 0).laneBad 256 i = false ∧ (d.core 0).laneBad 257 i = false) := by decide +kernel

/-- RSUM of V0, whose lane 0 holds 5, over all 64 lanes of one row. -/
theorem meets_rsum :
    let low := 32 * 2 ^ 26 + 4 * 2 ^ 4
    let k := cmdOf 2 0 low [(4, 0x140)]
    let row : VRow := { m := [(0, 5)], x := [] }
    let d := core0 [] { fifo := [(8, [k])], vxe := { rows := [(256, row)] } }
    let sh := mapGet (fun _ => (0 : W64)) k.s (bits k.word 8 4)
    bits k.word 32 32 = 0 ∧ 32 ≤ bits k.word 31 26 ∧ bits k.word 22 22 = 0 ∧ bits k.word 21 21 = 0 ∧ bits k.word 15 15 = 0 ∧
    bits k.word 14 9 = 0 ∧ shapeBad sh = false ∧ bits sh 14 8 = 1 ∧ bits sh 21 16 = 0 ∧
    (∀ i < 64, (d.core 0).laneBad 256 i = false) ∧
    (∀ i < bits sh 6 0, ((d.core 0).vrow 256).exp i = ((d.core 0).vrow 256).exp 0 ∧
      -2 ^ 31 < ((d.core 0).vrow 256).mant i ∧ ((d.core 0).vrow 256).mant i < 2 ^ 31) ∧
    0 < bits sh 6 0 ∧ ((d.core 0).vrow 256).mant 0 ≠ 0 := by decide +kernel
theorem meets_rst :
    let k := cmdOf 2 7 (2 * 2 ^ 25) [(2, 0xF000000000)]
    captured k (bits k.word 29 25) = 0xF000000000 ∧ 8 * stackSize ≤ 0xF000000000 ∧
    ((queued 2 7 (2 * 2 ^ 25) [(2, 0xF000000000)]).core 0).raBad 0 = false ∧
    (queued 2 7 (2 * 2 ^ 25) [(2, 0xF000000000)]).memWf = true := by decide +kernel

end Sys2Proof.Tests
namespace Sys2Proof.Tests
open Sys2Proof Sys2Proof.Machine Sys2Proof.Claim

/-! ### Hypotheses: gather-scatter, moves and codecs -/

/-- The device with bytes at an address of memory. -/
def storing (a : Nat) (bs : List Byte) (d : Dev) : Dev := { d with mem := mapWrite (fun _ => 0) d.mem a bs }

/-- A table of one raw row of 32 bytes at CLM. -/
def table : List Byte := toBytes 8 0xF000001000 ++ toBytes 8 0 ++ toBytes 4 1 ++ List.replicate 12 0

/-- GTAB with its descriptor at the start of CLM, and with the null descriptor there. -/
def gtab : Dev := queued 3 0 (1 * 2 ^ 25) [(1, 0xF000000000)]
theorem meets_gtab :
    let d := storing 0xF000000000 table gtab
    captured (cmdOf 3 0 (1 * 2 ^ 25) [(1, 0xF000000000)]) 1 = 0xF000000000 ∧ d.badAt 0xF000000000 32 = false ∧
    d.bytesAt 0xF000000000 32 = table ∧ GoodTable table ∧ ¬ GoodTable (gtab.bytesAt 0xF000000000 32) := by
  unfold GoodTable; decide +kernel
theorem meets_gtab_reach : Reaches (storing 0xF000000000 table gtab) 0 0 0 0xF000000000 32 :=
  reaches_whole rfl (by decide) (by decide +kernel) (by decide +kernel) (by decide +kernel) (by decide +kernel) rfl
    (by decide +kernel)
/-- GSORT of one key: S0 to S4 hold keys, n, 0, scratch and the output. -/
def sortCmd : Cmd := cmdOf 3 7 (2 * 2 ^ 22) [(0, 0xF000000000), (1, 1), (3, 0xF000000100), (4, 0xF000000200)]
def sortDev : Dev := queued 3 7 (2 * 2 ^ 22) [(0, 0xF000000000), (1, 1), (3, 0xF000000100), (4, 0xF000000200)]
theorem meets_gsort :
    let s := fun (i : Nat) => mapGet (fun _ => (0 : W64)) sortCmd.s i
    bits sortCmd.word 30 26 = 0 ∧ (s 1).toNat = 1 ∧ s 2 = 0 ∧ captured sortCmd 0 = 0xF000000000 ∧
    captured sortCmd 3 = 0xF000000100 ∧ captured sortCmd (2 * bits sortCmd.word 25 22) = 0xF000000200 ∧
    8 * stackSize ≤ 0xF000000000 ∧ Apart 0xF000000100 8 0xF000000200 4 ∧ sortDev.badAt 0xF000000000 4 = false ∧
    sortDev.memWf = true := by unfold Apart; decide +kernel
theorem meets_gsort_reach :
    Reaches sortDev 0 0 0 0xF000000000 4 ∧ Reaches sortDev 0 0 0 0xF000000100 8 ∧ Reaches sortDev 0 0 1 0xF000000100 8 ∧
    Reaches sortDev 0 0 1 0xF000000200 4 := by
  refine ⟨?_, ?_, ?_, ?_⟩ <;>
    exact reaches_whole rfl (by decide) (by decide +kernel) (by decide +kernel) (by decide +kernel) (by decide +kernel) rfl
      (by decide +kernel)

/-- A GGATH of row 0 of that table whose read has been sent, answered and unanswered. -/
def gathering (answer : Option (Nat × List Byte)) : Dev :=
  core0 [] { ctxs := [(0, { ready [] with w := wholeWindow })],
             running := [(12, some { cmd := cmdOf 3 1 (0 * 2 ^ 21) [(0, 0xF000000000)], fin := .going })],
             gse := { tabs := [(0, table)], reads := [(12, [{ tag := 0, pos := 0, answer := answer }])],
                      plans := [(12, some { words := [(0, none)] })] } }
theorem meets_remote_rows :
    let d := gathering (some (0, List.replicate 32 1))
    let e := gathering none
    let k := cmdOf 3 1 0 [(0, 0xF000000000)]
    (d.core 0).run 12 = some { cmd := k, fin := .going } ∧ bits k.word 63 61 = 4 ∧ bits k.word 60 56 = 1 ∧ GoodTable table ∧
    ofBytes ((table.drop 21).take 1) / 8 % 2 = 0 ∧ 0 < ofBytes ((table.drop 16).take 4) ∧
    (d.core 0).plan 12 = some { words := [(0, none)] } ∧ ((d.core 0).reads 12).length = 1 ∧ (d.core 0).gse.rows = [] ∧
    captured k 0 = 0xF000000000 ∧ (ofBytes ((table.drop 20).take 1) % 32 + 1) * 32 = 32 ∧ d.memWf = true ∧
    ((e.core 0).reads 12).map (fun x => x.answer) = [none] := by unfold GoodTable; decide +kernel
theorem meets_remote_rows_reach : Reaches (gathering none) 0 0 1 0xF000000000 32 :=
  reaches_whole rfl (by decide) (by decide +kernel) (by decide +kernel) (by decide +kernel) (by decide +kernel) rfl
    (by decide +kernel)

/-- A descriptor: OP and the rest of CTL, SRC0, SRC1, DST0, DST1, N0, N1, N2, N3. -/
def descOf (ctl s0 s1 t0 t1 n0 n1 n2 n3 : Nat) : List Byte :=
  toBytes 8 ctl ++ toBytes 8 s0 ++ toBytes 8 s1 ++ toBytes 8 t0 ++ toBytes 8 t1 ++ toBytes 4 n0 ++ toBytes 4 n1 ++
  toBytes 2 n2 ++ toBytes 2 n3 ++ List.replicate 12 0

/-- A chain of queue 0 of the MVE at descriptor address 0, with these bytes, or none yet. -/
def chaining (bs : List Byte) (unit : Option Nat) (admitted : List Admitted) : Dev :=
  let k := cmdOf 4 0 0 []
  core0 [] { ctxs := [(0, { ready [] with w := wholeWindow })], running := [(16, some { cmd := k, fin := .going })],
             chains := [(16, some { cmd := k, desc := 0, bytes := bs, unit := unit, admitted := admitted })] }

/-- COPY of one row of 8 bytes from 0x1000 to 0x2000, the last of its chain; FILL; and a descriptor of a reserved OP. -/
def copyDesc : List Byte := descOf (2 ^ 63) 0x1000 0 0x2000 0 8 1 1 1
def fillDesc : List Byte := descOf (2 ^ 63 + 2) 7 0 0x2000 0 8 1 1 1
def badDesc : List Byte := descOf (2 ^ 63 + 15) 0 0 0 0 8 1 1 1

theorem meets_chains_start :
    let d := storing 0 copyDesc (chaining [] none [])
    let e := storing 0 badDesc (chaining [] none [])
    Chained d 0 0 (cmdOf 4 0 0 []) { cmd := cmdOf 4 0 0 [], desc := 0 } ∧ d.waitingWrites = [] ∧ d.engHold 0 4 = false ∧
    d.coreRuns 0 = true ∧ d.inEngineReset 0 4 = false ∧ d.badAt 0 64 = false ∧ d.bytesAt 0 64 = copyDesc ∧
    (MDesc.ofBytes (d.bytesAt 0 64)).check d 0 false = none ∧
    (MDesc.ofBytes (e.bytesAt 0 64)).check e 0 false = some 3 ∧ e.memWf = true := by unfold Chained; decide +kernel
theorem meets_chains_start_reach :
    Reaches (storing 0 copyDesc (chaining [] none [])) 0 0 0 0 64 ∧ Reaches (storing 0 badDesc (chaining [] none [])) 0 0 1 56 4 := by
  refine ⟨?_, ?_⟩ <;>
    exact reaches_whole rfl (by decide) (by decide +kernel) (by decide +kernel) (by decide +kernel) (by decide +kernel) rfl
      (by decide +kernel)

theorem meets_moves :
    Chained (chaining copyDesc none []) 0 0 (cmdOf 4 0 0 []) { cmd := cmdOf 4 0 0 [], desc := 0, bytes := copyDesc } ∧
    copyDesc.length = 64 ∧ field copyDesc 40 4 = 8 ∧ descRows copyDesc = 1 ∧ field copyDesc 0 1 % 16 = 0 ∧
    field fillDesc 0 1 % 16 = 2 ∧ rowAt copyDesc 24 0 = 0x2000 ∧ rowAt copyDesc 8 0 = 0x1000 ∧ rowAt fillDesc 24 0 = 0x2000 ∧
    Apart 0x2000 8 56 4 ∧ Apart 0x1000 8 0x2000 8 ∧ (chaining copyDesc none []).badAt 0x1000 8 = false ∧
    (chaining copyDesc none []).memWf = true := by unfold Chained Apart; decide +kernel
theorem meets_moves_reach :
    Reaches (chaining copyDesc none []) 0 0 1 0x2000 8 ∧ Reaches (chaining copyDesc none []) 0 0 0 0x1000 8 ∧
    Reaches (chaining copyDesc none []) 0 0 1 56 4 ∧ Reaches (chaining fillDesc none []) 0 0 1 0x2000 8 := by
  refine ⟨?_, ?_, ?_, ?_⟩ <;>
    exact reaches_whole rfl (by decide) (by decide +kernel) (by decide +kernel) (by decide +kernel) (by decide +kernel) rfl
      (by decide +kernel)

end Sys2Proof.Tests
namespace Sys2Proof.Tests
open Sys2Proof Sys2Proof.Machine Sys2Proof.Claim

/-! ### Hypotheses: conversions, codecs, memory and the bulk data port -/

/-- CONVERT of one FR2 block of zeros, mantissas at 0x1000 and exponent at 0x2000, to 0x3000 and 0x4000. -/
def convertDesc : List Byte := descOf (2 ^ 63 + 1) 0x1000 0x2000 0x3000 0x4000 (fmtN 0) 1 1 1
def converting : Dev := chaining convertDesc none []
theorem meets_convert :
    let m := MDesc.ofBytes convertDesc
    Chained converting 0 0 (cmdOf 4 0 0 []) { cmd := cmdOf 4 0 0 [], desc := 0, bytes := convertDesc } ∧
    convertDesc.length = 64 ∧ m.check converting 0 false = none ∧ m.src0 = 0x1000 ∧ m.src1 = 0x2000 ∧ m.dst0 = 0x3000 ∧
    m.dst1 = 0x4000 ∧ descRows convertDesc * field convertDesc 40 4 / fmtN m.sfmt = 1 ∧
    descRows convertDesc * field convertDesc 40 4 / fmtN m.dfmt = 1 ∧ fmtBytes m.sfmt ≤ 0x1000 ∧ fmtBytes m.dfmt ≤ 0x1000 ∧
    converting.badAt 0x1000 (fmtBytes m.sfmt) = false ∧ converting.badAt 0x2000 1 = false ∧ converting.bytesAt 0x2000 1 = [0] ∧
    converting.memWf = true := by unfold Chained; decide +kernel
theorem meets_convert_reach :
    Reaches converting 0 0 0 0x1000 (fmtBytes 0) ∧ Reaches converting 0 0 0 0x2000 1 ∧ Reaches converting 0 0 1 0x3000 (fmtBytes 0) ∧
    Reaches converting 0 0 1 0x4000 1 ∧ Reaches converting 0 0 1 56 4 := by
  refine ⟨?_, ?_, ?_, ?_, ?_⟩ <;>
    exact reaches_whole rfl (by decide) (by decide +kernel) (by decide +kernel) (by decide +kernel) (by decide +kernel) rfl
      (by decide +kernel)

/-- A table of 256 codes of 8 bits just fits, and the block it codes. -/
theorem meets_tc : GoodLengths (List.replicate 256 8) ∧ (List.replicate 256 (0#8)).length = 256 ∧
    (([(3, 0, List.replicate 256 8)] : List (Nat × Nat × List Nat)).map (fun t => t.1)).Nodup := by
  unfold GoodLengths; decide +kernel

/-- The image of that table, valid, and with its CRC broken. -/
def image : List Byte := List.replicate 128 0x88 ++ [0x52, 0x62, 0, 0]
/-- Slot 0 of codec 0 with a table command in progress. -/
def tabled (slot : Nat) (b : TabSlot) : Dev := { storing 0 image (up [(.cdcTslot 0 0, slot)]) with tabs := [(0, b)] }
theorem meets_code_tables :
    let free := tabled 2 {}
    (free.tab 0 0).busy = 0 ∧ tslot free 0 0 = (2, 0, false, 0, 0) ∧ (tabled 0 { busy := 1 }).tab 0 0 ≠ {} ∧
    tslot (tabled (2 + 8) {}) 0 0 = (2, 2, false, 0, 0) ∧ tslot (tabled (2 + 8 + 65536) {}) 0 0 = (2, 2, false, 0, 1) ∧
    tslot (tabled (2 + 128) {}) 0 0 = (2, 0, true, 0, 0) ∧ (tslot (tabled 0 {}) 0 0).1 ≠ 2 := by decide +kernel
/-- The CRC-16 over numbers, each step taken before the next: the kernel evaluates it on a long string. -/
def crcSteps : List Byte → Nat → Nat
  | [], c => c
  | b :: bs, c => match c with
    | 0 => crcSteps bs (crc16Byte 0 b).toNat
    | k + 1 => crcSteps bs (crc16Byte (BitVec.ofNat 16 (k + 1)) b).toNat
theorem crcSteps_eq (bs : List Byte) (c : W16) : crcSteps bs c.toNat = (bs.foldl crc16Byte c).toNat := by
  induction bs generalizing c with
  | nil => rfl
  | cons b bs ih =>
    unfold crcSteps
    split
    · rename_i h
      have : c = 0 := by apply BitVec.eq_of_toNat_eq; simpa using h
      subst this; exact ih _
    · rename_i k h
      have h : c.toNat = k + 1 := h
      rw [show BitVec.ofNat 16 (k + 1) = c by rw [← h]; simp]; exact ih _
theorem crc_codes : (crc16 (List.replicate 128 0x88)).toNat = 0x6252 := by
  unfold crc16
  rw [← crcSteps_eq]; decide +kernel
theorem image_good : imageErr image = 0 := by
  unfold imageErr
  rw [show image.take 128 = List.replicate 128 0x88 by decide +kernel, crc_codes]; decide +kernel
theorem image_short : imageErr (image.drop 4 ++ [0, 0, 0, 0]) ≠ 0 := by
  have h : fieldBytes (image.drop 4 ++ [0, 0, 0, 0]) 128 2 ≠ (crc16 ((image.drop 4 ++ [0, 0, 0, 0]).take 128)).toNat := by
    rw [show (image.drop 4 ++ [0, 0, 0, 0] : List Byte).take 128 = List.replicate 124 0x88 ++ image.drop 128 by decide +kernel]
    unfold crc16
    rw [← crcSteps_eq]; decide +kernel
  unfold imageErr
  rw [if_pos h]; decide
theorem meets_table_fetch :
    let d := tabled 1 { busy := 1 }
    let e := tabled 1 { busy := 2, addr := 4 }
    d.memOk (d.tab 0 0).addr 132 = true ∧ d.badAt (d.tab 0 0).addr 132 = false ∧ (d.tab 0 0).fetched = false ∧
    imageErr (d.bytesAt (d.tab 0 0).addr 132) = 0 ∧ imageErr (e.bytesAt (e.tab 0 0).addr 132) ≠ 0 ∧ (e.tab 0 0).busy = 2 := by
  refine ⟨by decide +kernel, by decide +kernel, by decide +kernel, ?_, ?_, by decide +kernel⟩
  · rw [show (tabled 1 { busy := 1 }).bytesAt ((tabled 1 { busy := 1 }).tab 0 0).addr 132 = image by decide +kernel]
    exact image_good
  · rw [show (tabled 1 { busy := 2, addr := 4 }).bytesAt ((tabled 1 { busy := 2, addr := 4 }).tab 0 0).addr 132 =
      image.drop 4 ++ [0, 0, 0, 0] by decide +kernel]
    exact image_short

/-- Descriptors of ENCODE and DECODE by codec 7: FR2, and TC with and without TAUTO; and of FABRIC. -/
def frDesc (op : Nat) : List Byte := descOf (op + 7 * 2 ^ 45) 0x1000 0x2000 0x3000 0x4000 64 1 1 1
def tcDesc (tauto : Nat) : List Byte := descOf (3 + 2 * 2 ^ 40 + tauto * 2 ^ 42) 0x1000 0 0x3000 0x4000 512 1 1 1
def fabDesc : List Byte := descOf (2 ^ 63 + 5) 0x1000 3 0x2000 5 32 1 1 1
theorem meets_coded_moves :
    let e := MDesc.ofBytes (frDesc 3)
    let x := MDesc.ofBytes (frDesc 4)
    let t := MDesc.ofBytes (tcDesc 0)
    e.op = 3 ∧ x.op = 4 ∧ e.codec = 7 ∧ 0 < e.codecBlocks ∧ e.kind = .frEnc ∧ x.kind = .frDec ∧ t.kind = .tcEnc ∧
    t.tauto = false ∧ t.codec = 0 ∧ t.codecBlocks = 2 ∧ (MDesc.ofBytes (tcDesc 1)).tauto = true ∧ frDesc 3 ≠ [] ∧
    (up [(.cdcTslot 0 0, 2)]).rbits (.cdcTslot 0 t.tslot) 1 0 = 2 ∧ (up [(.cdcTslot 0 0, 1)]).rbits (.cdcTslot 0 0) 1 0 = 1 ∧
    (up [(.cdcStatus 0, 65534 * 65536)]).rbits (.cdcStatus 0) 31 16 < 2 ^ 16 - 1 := by decide +kernel
/-- A TC ENCODE block admitted without tables, counted by its codec. -/
def encoding : Dev := withRegs [(.cdcStatus 0, 65536)] (chaining (tcDesc 1) (some 1) [{ unit := 0, tables := [] }])
theorem meets_codec_done :
    let m := MDesc.ofBytes (tcDesc 1)
    Chained encoding 0 0 (cmdOf 4 0 0 [])
      { cmd := cmdOf 4 0 0 [], desc := 0, bytes := tcDesc 1, unit := some 1, admitted := [{ unit := 0, tables := [] }] } ∧
    m.kind = .tcEnc ∧ 0 + 1 < m.codecBlocks ∧ encoding.waitingWrites = [] ∧ encoding.rbits (.cdcStatus 0) 31 16 = 1 ∧
    m.src0 = 0x1000 ∧ m.dst0 = 0x3000 ∧ m.dst1 = 0x4000 ∧ encoding.badAt 0x1000 256 = false ∧ Apart 0x3000 257 0x4000 8 ∧
    encoding.memWf = true := by unfold Chained Apart; decide +kernel
theorem meets_codec_done_reach :
    Reaches encoding 0 0 0 0x1000 256 ∧ Reaches encoding 0 0 1 0x3000 257 ∧ Reaches encoding 0 0 1 0x4000 8 := by
  refine ⟨?_, ?_, ?_⟩ <;>
    exact reaches_whole rfl (by decide) (by decide +kernel) (by decide +kernel) (by decide +kernel) (by decide +kernel) rfl
      (by decide +kernel)
theorem meets_fabric_move :
    let m := MDesc.ofBytes fabDesc
    let d := withRegs [(.portSocnt 3, 1)] (chaining fabDesc none [])
    m.kind = .fabric ∧ m.port = 3 ∧ d.rbits (.portSocnt (d.linkOf 3)) 23 0 ≠ 0 ∧ d.portOff 3 = false ∧ m.n0 = 32 ∧
    m.src0 = 0x1000 ∧ d.memOk 0x1000 32 = true ∧ isRegSpace 0x1000 = false ∧ (d.link 3).posts.length < 16 := by decide +kernel

/-- A write that ends at the end of a page. -/
theorem meets_read_after_write :
    let bs : List Byte := [1, 2]
    (up []).memWf = true ∧ (up []).prot = [] ∧ 65534 % 65536 + bs.length ≤ 65536 ∧ (up []).regionAt 65534 = none := by
  decide +kernel

/-- Channel 7 of the bulk data port: STREAM with prefetch, WINDOW, and disabled. -/
def hosted (ctl : Nat) : Dev := { up [(.bdpAddr 7, 0xF000000000), (.bdpCtl 7, ctl)] with mgc := { hostUp := true } }
theorem meets_bulk_data_port :
    let d := hosted 5
    d.mgc.hostUp = true ∧ d.mgc.limited = false ∧ d.rbit (.bdpCtl 7) 0 = true ∧ d.rbit (.bdpCtl 7) 1 = false ∧
    d.rbit (.bdpCtl 7) 2 = true ∧ (d.bdpChan 7).bytes = [] ∧ d.memWf = true ∧ d.regN (.bdpAddr 7) = 0xF000000000 ∧
    (hosted 3).rbit (.bdpCtl 7) 1 = true ∧ d.memOk 0xF000000000 4096 = true ∧ d.badAt 0xF000000000 1 = false ∧
    (hosted 0).rbit (.bdpCtl 7) 0 = false ∧ (hosted 0).rbit (.bdpStat 7) 0 = false ∧ 0 < (1#13).toNat := by decide +kernel
theorem meets_bulk_data_plain : PlainMemory (hosted 5) 0xF000000000 4096 :=
  plain_memory (by decide +kernel) (by decide +kernel) (by decide +kernel) rfl (by decide +kernel)

/-- A region that fills the whole of a CLM's frames, and one that runs past its end; in a device whose commit is open. -/
theorem meets_regions :
    let d := up []
    let v : W64 := BitVec.ofNat 64 (2 ^ 63 + 0xF000000000 + 12)
    d.rbit .chrStatus 0 = false ∧ (v &&& 0x8000FFFFFFFFFFFF#64) ≠ d.reg (.pregCfg 0 0) ∧ bit v 63 = true ∧
    0 < bits v 15 0 ∧ 0xF000000000 + 0 * 0x200000 ≤ bits v 47 16 * 65536 ∧
    bits v 47 16 * 65536 + 2 * bits v 15 0 * 65536 ≤ 0xF000000000 + 0x180000 ∧
    (∀ m < 32, bit (d.reg (.pregCfg 0 m)) 63 = false) ∧ (up [(.chrStatus, 1)]).rbit .chrStatus 0 = true ∧
    bit (v &&& 0x7FFFFFFFFFFFFFFF#64) 63 = false := by decide +kernel
theorem meets_region_paths : PathReaches (up []) .mgc (.pregCfg 71 31) ∧ PathReaches (up []) .mgc (.bdpAddr 7) ∧
    PathReaches (up []) .mgc (.bdpCtl 0) ∧ PathReaches (up []) .mgc (.cdcTcmd 7) :=
  ⟨mgc_reaches (by decide +kernel), mgc_reaches (by decide +kernel), mgc_reaches (by decide +kernel), mgc_reaches (by decide +kernel)⟩
/-- A region without pages breaks R249. -/
theorem meets_regions_bad : ¬ GoodRegion (up []) 0 0 (BitVec.ofNat 64 (2 ^ 63 + 0xF000000000)) := by
  intro h
  exact absurd h.1 (by decide +kernel)
theorem meets_migration :
    let d := { up [] with flt := { migs := [(0, some { chan := 3, spare := 33, lock := some 0 })] } }
    mapGet (fun _ => none) d.flt.migs 0 = some { chan := 3, spare := 33, lock := some 0 } ∧
    mapGet (fun _ => false) d.flt.swHeld 0 = false ∧
    mapGet (fun _ => false) ({ d with flt := { d.flt with swHeld := [(0, true)] } } : Dev).flt.swHeld 0 = true := by decide +kernel

/-! ### Hypotheses: frames -/

/-- What a port asks of a frame beside its CRC. -/
def Formed (d : Dev) (p typ vc : Nat) (f : Frame) : Prop :=
  d.portUp p = true ∧ d.portAbsent p = false ∧ f.typ.toNat = typ ∧ f.vc.toNat = vc ∧ f.payload.length % 32 = 0 ∧
  f.payload.length ≤ 4096 ∧ f.lseq = (d.link p).rxNext ∧ (d.link p).replay = []
theorem seal_good (f : Frame) : crcGood (sealFrame f) = true := by
  show (crc32 (frameCovered f) == crc32 (frameCovered (sealFrame f))) = true
  exact beq_self_eq_true _
/-- A frame with its CRC, of the form and place that the port expects. -/
theorem expected {d : Dev} {p typ vc : Nat} {f : Frame} (h : Formed d p typ vc f) : Expected d p typ vc (sealFrame f) :=
  ⟨h.1, h.2.1, seal_good f, h.2.2.1, h.2.2.2.1, h.2.2.2.2.1, h.2.2.2.2.2.1, h.2.2.2.2.2.2.1, h.2.2.2.2.2.2.2⟩

/-- Port 3 is up, its neighbour is not absent, and exchange window 0 grants R and W on CLM 0's first page; routes to
devices 5 and 0 go by port 4, which is up. -/
def linked (k : Link) : Dev :=
  { up [(.portStatus 3, 2 ^ 31), (.portStatus 4, 2 ^ 31), (.fabXwin 0, 0xF00000000B), (.fabXwin 1, 0xF000000000),
        (.fabRoute 5, 0x84), (.fabRoute 0, 0x84), (.fabDevid, 1)] with links := [(3, k)] }
/-- A frame to this device with TYPE and VC, at an address, and one to device 5. -/
def frameTo (dst : BitVec 9) (typ : BitVec 4) (vc : BitVec 2) (addr : W48) (bs : List Byte) : Frame :=
  { frame typ bs with dst := dst, vc := vc, addr := addr }
def word32 : List Byte := List.replicate 32 1

theorem meets_expected :
    ∀ x ∈ [((1 : Nat), (0 : Nat)), (2, 2), (3, 2), (4, 1), (5, 1), (8, 2)],
      Expected (linked {}) 3 x.1 x.2 (sealFrame (frameTo 1 (BitVec.ofNat 4 x.1) (BitVec.ofNat 2 x.2) 0xF000000000 word32)) :=
  fun x hx => expected ((by unfold Formed; decide +kernel : ∀ x ∈ [((1 : Nat), (0 : Nat)), (2, 2), (3, 2), (4, 1), (5, 1), (8, 2)],
    Formed (linked {}) 3 x.1 x.2 (frameTo 1 (BitVec.ofNat 4 x.1) (BitVec.ofNat 2 x.2) 0xF000000000 word32)) x hx)
/-- Frames of full length, and of none. -/
theorem meets_frame_layout :
    (frame 1 (List.replicate 4096 0)).payload.length ≤ 4096 ∧ (frame 1 (List.replicate 4096 0)).payload.length % 32 = 0 ∧
    (frame 2 []).payload.length % 32 = 0 ∧ (frame 1 []).rsv = 0 := by decide +kernel
theorem meets_frames :
    let d := linked {}
    let f := sealFrame { frameTo 1 1 0 0xF000000000 word32 with src := 5 }
    d.waitingWrites = [] ∧ f.xid ∉ (d.link 4).dropXids ∧ (bit f.xid 31 = false) ∧
    f.dst.toNat = d.rbits .fabDevid 8 0 ∧ f.xid ∉ d.deadXids ∧ f.step = BitVec.ofNat 32 (d.regN .chrStep) ∧
    d.isAtok 0 0 = false ∧ d.memWf = true ∧ f.xid ∈ ({ d with deadXids := [0] } : Dev).deadXids ∧
    (frameTo 1 1 0 0xF000001000 word32).addr.toNat = 0xF000001000 ∧ d.twinDev ≠ some f.src.toNat ∧ d.route 0 = some 4 ∧
    d.route 5 = some 4 ∧ (5#9).toNat ≠ d.rbits .fabDevid 8 0 ∧ d.badAt 0xF000000000 32 = false := by decide +kernel
theorem meets_exchange : InExchange (linked {}) 1 0xF000000000 32 ∧ InExchange (linked {}) 0 0xF000000FE0 32 := by
  constructor <;> exact ⟨0, by decide, by decide +kernel⟩
theorem meets_exchange_not : ¬ InExchange (up []) 1 0xF000000000 32 := by
  rintro ⟨i, hi, h, _⟩
  have : ∀ i < 16, bit ((up []).xwin i) 3 = false := by decide +kernel
  rw [this i hi] at h; cases h
theorem meets_frames_plain : PlainMemory (linked {}) 0xF000000000 32 :=
  plain_memory (by decide +kernel) (by decide +kernel) (by decide +kernel) rfl (by decide +kernel)
theorem meets_can_leave : CanLeave (linked {}) 4 (ownFrame (linked {}) 3 2 0 0 0 word32) := by unfold CanLeave; decide +kernel
/-- A frame out of order, a CTRL frame that acknowledges what is replayed, and one that asks for it again. -/
theorem meets_frames_control :
    let g := frame 1 word32
    let d := linked { replay := [g] }
    let ctrl := fun (bs : List Byte) => sealFrame (frameTo 1 7 3 0 (bs ++ List.replicate (32 - bs.length) 0))
    (ctrl []).typ = 7 ∧ (ctrl []).vc = 3 ∧ d.chorus.vote = none ∧
    (5#16) ≠ ((linked {}).link 3).rxNext ∧ (d.link 3).sendq = [] ∧ (ctrl []).payload.length = 32 ∧
    ofBytes (((ctrl [0, 0, 0, 0, 1]).payload.drop 4).take 1) % 2 = 1 ∧ ofBytes (((ctrl []).payload.drop 4).take 1) % 2 = 0 ∧
    (d.link 3).replays < 32 ∧ ((BitVec.ofNat 16 (ofBytes (((ctrl [255, 255]).payload.drop 0).take 2))) - g.lseq).toNat ≥ 1 := by
  decide +kernel

/-- Queue 36 of core 0 sends to queue 44 of core 0 of device 5; queue 44 of core 0 receives from there. -/
def messaging (tail : Nat) (held : List Frame) : Dev :=
  withRegs [(.qcfg 0 36, 2 ^ 31 + 44 * 2 ^ 8 + 1), (.qbase 0 36, 5 * 2 ^ 48 + 0xF000000000), (.qptr 0 36, 1 * 2 ^ 16),
            (.qcfg 0 44, 2 ^ 31 + 36 * 2 ^ 8 + 1), (.qbase 0 44, 5 * 2 ^ 48 + 0xF000000400), (.qptr 0 44, tail)]
    (linked { qheld := held })
def message : Frame := { frameTo 1 8 2 0 (List.replicate 64 7) with src := 5, xid := 44, off := 36 }
theorem meets_messages :
    let d := messaging 0 []
    d.prot = [] ∧ d.queueOn 0 36 = true ∧ mapGet (fun _ => false) (d.core 0).stopped 36 = false ∧ d.ringFill 0 36 ≠ 0 ∧
    d.rbits (.qcfg 0 36) 3 0 ≤ 12 ∧ d.ringEntry 0 36 (d.ringHead 0 36) = 0xF000000000 ∧ d.badAt 0xF000000000 64 = false ∧
    d.route (d.rbits (.qbase 0 36) 56 48) = some 4 ∧ message.xid.toNat % 2 ^ 15 = 44 ∧ d.ringFull 0 44 = false ∧
    (messaging (2 ^ 29) []).ringFull 0 44 = true ∧ d.linkOf 3 = 3 ∧ ((messaging 0 [message]).link 3).qheld = [message] ∧
    (∀ r < 3, ((messaging 0 [message]).link r).qheld = []) ∧ d.ringEntry 0 44 (d.ringTail 0 44) = 0xF000000400 := by
  decide +kernel
theorem meets_messages_sender : FromItsSender (messaging 0 []) 0 44 message ∧ ¬ FromItsSender (messaging 0 []) 0 44
    { message with src := 6 } ∧ n64 (sealFrame message) ∧ FromItsSender (messaging 0 []) 0 44 (sealFrame message) ∧
    (sealFrame message).xid = 44 ∧ (sealFrame message).dst.toNat = (messaging 0 []).rbits .fabDevid 8 0 := by
  unfold FromItsSender n64; decide +kernel
theorem meets_messages_expected : Expected (messaging 0 []) 3 8 2 (sealFrame message) :=
  expected (by unfold Formed; decide +kernel)
theorem meets_messages_room : PlainMemory (messaging 0 []) 0xF000000400 64 :=
  plain_memory (by decide +kernel) (by decide +kernel) (by decide +kernel) rfl (by decide +kernel)
/-- A tree whose header has not come, has come, and one that waits for its parent's exponents. -/
theorem meets_tree_frames :
    let d := linked {}
    let x := d.treeRun 0 0
    bit (0#32) 10 = false ∧ bits (0#32) 9 8 ≠ 3 ∧ x.failed = false ∧ x.sent = false ∧ x.desc = [] ∧
    mapGet (fun _ => []) x.heads (d.linkOf 3) = [] ∧ word32 ≠ [] ∧ bit (0x400#32) 10 = true ∧ bits (0x400#32) 9 8 = 0 := by
  decide +kernel

end Sys2Proof.Tests
namespace Sys2Proof.Tests
open Sys2Proof Sys2Proof.Machine Sys2Proof.Claim

/-! ### Hypotheses: queues, contexts, bundles and leases -/

/-- Core 0 with queue `q`, two entries at 0xF000000000 and its peer at `peer`, bound to B6 of a context with a window. -/
def bound (q peer ptr : Nat) : Dev :=
  ctx0 [(.qcfg 0 q, 2 ^ 31 + peer * 2 ^ 8 + 1), (.qbase 0 q, 0xF000000000), (.qptr 0 q, ptr)]
    { ready [(0, 7)] with b := [(6, 64 + q)], w := wholeWindow }
theorem meets_queue_issue : ∀ q ∈ [28, 60, 20, 44], Bound (bound q 0 0) 0 0 6 q ∧ Quiet (bound q 0 0) 0 q := by
  unfold Bound Quiet; decide +kernel
theorem meets_queue_window : InWindow ((bound 60 0 0).ctx 0 0) 1 0xF000000000 64 ∧ InWindow ((bound 60 0 0).ctx 0 0) 0 0xF000000000 64 := by
  constructor <;> exact ⟨0, by decide +kernel⟩
theorem meets_queue_fill :
    fill (bound 60 0 0) 0 60 = 0 ∧ fill (bound 60 0 (2 ^ 29)) 0 60 = 2 ∧ (bound 60 0 0).ringSize 0 60 = 2 ∧
    fill (bound 60 0 65536) 0 60 = 1 ∧ pushQueue 60 ∧ popQueue 60 := by unfold pushQueue popQueue; decide +kernel
def pushing : Dev :=
  let d := bound 60 0 0
  { d with cores := [(0, { ctxs := [(0, { ready [] with acc := [.push 60 24 true (List.replicate 64 1) 0 0] })] })] }
def popping : Dev :=
  let d := bound 60 0 65536
  { d with cores := [(0, { ctxs := [(0, { ready [] with acc := [.pop 60 24 true 0 0] })] })] }
theorem meets_queue_completes :
    let d := pushing
    let e := popping
    d.queueOn 0 60 = true ∧ d.rbits (.qcfg 0 60) 3 0 = 1 ∧ d.ringTail 0 60 < d.ringSize 0 60 ∧ d.ringHead 0 60 < d.ringSize 0 60 ∧
    (d.ctx 0 0).acc = [.push 60 24 true (List.replicate 64 1) 0 0] ∧ (d.core 0).firstOn 60 true 0 = true ∧
    d.ringFull 0 60 = false ∧ d.memOk 0xF000000000 64 = true ∧ d.regionAt 0xF000000000 = none ∧ d.prot = [] ∧
    (e.ctx 0 0).acc = [.pop 60 24 true 0 0] ∧ (e.core 0).firstOn 60 false 0 = true ∧ e.ringFill 0 60 ≠ 0 ∧
    e.badAt 0xF000000000 64 = false := by decide +kernel

/-- Each state that a command acts on, and the last context that exists. -/
theorem meets_context_commands :
    ((ctx0 [] { cstatus := 5 }).core 0).unfinished 0 = false ∧
    ((core0 [] { ctxs := [(0, { cstatus := 5 })], gse := { stopped := [(0, { tag := 0, pos := 0 })] } }).core 0).unfinished 0 = true ∧
    (∀ n ∈ [0, 1, 2, 3, 4, 5], ((ctx0 [] { cstatus := BitVec.ofNat 64 n }).ctx 0 0).state = n ∧
      ((ctx0 [] { cstatus := BitVec.ofNat 64 n }).ctx 0 0).a1c = false) ∧
    (79#7).toNat < 80 ∧ 80 ≤ (80#7).toNat := by decide +kernel
/-- Enables that R71 allows and does not, and queues that are enabled and not. -/
theorem meets_queue_configuration :
    let v := (BitVec.ofNat 32 (2 ^ 31 + 28 * 2 ^ 8 + 12) : W32)
    bit v 31 = true ∧ bits v 3 0 = 12 ∧ 28 ≤ bits v 13 8 ∧ bits v 13 8 < 36 ∧ bits (0x8000000D#32) 3 0 = 13 ∧
    bit ((up []).reg (.qcfg 0 20)) 31 = false ∧ bit ((bound 20 28 0).reg (.qcfg 0 20)) 31 = true ∧ bit (1#32) 31 = false := by
  decide +kernel

theorem meets_core_paths : PathReaches (up []) .mgc (.qcfg 511 63) ∧ PathReaches (up []) .mgc (.token 511 255) :=
  ⟨mgc_reaches (by decide +kernel), mgc_reaches (by decide +kernel)⟩

/-- Core 0 runs and its contexts 0 and 3 may issue, 3 above 0; this bundle is at PC 0xF000000000. -/
def issuing (bs : List Byte) : Dev :=
  let k := fun (prio : Nat) =>
    ({ cstatus := BitVec.ofNat 64 (0x802 + prio * 16), pc := 0xF000000000, w := wholeWindow, b := [(1, 64 + 7)] } : Ctx)
  { core0 [(.seqCtl 0, 1), (.qcfg 0 7, 2 ^ 31)] { ctxs := [(0, k 0), (3, k 7)] } with
    mem := mapWrite (fun _ => 0) [] 0xF000000000 bs }
def engineBundle (w : W64) : List Byte := List.replicate 16 0 ++ toBytes 8 w.toNat ++ List.replicate 8 0
/-- VCLR of V0 (07 Table 7.7). -/
def vclr : W64 := BitVec.ofNat 64 (2 * 2 ^ 61 + 12 * 2 ^ 56)
theorem meets_selection :
    let d := issuing []
    d.select 0 = some 3 ∧ d.mayIssue 0 3 = true ∧ d.mayIssue 0 0 = true ∧ (d.ctx 0 0).prio < (d.ctx 0 3).prio ∧
    (up []).select 0 = none ∧ (up []).rbit (.seqCtl 0) 0 = false ∧ d.rbit (.seqCtl 0) 0 = true := by decide +kernel
theorem meets_bundle_fetch : Fetches (issuing (engineBundle vclr)) 0 3 :=
  ⟨by decide +kernel, by decide +kernel, ⟨0, by decide +kernel⟩, by decide +kernel, by decide +kernel⟩
theorem meets_bundle_queue : 7 / 4 = bits vclr 63 61 - 1 := by decide +kernel
theorem meets_bundle_fetch_not : ¬ Fetches { issuing [] with badPar := [(0xF000000000, true)] } 0 3 := by
  rintro ⟨_, _, _, _, h⟩; exact absurd h (by decide +kernel)
theorem meets_bundles :
    let d := issuing (engineBundle vclr)
    (issuing []).bytesAt 0xF000000000 32 = List.replicate 32 0 ∧ d.bytesAt 0xF000000000 32 = engineBundle vclr ∧
    isEngine vclr = true ∧ isWide vclr = false ∧ (d.ctx 0 3).a1c = false ∧ engineIllegal vclr vclr false = none ∧
    bits vclr 63 61 - 1 = 1 ∧ bit ((d.ctx 0 3).binding 1) 6 = true ∧ bits ((d.ctx 0 3).binding 1) 5 0 = 7 ∧ d.queueOn 0 7 = true ∧
    ((d.core 0).queue 7).length < 32 ∧ unitOfQueue 4 = some 1 ∧ bit (d.ctx 0 3).cstatus (leaseBit 1) = true := by decide +kernel
/-- An all-ones bundle raises ILLEGAL. -/
theorem meets_bundle_fail :
    let d := issuing (List.replicate 32 255)
    (d.bundleFail 0 3 (d.ctx 0 3) (d.bundleAt 0xF000000000)).isSome = true := by decide +kernel

/-- The CTX window of core 0 at context 0: its first and last scalar register, PC, CSTATUS and a word past PC. -/
theorem meets_context_window :
    let a := fun (o : Nat) => 0xFF80000000 + 0 * 0x10000 + 0x8000 + o
    let d := ctx0 [] { cstatus := 1 }
    (∀ o ∈ [0, 0xF8, 0x100, 0x108, 0x138], d.pathReach .mgc (a o) = true ∧ d.pathStop .mgc 1 (a o) 8 = none ∧ d.regReach (a o) = true) ∧
    Path.mgc ≠ .host ∧
    d.rbit (.seqStatus 0) 1 = false ∧ (d.ctx 0 0).state < 2 ∧ 2 ≤ ((ctx0 [] (ready [])).ctx 0 0).state := by decide +kernel

/-- Queue 28 of core 0 transfers to queue 27 of core 1, which names it, names another, is full, or is disabled. -/
def crossing (en source ptr : Nat) : Dev :=
  up [(.qcfg 0 28, 2 ^ 31 + (64 + 27) * 2 ^ 8 + 1), (.qbase 0 28, 0xF000000000), (.qptr 0 28, 65536),
      (.qcfg 1 27, en * 2 ^ 31 + source * 2 ^ 8 + 1), (.qbase 1 27, 0xF000000400), (.qptr 1 27, ptr)]
theorem meets_transfers :
    let d := crossing 1 28 0
    d.rbits (.qcfg 0 28) 22 8 = 64 + 27 ∧ d.queueOn 0 28 = true ∧ mapGet (fun _ => false) (d.core 0).stopped 28 = false ∧
    d.ringFill 0 28 ≠ 0 ∧ d.queueOn 1 27 = true ∧ d.rbits (.qcfg 1 27) 22 8 = 28 ∧ d.ringFull 1 27 = false ∧
    d.memOk (d.ringEntry 0 28 (d.ringHead 0 28)) 64 = true ∧ d.memOk (d.ringEntry 1 27 (d.ringTail 1 27)) 64 = true ∧
    d.memWf = true ∧ d.prot = [] ∧ d.regionAt (d.ringEntry 1 27 (d.ringTail 1 27)) = none ∧
    (crossing 1 29 0).rbits (.qcfg 1 27) 22 8 ≠ 28 ∧ (crossing 0 28 0).queueOn 1 27 = false ∧
    (crossing 1 28 (2 ^ 29)).ringFull 1 27 = true := by decide +kernel

/-- Context 5 holds the lease on MXE and context 0 waits for it. -/
def leased (cstatus area : Nat) (rel : Bool) : Core :=
  { ctxs := [(0, { cstatus := 3 }), (5, { cstatus := BitVec.ofNat 64 cstatus, lsave := BitVec.ofNat 64 area })],
    leases := [(0, { owner := some 5, released := rel, waiters := [0] })] }
theorem meets_lease_move :
    let k := leased 2 0xF000000000 true
    (k.lease 0).owner = some 5 ∧ (k.lease 0).waiters.filter (fun n => (k.ctx n).state = 3) = [0] ∧ (k.lease 0).released = true ∧
    k.busyOn 0 5 = false ∧ bits (k.ctx 5).lsave 47 12 * 4096 = 0xF000000000 ∧ mapGet (fun _ => none) k.saved (0 * 4 + 0) = none ∧
    ((leased 1 0 false).ctx 5).state = 1 ∧ ((leased 2 0 false).lease 0).released = false ∧ ((leased 2 0 false).ctx 5).state ≠ 1 ∧
    ({ k with fifo := [(0, [{ ctx := 5, pc := 0, word := 0 }])] } : Core).busyOn 0 5 = true ∧
    bits ((leased 2 0 true).ctx 5).lsave 47 12 * 4096 = 0 ∧ ((leased 2 0 true).ctx 5).a1c = false ∧
    ((leased 4 0 true).ctx 5).state = 4 ∧ ((leased 4 0 true).ctx 5).a1c = false := by decide +kernel

end Sys2Proof.Tests
namespace Sys2Proof.Tests
open Sys2Proof Sys2Proof.Machine Sys2Proof.Claim

/-! ### Hypotheses: links, walkers, arbiters and the chorus -/

/-- A tree with a child on port 3, to the parent of the first child that sends to it, and what a core gets from the parent. -/
def treeBytes (id b1 up : Nat) (kids : List Nat) (nblk : Nat) (cores : List Byte) : List Byte :=
  [BitVec.ofNat 8 id, BitVec.ofNat 8 b1] ++ toBytes 2 up ++ [BitVec.ofNat 8 kids.length, 0, 0, 0] ++ toBytes 4 nblk ++
  List.replicate 4 0 ++ (kids.flatMap (toBytes 2)) ++ List.replicate (48 - 2 * kids.length) 0 ++ cores ++
  List.replicate (64 - cores.length) 0
/-- Core 0 contributed to tree 0, whose parent is device 5 by port 3; RTX writes what it gets at S4. -/
def rtxCmd : Cmd := cmdOf 2 6 0 [(4, 0xF000002000)]
def fromParent : Dev :=
  { linked {} with
    cores := [(0, { ctxs := [(0, { ready [] with w := wholeWindow })], running := [(8, some { cmd := rtxCmd, fin := .going })] })]
    trees := [{ tree := 0, phase := 0, desc := treeBytes 0 1 (3 * 512 + 5) [] 32 [1], cores := [(0, 0)], sent := true }] }
def agreed : Frame := { frameTo 1 4 1 0 word32 with xid := 0x400, lastf := true }
theorem meets_from_parent_expected : Expected fromParent 3 4 1 (sealFrame agreed) := expected (by unfold Formed; decide +kernel)
theorem meets_from_parent :
    let d := fromParent
    let x := d.treeRun 0 0
    let f := sealFrame agreed
    bits f.xid 7 0 = 0 ∧ bits f.xid 9 8 = 0 ∧ bit f.xid 10 = true ∧ x.sent = true ∧ x.got = false ∧
    (treeFields x.desc).parent = some { port := 3, dev := 5 } ∧ (treeFields x.desc).kids = [] ∧ x.cores = [(0, 0)] ∧
    (d.core 0).runs 8 = [{ cmd := rtxCmd, fin := .going }] ∧ rtxCmd.ord = 0 ∧ (∀ i ∈ [9, 10, 11], (d.core 0).runs i = []) ∧
    d.linkOf 3 = 3 ∧ IsCmd rtxCmd 2 6 ∧
    f.payload.take ((treeFields x.desc).nblk - f.off.toNat) ≠ [] ∧ (captured rtxCmd 4 + 0) % 2 ^ 48 = 0xF000002000 := by
  unfold IsCmd; decide +kernel
theorem meets_from_parent_reach : Reaches fromParent 0 0 1 0xF000002000 32 :=
  reaches_whole rfl (by decide) (by decide +kernel) (by decide +kernel) (by decide +kernel) (by decide +kernel) rfl
    (by decide +kernel)

/-- Port 3 down and enabled, with PORT_NBR that asks for device 5's port 2, or for none. -/
def downPort (nbr : Nat) : Dev := up [(.portCtl 3, 2 ^ 31), (.portNbr 3, nbr)]
theorem meets_links :
    let d := downPort (2 ^ 31 + 2 * 2 ^ 16 + 5)
    let u := withRegs [(.portCtl 3, 2 ^ 31)] (linked { replay := [frame 1 word32] })
    (d.link 3).soRestore = none ∧ d.rbit (.portCtl 3) 31 = true ∧ d.portUp 3 = false ∧ d.portOff 3 = false ∧
    (d.portOwn 3).failed = false ∧ d.rbit (.portNbr 3) 31 = true ∧ d.rbits (.portNbr 3) 8 0 = 5 ∧
    d.rbits (.portNbr 3) 20 16 = 2 ∧ (downPort 0).rbit (.portNbr 3) 31 = false ∧ (d.link 3).sendq = [] ∧
    d.clocksStopped = false ∧ 24 ≤ (24#5).toNat ∧ (23#5).toNat < 24 ∧
    (16#5).toNat ≤ 16 ∧ 16 < (17#5).toNat ∧ u.linkUp 3 = true ∧ (u.link 3).replay ≠ [] ∧ (u.link 3).replays < 32 ∧
    ((linked { replay := [frame 1 word32], replays := 32, retrains := 3 }).link 3).retrains = 3 ∧
    (∀ m ∈ u.members 3, m < 24) ∧ u.portAbsent 3 = false ∧ u.chorus.vote = none ∧ neighbourOf u 3 < 512 ∧
    u.memWf = true ∧ u.rbits (.portCtl 3) 12 8 ≠ 16 := by decide +kernel

theorem meets_link_paths : PathReaches (downPort 0) .mgc (.portCtl 23) ∧ PathReaches (downPort 0) .mgc (.fabAbsent 15) :=
  ⟨mgc_reaches (by decide +kernel), mgc_reaches (by decide +kernel)⟩
/-- The bond of ports 22 and 23: 22 has failed and 23 carries every frame. -/
theorem meets_bond :
    let d := withRegs [(.portStatus 22, 2 ^ 31), (.portStatus 23, 2 ^ 31)] (linked {})
    d.members 22 = [22, 23] ∧ d.portUp 22 = true ∧ (23 : Nat) ≠ 22 ∧ d.portUp 23 = true ∧ d.portAbsent 23 = false ∧
    (∀ m ∈ d.members 22, m < 24) := by decide +kernel

/-- The walker of port 3 stands at this entry, with a transfer posted to device 5 by core 0's MVE, or none. -/
def walking (entry : List Byte) (posts : List Post) (fwd : List Frame) : Dev :=
  storing 0xF000000000 entry
    { chaining fabDesc none [] with
      regs := (linked {}).regs
      links := [(3, { sobase := 0xF000000000, socnt := 2, posts := posts }), (4, { fwd := fwd })] }
def post : Post := { core := 0, q := 16, xid := 9, len := 32, src := 0x1000, dst := 0x2000, dev := 5, tv := false, tcore := 0, token := 0 }
def local9 : List Byte := entryBytes 9 32 5 0 0
def forward9 : List Byte := entryBytes 9 32 5 1 4
theorem meets_walkers :
    let d := walking local9 [post] []
    AtEntry d 3 local9 ∧ AtEntry (walking forward9 [] []) 3 forward9 ∧ AtEntry (walking word32 [] []) 3 (word32.take 16) ∧
    ((walking local9 [] []).link 3).posts = [] ∧ (d.link 3).posts = [post] ∧ post.sent < post.len ∧
    (32#32).toNat % 32 = 0 ∧ d.memOk ((post.src + post.sent) % 2 ^ 48) 32 = true ∧
    d.badAt ((post.src + post.sent) % 2 ^ 48) 32 = false ∧ Chained d 0 0 (cmdOf 4 0 0 [])
      { cmd := cmdOf 4 0 0 [], desc := 0, bytes := fabDesc } ∧ d.memWf = true ∧
    CanLeave d 3 (postFrame d post 32) ∧ ((0x40#8).toNat) / 64 < 2 ∧ ofBytes (((word32.take 16).drop 4).take 4) % 32 ≠ 0 ∧
    d.rbits .fabCfg 31 24 ≠ 0 := by unfold AtEntry Chained CanLeave; decide +kernel
theorem meets_walkers_reach : Reaches (walking local9 [post] []) 0 0 1 56 4 :=
  reaches_whole rfl (by decide) (by decide +kernel) (by decide +kernel) (by decide +kernel) (by decide +kernel) rfl
    (by decide +kernel)
/-- The frame of XID 9 has come by port 4; it has come by port 5 instead; and a link without credits. -/
def f9 : Frame := { frameTo 5 1 0 0xF000000000 word32 with xid := 9, lastf := true }
theorem meets_walker_forward :
    let d := walking forward9 [] [f9]
    let e := { d with links := [(3, { sobase := 0xF000000000, socnt := 2 }), (5, { fwd := [f9] })] }
    (d.link 4).fwd = [f9] ∧ f9.bad = false ∧ f9.xid ∉ (d.link 3).dropXids ∧ f9.xid = 9 ∧ f9.lastf = true ∧ f9.vc = 0 ∧ CanLeave d 3 f9 ∧ (d.link 3).fwd = [] ∧
    (∀ n ∈ d.links, n.1 = 3 ∨ n.1 = 4) ∧ e.linkOf 5 = 5 ∧ (5 : Nat) ≠ e.linkOf 4 ∧ (e.link 5).fwd = [f9] ∧
    (({ d with links := [(3, { used := [(0, 0xFFFF)], granted := [(0, 0)] })] } : Dev).link 3).avail 0 < cost f9 := by
  unfold CanLeave; decide +kernel

/-- Inputs 1 and 2 of an arbiter want it, 2 of a higher level; the owner is 0; an age that reaches AGETHR; an input due. -/
theorem meets_arbiters :
    let d := { up [(.arbPrio0 0, 0x210), (.arbAgecfg 0, 1)] with arbs := [(0, { due := [(2, true)] })] }
    let lines : W16 := 6
    d.rbits (.arbState 0) 3 0 = 0 ∧ requests d 0 1 lines = true ∧ requests d 0 2 lines = true ∧ requests d 0 0 lines = false ∧
    levelOf d 0 1 = 1 ∧ levelOf d 0 2 = 2 ∧ requests d 0 11 0x800 = true ∧ requests d 0 12 0x1000 = false ∧
    d.rbits (.arbAgecfg 0) 15 0 = 1 ∧ mapGet (fun _ => 0) (d.arb 0).age 1 = 0 ∧
    mapGet (fun _ => false) (d.arb 0).due 2 = true ∧ mapGet (fun _ => false) (d.arb 0).due 3 = false ∧ behind 1 2 = 0 ∧
    requests d 0 1 0xFFFF = true ∧ (([0, 1] : List W16).getD 1 0).toNat = 1 ∧ 0 < d.rbits (.arbAgecfg 0) 15 0 ∧
    (up [(.arbState 0, 2 ^ 17)]).rbit (.arbState 0) (16 + 1) = true ∧ (1#16) ≠ 0 := by
  decide +kernel

/-- Core 0 alone takes part; its one participant arrives with token 9. -/
def voting : Dev :=
  { diesUp := [(0, true), (1, true), (2, true), (3, true)]
    regs := ((Reg.chrCfg).addr, BitVec.ofNat 64 (1 + 9 * 2 ^ 16)) :: ((Reg.seqCtl 0).addr, 1) ::
      (List.range 128).map (fun i => ((Reg.chrNarr i).addr, if i = 0 then 1 else 0)) }
theorem meets_vote :
    let d := voting
    d.takesPart 0 = true ∧ d.rbits .chrCfg 23 16 = 9 ∧ d.chorus.vote = none ∧
    mapGet (fun _ => 0) d.chorus.arrivals 0 + 1 = d.narr 0 ∧ (∀ k < 4, d.dieUp k = true) := by decide +kernel
theorem meets_vote_path : PathReaches voting .mgc (.token 0 9) := mgc_reaches (by decide +kernel)
theorem meets_vote_others : ∀ k, k < 512 → k ≠ 0 → voting.takesPart k = true → voting.arrived k = true := by
  have h : ∀ i < 128, i ≠ 0 → voting.reg (.chrNarr i) = 0 := by decide +kernel
  have h0 : ∀ j < 4, j ≠ 0 → voting.narr j = 0 := by decide +kernel
  intro k hk k0 ht
  by_cases hq : k / 4 = 0
  · simp [Dev.takesPart, h0 k (by omega) k0] at ht
  · have hr := h (k / 4) (by omega) hq
    have hn : voting.narr k = 0 := by simp [Dev.narr, Dev.rbits, hr, bits]
    simp [Dev.takesPart, hn] at ht

/-- The chorus tree at 0xF000008000: a root with a child on port 3, and a leaf whose parent is there. -/
def inChorus (tree : List Byte) (c : Chorus) : Dev :=
  storing 0xF000008000 tree { withRegs [(.portNbr 3, 2 ^ 31 + 5), (.fabChtree, 0xF000008000)] (linked {}) with chorus := c }
def chorusRoot : List Byte := treeBytes 0 3 0 [3 * 512 + 5] 0 []
def chorusLeaf : List Byte := treeBytes 0 1 (3 * 512 + 5) [] 0 []
def aVote : Vote := { causes := 0, step := 0, ls := 0, run := 0 }
theorem meets_chorus_frames :
    let d := inChorus chorusRoot { vote := some aVote }
    let e := inChorus chorusLeaf {}
    let f := sealFrame (frameTo 1 5 1 0 (chorusBytes 1 0 0 aVote))
    let g := sealFrame (frameTo 1 5 1 0 (chorusBytes 2 3 0 aVote))
    32 ≤ f.payload.length ∧
    d.chorusTree.map (fun t => (t.kids, t.parent)) = some ([{ port := 3, dev := 5 }], none) ∧
    e.chorusTree.map (fun t => (t.kids, t.parent)) = some ([], some { port := 3, dev := 5 }) ∧
    ofBytes (f.payload.take 1) = 1 ∧ ofBytes (g.payload.take 1) = 2 ∧ ofBytes ((g.payload.drop 3).take 1) = 3 ∧
    d.linkOf 3 = 3 ∧ d.chorus.sent = false ∧ aVote.causes < 128 ∧ d.isAbsent 5 = false ∧ e.chorus.decision = none ∧
    e.chorus.applying = 0 ∧ CanLeave d 3 (chorusFrame d { port := 3, dev := 5 } 2 (rootDecides 0) 0 aVote) := by
  unfold CanLeave; decide +kernel
theorem meets_chorus_expected :
    Expected (inChorus chorusRoot { vote := some aVote }) 3 5 1 (sealFrame (frameTo 1 5 1 0 (chorusBytes 1 0 0 aVote))) ∧
    Expected (inChorus chorusLeaf {}) 3 5 1 (sealFrame (frameTo 1 5 1 0 (chorusBytes 2 3 0 aVote))) :=
  ⟨expected (by unfold Formed; decide +kernel), expected (by unfold Formed; decide +kernel)⟩
theorem meets_chorus_timeout :
    let d := up [(.chrStatus, 2), (.chrCfg, 16)]
    d.rbit .chrStatus 1 = true ∧ d.rbits .chrCfg 15 4 ≠ 0 := by decide +kernel

/-- Decisions to apply, with a region that is written whole and a participant; and the end of a boundary. -/
def deciding (dec : Nat) (written : Nat) : Dev :=
  { up [(.chrCfg, 1), (.chrNarr 0, 1), (.chrCtxmask 0, 1), (.pregCfg 0 0, 2 ^ 63 + 0xF000010000 + 1), (.pregStat 0 0, written)] with
    cores := [(0, { ctxs := [(0, { cstatus := 0x30002 })] })], chorus := { decision := some (dec, 3), nfOf := [0], satOf := [0] } }
theorem meets_boundaries :
    (∀ dec ∈ [1, 2, 3], (deciding dec 1).chorus.decision = some (dec, 3)) ∧
    let d := deciding 1 1
    let r : Region := { unit := 0, num := 0, base := 0xF000010000, pages := 1, cur := 0 }
    d.chorus.applying = 0 ∧ d.lul.round = none ∧ d.lul.merging = none ∧ d.takesPart 0 = true ∧ d.isParticipant 0 = true ∧
    (d.ctx 0 0).state ≠ 0 ∧ d.region 0 0 = some r ∧ bits (d.reg (.pregStat 0 0)) 15 0 = r.pages ∧
    bits ((deciding 1 0).reg (.pregStat 0 0)) 15 0 ≠ r.pages ∧ d.prot = [] ∧ d.memWf = true ∧ d.rbit .pwrMode 31 = false := by
  decide +kernel
theorem meets_boundary_end :
    let d := { up [(.chrCfg, 5 * 2 ^ 24)] with chorus := { applying := 1, order := 5 } }
    let e := { d with flt := { withheld := true } }
    let g := { d with chorus := { applying := 1, order := 5, stopAsked := 15 } }
    d.chorus.applying ≠ 0 ∧ d.chorus.order = 5 ∧ d.chorus.stopAsked = 0 ∧ d.rbit .pwrStatus 28 = false ∧ d.flt.withheld = false ∧
    d.lulOn = false ∧ d.rbits .chrCfg 31 24 ≠ d.rbits .chrCfg 23 16 ∧ e.flt.withheld = true ∧ g.chorus.stopAsked < 16 ∧
    g.chorus.stopAsked ≠ 0 ∧ g.memWf = true := by decide +kernel

end Sys2Proof.Tests
namespace Sys2Proof.Tests
open Sys2Proof Sys2Proof.Machine Sys2Proof.Claim

/-! ### Hypotheses: Lular and time -/

/-- A shard record of `n` elements in FR4 for unit 0's region 0: kernels of core 0, tokens 6 and 7, buffers in CLM. -/
def shardRecord (n : Nat) : List Byte :=
  [0, 0, 0, 0, 6, 7, 0, 0] ++ List.replicate 32 0 ++ toBytes 8 0xF000004000 ++ toBytes 8 0xF000008000 ++ toBytes 4 n ++
  List.replicate 4 0
/-- This device is site `me` of sites 1 and 2, Lular runs, port 0 is up, and the round's state is `v`; 3 frames a side. -/
def lular (me v : Nat) (u : Lul) : Dev :=
  storing 0xF000003000 (shardRecord 6400)
    { up [(.lulCtl, 2 ^ 31 + me * 2 ^ 8), (.lhpPstat 0, 2 ^ 31), (.lhpPctl 0, 1), (.lulPeer (4 * 2 + 2), 1), (.lulPeer (4 * 1 + 2), 1),
          (.lulShcnt, 1), (.lulShbase, 0xF000003000), (.lulMemb, 6), (.lulJoined, 6), (.lulStatus, v * 2 ^ 28), (.lulSpan, 10),
          (.lulMlbase, 0xF000002000), (.lulDfull, 1), (.lulDmax, 1000)] with
      lul := u }
def round2 : LulRound := { round := 0, partner := 2, s := 0 }
/-- A frame of type `t` that site 2 sends to site 1. -/
def from2 (t : BitVec 4) (sq nf : Nat) (bs : List Byte) : LulFrame :=
  { Tests.lulFrame t bs with
    env := { etherType := 0x86DD, nextHeader := 17, dstPort := 0x4C75 }, srcSite := 2, dstSite := 1,
    seq := BitVec.ofNat 32 sq, nframes := BitVec.ofNat 32 nf, nshard := 1 }
/-- What port `l` asks of a frame from site `x` beside its checksums. -/
def Meant (d : Dev) (l t x : Nat) (f : LulFrame) : Prop :=
  (d.rbit (.lhpPstat l) 31 = true ∧ d.rbit .lulCtl 31 = true ∧ f.typ.toNat = t) ∧
  (f.env.dstMac.toNat = d.rbits (.lhpMac l) 47 0 ∧ f.env.etherType = 0x86DD ∧ f.env.tag = none ∧ f.env.nextHeader = 17 ∧
    f.env.dstIp = wide (d.reg (.lulSrcip 0)) (d.reg (.lulSrcip 1)) ∧
    (x < 64 ∧ d.rbit (.lulPeer (4 * x + 2)) 0 = true ∧
      f.env.srcIp = wide (d.reg (.lulPeer (4 * x))) (d.reg (.lulPeer (4 * x + 1)))) ∧
    f.env.dstPort.toNat = d.rbits .lulUdp 15 0) ∧ Named d f
theorem lul_seal_good (f : LulFrame) : lulChecks (sealLul f) = true := by
  have hc : lulCovered (sealLul f) = lulCovered f := by simp only [sealLul, lulCovered, lulHeader]
  have hx : (sealLul f).crc = crc32 (lulCovered f) := by simp only [sealLul]
  have hs : (sealLul f).env.udpSum = udpChecksum (sealLul f) := by
    simp only [sealLul, udpChecksum, lulDatagram, lulCovered, lulHeader]
  unfold lulChecks
  rw [hc, hx, hs, beq_self_eq_true, beq_self_eq_true]
  rfl
theorem meant_addressed {d : Dev} {l t x : Nat} {f g : LulFrame} (h : Meant d l t x f)
    (hg : g.env.dstMac = f.env.dstMac ∧ g.env.etherType = f.env.etherType ∧ g.env.tag = f.env.tag ∧
      g.env.nextHeader = f.env.nextHeader ∧ g.env.dstIp = f.env.dstIp ∧ g.env.srcIp = f.env.srcIp ∧
      g.env.dstPort = f.env.dstPort) : Addressed d l g := by
  obtain ⟨-, ⟨h1, h2, h3, h4, h5, h6, h7⟩, -⟩ := h
  obtain ⟨g1, g2, g3, g4, g5, g6, g7⟩ := hg
  refine ⟨g1 ▸ h1, g2 ▸ h2, fun v hv => ?_, g4 ▸ h4, g5 ▸ h5, ⟨x, h6.1, h6.2.1, g6 ▸ h6.2.2⟩, g7 ▸ h7⟩
  rw [g3, h3] at hv; cases hv
/-- A frame that is meant for the port is accepted once its checksums are filled in. -/
theorem accepted {d : Dev} {l t x : Nat} {f : LulFrame} (h : Meant d l t x f) : Accepts d l t (sealLul f) :=
  ⟨h.1.1, h.1.2.1, h.1.2.2, meant_addressed h ⟨rfl, rfl, rfl, rfl, rfl, rfl, rfl⟩, lul_seal_good f, h.2.2⟩
theorem meets_lular_accepts :
    ∀ t ∈ [1, 2, 3, 4, 5, 6, 7, 8, 9, 10], Accepts (lular 1 1 {}) 0 t (sealLul (from2 (BitVec.ofNat 4 t) 0 3 [])) :=
  fun t ht => accepted ((by unfold Meant Named; decide +kernel : ∀ t ∈ [1, 2, 3, 4, 5, 6, 7, 8, 9, 10],
    Meant (lular 1 1 {}) 0 t 2 (from2 (BitVec.ofNat 4 t) 0 3 [])) t ht)
/-- Frames that a port drops: to another MAC, with a false checksum, or of another device. -/
theorem meets_lular_dropped :
    ¬ Addressed (lular 1 1 {}) 0 { from2 1 0 3 [] with env := { dstMac := 1 } } ∧
    (Addressed (lular 1 1 {}) 0 { sealLul (from2 1 0 3 []) with crc := ~~~(sealLul (from2 1 0 3 [])).crc } ∧
      lulChecks { sealLul (from2 1 0 3 []) with crc := ~~~(sealLul (from2 1 0 3 [])).crc } = false) ∧
    Addressed (lular 1 1 {}) 0 (sealLul { from2 1 0 3 [] with dev := 5 }) ∧
    lulChecks (sealLul { from2 1 0 3 [] with dev := 5 }) = true ∧ ¬ Named (lular 1 1 {}) (sealLul { from2 1 0 3 [] with dev := 5 }) := by
  have h : Meant (lular 1 1 {}) 0 1 2 (from2 1 0 3 []) := by unfold Meant Named; decide +kernel
  refine ⟨fun hc => absurd hc.1 (by decide +kernel), ⟨meant_addressed h ⟨rfl, rfl, rfl, rfl, rfl, rfl, rfl⟩, ?_⟩,
    meant_addressed h ⟨rfl, rfl, rfl, rfl, rfl, rfl, rfl⟩, lul_seal_good _, fun hc => ?_⟩
  · have hne : ∀ x : W32, (~~~x == x) = false := by
      intro x
      rw [beq_eq_false_iff_ne]
      intro hx
      have h0 := congrArg (fun y : W32 => y.getLsbD 0) hx
      simp at h0
    have hk : ∀ g : LulFrame, lulChecks { sealLul g with crc := ~~~(sealLul g).crc } = false := by
      intro g
      have hc : lulCovered { sealLul g with crc := ~~~(sealLul g).crc } = lulCovered g := by
        simp only [sealLul, lulCovered, lulHeader]
      have hx : (sealLul g).crc = crc32 (lulCovered g) := by simp only [sealLul]
      unfold lulChecks
      rw [hc, hx, hne, Bool.false_and]
    exact hk _
  · exact absurd hc.2.2.2.1 (by decide +kernel)
theorem meets_lular_data :
    let d := lular 1 1 { round := some round2 }
    let f := sealLul (from2 1 0 3 [1, 2])
    let p : LulPeerSide := { s := 0, d := 0, since := 2000 }
    Calm d ∧ d.memWf = true ∧ Open d round2 f ∧ roundState d = 1 ∧ roundState (lular 1 2 {}) = 2 ∧ f.reform = round2.reform ∧
    f.nframes.toNat = d.lulFrames ∧ f.nshard.toNat % 512 = d.shardCnt ∧ (2 : Nat) < d.lulFrames ∧ round2.got = [] ∧
    (d.fileFrame 0 f.payload).shards = d.shards ∧ Decider d round2 ∧ (4 : Nat) ≠ d.lulFrames ∧
    mapGet (fun _ => false) ({ round2 with got := [(1, true)] } : LulRound).got 1 = true ∧
    round2.reformNext = false ∧ (d.shard 0).rbuf = 0xF000008000 ∧ d.lul.joinOut = none ∧ 1 ≤ max round2.since p.since ∧
    d.regN .lulDmax < max round2.since p.since ∧ d.regN .lulDfull = 1 ∧ (0 : Nat) ≤ d.regN .lulDfull * 2 ^ 0 := by
  unfold Calm Open Decider; decide +kernel
/-- Every frame has come, and the partner's side is known; this device decides, or its partner does. -/
def full (me partner v : Nat) : Dev :=
  lular me v { round := some { round2 with partner := partner, peer := some { s := 0, d := 0, since := 5 },
                                           got := [(0, true), (1, true), (2, true)], high := 3 } }
theorem meets_lular_rack :
    let d := full 1 2 2
    Calm d ∧ d.lul.joinOut = none ∧ d.lul.round.map (fun r => (r.got.length, r.peer.map (fun p => p.since))) = some (d.lulFrames, some 5) ∧ roundState d = 2 ∧
    d.rbits .lulCtl 13 8 < 2 ∧ 5 ≤ d.regN .lulDmax ∧ 5 ≤ d.regN .lulDfull * 2 ^ 3 ∧
    (∀ j, j < 3 → d.regN .lulDfull * 2 ^ j < 5) := by unfold Calm; decide +kernel
theorem meets_lular_decisions :
    let d := full 2 1 3
    let f : LulFrame := { from2 4 0 0 (decisionBytes 4 0 1 0) with srcSite := 1, dstSite := 2 }
    Calm d ∧ Meant d 0 4 1 f ∧ roundState d ≠ 0 ∧ roundState d ≠ 4 ∧ round2.reformNext = false ∧ round2.reform = false ∧
    d.lul.round.map (fun r => (r.partner, r.round)) = some (f.srcSite.toNat, f.round.toNat) ∧
    ¬ d.rbits .lulCtl 13 8 < 1 ∧ roundState d = 3 ∧ 16 ≤ f.payload.length ∧ ofBytes (f.payload.take 1) = 4 ∧
    ofBytes ((f.payload.drop 2).take 1) < 64 ∧ (lular 1 0 {}).lul.round = none ∧
    (lular 1 0 { decOut := [(0, 2, { kind := 2, k := 0, eft := 0, t := 0 })] }).lul.decOut =
      [((from2 5 0 0 []).round.toNat, 2, { kind := 2, k := 0, eft := 0, t := 0 })] := by unfold Calm Meant Named; decide +kernel
theorem meets_lular_joins :
    let d := lular 1 6 { donor := 2, joinGot := [(0, [7])], joinHigh := 1 }
    Calm d ∧ (d.site 2).absent = false ∧ roundState d = 6 ∧ d.lul.donor = (from2 9 1 0 [7]).srcSite.toNat ∧
    (from2 9 1 0 [7]).seq.toNat ≤ d.lul.joinHigh ∧ d.lul.joinGot.length = (from2 10 0 1 []).nframes.toNat ∧
    8 ≤ (from2 8 0 0 (List.replicate 8 0)).payload.length ∧ d.rbit (.lhpPstat 0) 31 = true := by unfold Calm; decide +kernel

theorem meets_lular_paths (r : Reg) (h : r ∈ [Reg.lulMdone, .lulFdone, .lulCmd]) (d : Dev)
    (hd : d ∈ [lular 1 0 {}, lular 1 1 { round := some round2 }, lular 1 5 { round := some round2 }]) : PathReaches d .mgc r := by
  have hr : ∀ e ∈ [lular 1 0 {}, lular 1 1 { round := some round2 }, lular 1 5 { round := some round2 }],
    ∀ x ∈ [Reg.lulMdone, .lulFdone, .lulCmd], e.regReach x.addr = true := by decide +kernel
  exact mgc_reaches (hr d hd r h)
/-- Merge kernels of two records are to report, or of one; a MERGE was decided, at a boundary of order 2. -/
def merging (is : List Nat) : Dev :=
  withRegs [(.pregCfg 0 0, 2 ^ 63 + 0xF000010000 + 1), (.pregStat 0 0, 1)]
    { lular 1 4 { round := some { round2 with dec := some { kind := 1, k := 3, eft := 0, t := 9 } }, merging := some (is, 3) } with
      chorus := { applying := 1, order := 2 } }
theorem meets_merge_reports :
    let d := merging [0, 1]
    let x : Region := { unit := 0, num := 0, base := 0xF000010000, pages := 1, cur := 0 }
    d.lul.merging = some ([0, 1], 3) ∧ 0 < x.pages ∧ d.rbit .lulStatus 26 = false ∧ d.rbit .pwrMode 31 = false ∧ d.region 0 0 = some x ∧
    (d.shard 0).unit = 0 ∧ (d.shard 0).reg = 0 ∧ bits (d.reg (.pregStat 0 0)) 15 0 = x.pages ∧
    d.shardAt 0 + 6 = 0xF000003006 ∧ Apart (x.base + (1 - x.cur) * (x.pages * 65536)) 64 0xF000003006 1 ∧
    [0, 1].filter (· ≠ 0) ≠ [] ∧ (merging [0]).lul.merging = some ([0], 3) ∧ d.rbit .lulCtl 29 = false ∧
    d.rbit .snpRacfg 7 = false ∧ Apart 0xF000002000 32 0xF000003006 1 ∧ d.rbit .snpCtl 31 = false ∧
    d.rbit .snpFstep 63 = false ∧ d.memWf = true := by unfold Apart; decide +kernel
theorem meets_round_course :
    let d := lular 1 1 { round := some round2 }
    let e := lular 1 2 { round := some { round2 with got := [(1, true), (2, true)], high := 3 } }
    Calm d ∧ Calm e ∧ round2.peer = none ∧ round2.dec = none ∧ round2.reformNext = false ∧ round2.partner < 64 ∧
    e.lul.joinOut = none ∧ bits (0#32) 7 0 < d.shardCnt ∧ ([] : List (Nat × Bool)).length + 1 = d.shardCnt ∧
    ({ round2 with formed := [(0, true)] } : LulRound).formed.length + 1 ≠ d.shardCnt ∧ d.rbit .lulCtl 29 = false ∧
    roundState e = 2 ∧ Decider e round2 ∧ 0 + 1 ≤ 3 ∧
    (∀ i, i < 3 → (mapGet (fun _ => false) ([(1, true), (2, true)] : List (Nat × Bool)) i = false ↔ 0 ≤ i ∧ i < 0 + 1)) ∧
    round2.rack = false ∧ 0 < d.lulFrames ∧ roundState (lular 1 5 { round := some round2 }) = 5 ∧
    (withRegs [(.lulCtl, 2 ^ 31 + 2 ^ 28)] (lular 1 0 {})).rbit .lulCtl 28 = true ∧ d.rbit .lulMemb 2 = true ∧
    (d.site 2).absent = false ∧ (2 : Nat) ≠ d.rbits .lulCtl 13 8 ∧
    (up [(.lhpPctl 0, 2 ^ 31)]).rbit (.lhpPstat 0) 31 = false ∧ (up [(.lhpPctl 0, 2 ^ 31)]).rbit (.lhpPctl 0) 31 = true ∧
    d.rbits .pwrStatus 31 29 ≠ 6 ∧ d.lulHeld = [] ∧ d.lhpFor 0 = some 0 := by unfold Decider Calm; decide +kernel
/-- A round whose payload is complete and which is not decided. -/
theorem meets_rack_repeat :
    let r : LulRound := { round2 with peer := some { s := 0, d := 0, since := 0 }, got := [(0, true), (1, true), (2, true)] }
    r.peer ≠ none ∧ r.got.length = (lular 1 2 { round := some r }).lulFrames ∧ r.reformNext = false ∧ r.dec = none := by
  decide +kernel
theorem meets_round_boundaries :
    let dec : Chorus := { decision := some (1, 0) }
    let d := { lular 1 4 { round := some { round2 with dec := some { kind := 1, k := 3, eft := 0, t := 1 } } } with chorus := dec }
    let e := { withRegs [(.chrStep, 5)] (lular 1 2 { round := some round2 }) with chorus := dec }
    let g := { withRegs [(.chrStep, 10), (.chrCfg, 5 * 2 ^ 24)] (lular 1 0 { joined := true }) with
               chorus := { applying := 1, order := 5 } }
    Calm d ∧ Calm e ∧ Calm g ∧ g.chorus.stopAsked = 0 ∧ g.rbit .lulCtl 28 = false ∧ g.flt.withheld = false ∧
    d.rbit .lulCtl 29 = false ∧ roundState d = 4 ∧ 1 ≤ d.regN .chrStep + 1 ∧ d.shardCnt = 1 ∧
    d.isAtok (d.shard 0).core (d.shard 0).mtok = false ∧ round2.s + e.rbits .lulSpan 28 16 ≤ e.regN .chrStep + 1 ∧
    g.lul.joined = true ∧ g.lul.round = none ∧ roundState g = 0 ∧
    g.regN .chrStep = g.regN .lulBase + (0 + 1) * g.rbits .lulSpan 12 0 ∧ 0 < g.rbits .lulSpan 12 0 ∧ g.isMember 1 = true ∧
    g.rbits .chrCfg 31 24 ≠ g.rbits .chrCfg 23 16 ∧ g.partnerOf 0 = some (some 2) ∧ g.rbit .lulJoined 2 = true ∧
    (g.site 2).absent = false ∧ g.isAtok (g.shard 0).core (g.shard 0).ftok = false ∧
    (g.shard 0).ftok ≠ g.rbits .chrCfg 31 24 ∧ (withRegs [(.lulMemb, 2)] g).partnerOf 0 = some none ∧
    (withRegs [(.lulJoined, 2)] g).rbit .lulJoined 2 = false ∧
    ({ g with lul := { g.lul with sites := [(2, { busy := some 0 })] } }.site 2).busy = some 0 ∧
    ({ g with lul := { g.lul with sites := [(2, { absent := true })] } }.site 2).absent = true := by unfold Calm; decide +kernel
theorem meets_no_full_region :
    let d := lular 1 4 {}
    ∀ u n x, u < 72 → n < 32 → d.region u n = some x → d.rbits (.pregStat u n) 15 0 ≠ x.pages := by
  intro d u n x hu hn hx
  rw [region_none (by decide +kernel) hu hn] at hx; cases hx
/-- Three members: 0 has a bye in round 0, and partner 2 in round 1. -/
theorem meets_partners :
    let d := up [(.lulMemb, 7), (.lulCtl, 2 ^ 31 + 0 * 2 ^ 8)]
    ([0, 1, 2] : List Nat).Pairwise (· < ·) ∧ (∀ a < 64, a ∈ ([0, 1, 2] : List Nat) ↔ d.rbit .lulMemb a = true) ∧ d.mySite = 0 := by
  decide +kernel

end Sys2Proof.Tests
namespace Sys2Proof.Tests
open Sys2Proof Sys2Proof.Machine Sys2Proof.Claim

/-! ### Hypotheses: time, clutches, repairs and dumps -/

/-- A step on an empty queue passes time alone. -/
theorem meets_idle : (up []).flt.subs = [] ∧ (up []).heldBumps = [] ∧ (up []).rbit .fltStatus 0 = false := by decide +kernel
theorem meets_time :
    let d := { up [(.timStatus, 2 ^ 30)] with tim := { label := some 7, last := some 6, agree := 3 } }
    let e := up [(.timStatus, 2 ^ 31), (.timCtl, 1), (.hstTscfg, 2 ^ 31 + 0x404), (.hstTsrxbase, 0xF000000000), (.lhpPstat 0, 2 ^ 31)]
    d.rbit .timCtl 0 = false ∧ d.tim.label = some 7 ∧ d.tim.last = some 6 ∧ (6 : Nat) + 1 = 7 ∧ (6 : Nat) + 1 ≠ 9 ∧
    e.flt.subs = [] ∧ e.heldBumps = [] ∧ e.rbit .fltStatus 0 = false ∧ d.rbits .timStatus 31 30 = 1 ∧
    e.rbit .timCtl 0 = true ∧ e.rbits .timStatus 31 30 = 2 ∧ 100 ≤ (100#32).toNat ∧ (900#32).toNat ≤ 900 ∧
    e.lhpUp 0 = true ∧ e.rbit .hstTscfg 31 = true ∧ e.rbits .hstTscfg 3 0 = 4 ∧ e.rbits .hstTscfg 11 8 = 4 ∧
    (e.rbits .hstTsrxwp 15 0 + 65536 - e.rbits .hstTsrxrp 15 0) % 65536 < 2 ^ 4 ∧
    2 ^ 4 ≤ ((withRegs [(.hstTsrxwp, 16)] e).rbits .hstTsrxwp 15 0 + 65536 - e.rbits .hstTsrxrp 15 0) % 65536 ∧ e.memWf = true := by
  decide +kernel
theorem meets_time_paths : PathReaches (up [(.timStatus, 2 ^ 30)]) .mgc .timAdj ∧ PathReaches (up [(.timCtl, 1)]) .mgc .timAdj :=
  ⟨mgc_reaches (by decide +kernel), mgc_reaches (by decide +kernel)⟩
/-- An entry of the TX ring: 60 bytes for port 0, which is up, and for port 1, which is down. -/
def txRing (port : Nat) : Dev :=
  storing 0xF000000000 ([0, 0, 0, 0, 0, 0, 0, 0, BitVec.ofNat 8 port, 0, 60, 0])
    (up [(.hstTscfg, 2 ^ 31 + 0x404), (.hstTstxbase, 0xF000000000), (.lhpPstat 0, 2 ^ 31), (.hstTstxwp, 1)])
theorem meets_tx_ring :
    let d := txRing 0
    let e := txRing 1
    d.rbits .hstTstxrp 15 0 ≠ d.rbits .hstTstxwp 15 0 ∧ d.rbits .hstTscfg 11 8 = 4 ∧
    field (d.physBytes 0xF000000000 256) 10 2 = 60 ∧ field (d.physBytes 0xF000000000 256) 8 1 % 2 = 0 ∧ d.lhpUp 0 = true ∧
    field (e.physBytes 0xF000000000 256) 8 1 % 2 = 1 ∧ e.lhpUp 1 = false := by decide +kernel
theorem meets_tx_ring_plain : PlainMemory (txRing 0) 0xF000000000 256 :=
  plain_memory (by decide +kernel) (by decide +kernel) (by decide +kernel) rfl (by decide +kernel)

/-- One area of one page at 0xF000010000, its copies after it; or one whose page is no memory. -/
def clutching (base : Nat) (rs : List (Reg × Nat)) : Dev :=
  storing 0xF000003000 (toBytes 8 (2 ^ 63 + base) ++ toBytes 8 1 ++ toBytes 8 0xF000020000 ++ toBytes 8 0xF000030000)
    (up ([(.snpAlcnt, 1), (.snpAlbase, 0xF000003000), (.slotRbase 0, 0xF010000000)] ++ rs))
def dueClutch (base : Nat) : Dev := { clutching base [] with snp := { due := true } }
theorem meets_clutch_start :
    let d := dueClutch 0xF000010000
    let e := dueClutch 0xE000000000
    d.snp.due = true ∧ (∀ j, j < 2 → slotOf d j ≠ 1 ∧ slotOf d j ≠ 2) ∧ d.prot = [] ∧ d.rbit .pwrMode 31 = false ∧
    d.chorus.order ≠ 2 ∧ Grants d 8 0 0 ∧ d.areas.any (d.areaBad d.areas) = false ∧ (d.areas.map Area.pages).sum = 1 ∧
    e.areas.any (e.areaBad e.areas) = true ∧ Grants e 8 0 0 ∧ d.memWf = true := by unfold Grants slotOf; decide +kernel
/-- A page that waits for its copy; the last one, and one of two. -/
def protPage : ProtPage := { slot := 0, area := 0, page := 0, leaf := 0, dest := 0xF000020000, twin := false }
def copying (left : Nat) : Dev :=
  { clutching 0xF000010000 [(.slotState 0, 1), (.slotLeft 0, left), (.slotDbase 0, 0xF000008000)] with
    prot := [(0xF00001, some protPage)] }
theorem meets_page_copy :
    let d := copying 1
    mapGet (fun _ => none) d.prot 0xF00001 = some protPage ∧ CopyReady d 0xF00001 protPage ∧
    unitOf (0xF00001 * 65536) = some 0 ∧ slotOf d 0 = 1 ∧ slotOf d 1 ≠ 1 ∧ d.regN (.slotLeft 0) = 1 ∧
    d.heldBumps = [] ∧ d.prot = [(0xF00001, some protPage)] ∧ (copying 2).regN (.slotLeft 0) = 2 ∧ d.rbits .snpCtl 5 4 ≠ 1 ∧
    d.regionAt 0xF000010000 = none ∧ d.memWf = true := by unfold CopyReady Apart slotOf; decide +kernel
theorem meets_twin_pages :
    let d := { copying 5 with prot := [(0xF00001, some { protPage with twin := true })], snp := { twinLeft := 2 } }
    let e := { d with snp := { twinLeft := 5 } }
    d.heldBumps = [] ∧ slotOf d 1 ≠ 1 ∧ d.spills = [] ∧ ({ protPage with twin := true } : ProtPage).got < 65536 ∧ protPage.slot < 2 ∧
    d.regN (.slotDbase 0) % 8 = 0 ∧ 65536 ≤ ({ protPage with twin := true, got := 65536 } : ProtPage).got ∧
    slotOf d 0 = 1 ∧ d.reg (.slotClseq 0) = 0 ∧ 0 < d.snp.twinLeft ∧ d.waitingWrites = [] ∧
    d.snp.twinLeft < d.regN (.slotLeft 0) ∧ e.snp.twinLeft = e.regN (.slotLeft 0) ∧
    (up [(.snpCtl, 0x20)]).rbits .snpCtl 5 4 = 2 := by unfold slotOf; decide +kernel

/-- Slot 0 is in a state, and the twin, device 0, is reached by port 4. -/
def served (v : Nat) (rs : List (Reg × Nat)) : Dev := withRegs ([(.slotState 0, v), (.slotRoot 0, 77), (.slotClseq 0, 5)] ++ rs) (linked {})
def twinSlots (root : Nat) : List Byte :=
  List.replicate 32 0 ++ toBytes 8 5 ++ toBytes 8 root ++ toBytes 4 2 ++ List.replicate 204 0
theorem meets_clutch_service :
    let d := served 3 [(.snpCtl, 0x20)]
    let e := served 2 []
    d.twinDev = some 0 ∧ d.route 0 = some 4 ∧ CanLeave d 4 (ownFrame d 2 2 0 0 512 []) ∧ d.rbits .snpCtl 5 4 = 2 ∧
    slotOf d 0 = 3 ∧ d.job 0 = none ∧ d.job 1 = none ∧ d.job 2 = none ∧ d.reg .snpPullseq ≠ d.reg (.slotClseq 0) ∧ Grants d 10 0 0 ∧
    slotOf e 0 = 2 ∧ slotOf e 1 ≠ 2 ∧ (twinSlots 77).length = 256 ∧ field (twinSlots 77) 32 8 = e.regN (.slotClseq 0) ∧
    field (twinSlots 77) (128 + 32) 8 ≠ e.regN (.slotClseq 0) ∧ field (twinSlots 77) 48 4 % 8 = 2 ∧
    field (twinSlots 77) 40 8 = e.regN (.slotRoot 0) ∧ field (twinSlots 78) 40 8 ≠ e.regN (.slotRoot 0) ∧
    slotOf (up []) 0 ≠ 3 ∧ slotOf (up []) 1 ≠ 3 ∧ slotOf (served 4 []) 0 = 4 ∧ slotOf (served 5 []) 0 = 5 := by
  unfold CanLeave Grants slotOf; decide +kernel
theorem meets_clutch_paths : PathReaches (served 3 [(.snpCtl, 0x20)]) .mgc .snpCmd ∧ PathReaches (up []) .mgc .snpCmd ∧
    PathReaches (up []) .mgc .snpEstev :=
  ⟨mgc_reaches (by decide +kernel), mgc_reaches (by decide +kernel), mgc_reaches (by decide +kernel)⟩
/-- A RESTORE may start: the chorus is off, no sequencer runs, and slot 0 is GOOD. -/
def restorable : Dev := served 3 [(.chrCfg, 0)]
theorem meets_restore :
    restorable.rbit .chrCfg 0 = false ∧ (∀ j, j < 2 → slotOf restorable j ≠ 1 ∧ slotOf restorable j ≠ 2) ∧
    slotOf restorable 0 = 3 ∧ restorable.job 3 = none ∧ mapGet (fun _ => false) restorable.flt.swHeld 0 = false ∧
    bit (0#32) 8 = false ∧ restorable.rbits .snpCtl 5 4 ≠ 1 ∧ Grants restorable 9 0 0 ∧
    restorable.shardCnt = 0 := by unfold Grants slotOf; decide +kernel
theorem meets_restore_path : PathReaches restorable .mgc .snpCmd := mgc_reaches (by decide +kernel)
theorem meets_restore_seq : ∀ c : CoreId, restorable.rbit (.seqCtl c) 0 = false := by
  intro c
  have h : ∀ e ∈ restorable.regs, e.1 ≠ (Reg.seqCtl c).addr := by
    have hr : ∀ e ∈ restorable.regs, e.1 < 0xFF80000000 := by decide +kernel
    intro e he
    have := hr e he
    simp only [Reg.addr, coreBase]; omega
  have hd : ∀ c < 512, bit (regDefault (Reg.seqCtl c).addr) 0 = false := by decide +kernel
  unfold Dev.rbit Dev.reg
  rw [mapGet_default h]
  exact hd c c.isLt

/-! ### Locks and repairs -/

/-- FLT_CMDARG is set; entry 0 of the lock table is held for a dump, or is free. -/
def repairing (arg : Nat) (locked : Bool) (f : Flt) : Dev :=
  { up ([(.fltCmdarg, arg), (.slotmap 0, 2 ^ 36 + 0x876543210), (.fltCmdarg2, 0xF000008000)] ++
      if locked then [(.fltLock 0, 2 ^ 63 + 4 * 2 ^ 56 + 2 ^ 28)] else []) with flt := f }
theorem meets_locks :
    let free := repairing (8 * 2 ^ 32) false {}
    let busy := repairing (4 * 2 ^ 32 + 2 ^ 28) true {}
    lockOk 8 0 = true ∧ Grants free 8 0 0 ∧ lockOk 4 (2 ^ 28) = true ∧ Blocks busy 4 (2 ^ 28) 0 ∧ lockOk 0 0 = false ∧
    lockOk 13 0 = false ∧ busy.rbit (.fltLock 0) 63 = true ∧ busy.rbits .fltCmdarg 3 0 = 0 ∧ free.rbit (.fltLock 0) 63 = false := by
  unfold Grants Blocks; decide +kernel
theorem meets_repair_paths (arg : Nat) (locked : Bool) (f : Flt) : PathReaches (repairing arg locked f) .mgc .fltCmd := by
  refine ⟨rfl, rfl, ?_⟩
  cases locked
  · exact (by decide +kernel : (repairing 0 false {}).regReach Reg.fltCmd.addr = true)
  · exact (by decide +kernel : (repairing 0 true {}).regReach Reg.fltCmd.addr = true)
/-- Without a LOCK by software a start takes a free entry, or is refused. -/
theorem starts_free {d : Dev} {p : Path} {a u i : Nat} (hs : d.flt.swHeld = []) (h : Grants d a u i) : StartsUnder d p a u i :=
  Or.inr ⟨fun j hj => by have := hj.2.2.1; simp [hs, mapGet] at this, h⟩
theorem refused_free {d : Dev} {p : Path} {a u j : Nat} (hs : d.flt.swHeld = []) (h : Blocks d a u j) : Refused d p a u j :=
  ⟨fun i hi => by have := hi.2.2.1; simp [hs, mapGet] at this, h⟩
theorem meets_starts : StartsUnder (repairing 0 false {}) .mgc 2 (3 * 2 ^ 28) 0 ∧
    StartsUnder (withRegs [(.fltLock 0, 2 ^ 63 + 2 * 2 ^ 56 + 2 * 2 ^ 52 + 3 * 2 ^ 28)] (repairing 0 false { swHeld := [(0, true)] }))
      .mgc 2 (3 * 2 ^ 28) 0 ∧
    Refused (repairing 0 true {}) .mgc 2 (3 * 2 ^ 28) 0 := by
  refine ⟨starts_free rfl (by unfold Grants; decide +kernel), Or.inl ⟨?_, fun j hj => absurd hj (by omega)⟩,
    refused_free rfl (by unfold Blocks; decide +kernel)⟩
  unfold OwnEntry; decide +kernel
theorem meets_repair_commands :
    let eng := 4 * 2 ^ 28 + 1 * 512
    let core := 3 * 2 ^ 28
    let lane := 6 * 2 ^ 28 + 1 * 256 + 23
    let chan := 8 * 2 ^ 28 + 7 * 64 + 31
    let row := 9 * 2 ^ 28
    let d := repairing 0 false {}
    (∀ u ∈ [eng, core, 2 ^ 28, lane, chan, row], unitOk u = true) ∧ unitOk (2 ^ 28 + 4) = false ∧
    d.dieUp 0 = true ∧ d.episode 0 1 = none ∧ Grants d 2 core 0 ∧ d.rbit (.slotmap 0) 36 = true ∧
    (∀ j, j < 16 → d.rbit (.fltLock j) 63 = false) ∧ d.flt.subs = [] := by unfold Grants; decide +kernel
/-- A substitution on die 0 under the one entry held, and one that ends. -/
theorem meets_substitutions :
    let x : Subst := { core := 3, lock := some 0, ctxs := [5] }
    let d := repairing (2 ^ 28) true { subs := [x] }
    let e := { repairing 0 false { subs := [x] } with cores := [(3, { ctxs := [(5, { cstatus := 1, prior := 2 })] })] }
    d.flt.subs = [x] ∧ x.core / 128 = 0 ∧ x.lock = some 0 ∧ mapGet (fun _ => false) d.flt.swHeld 0 = false ∧
    (∀ i, i < 16 → d.rbit (.fltLock i) 63 = true → i = 0) ∧ unitOk (2 ^ 28) = true ∧ x.core < 512 ∧
    e.rbits (.slotmap (x.core / 8)) (4 * (x.core % 8) + 3) (4 * (x.core % 8)) < 9 ∧ 5 ∈ x.ctxs ∧ (e.ctx 3 5).state = 1 ∧
    (e.ctx 3 5).prior = 2 ∧ x.lost = false ∧ ({ x with lost := true } : Subst).lost = true := by decide +kernel
theorem meets_repair_scopes :
    let core := 3 * 2 ^ 28
    let row := 9 * 2 ^ 28
    let d := repairing 0 false {}
    d.physBad 0xF000000000 0x180000 = false ∧ (d.core 0).ctxs = [] ∧
    (∀ e, e < 5 → d.episode 0 e = none) ∧ Grants d 3 core 0 ∧ d.rbits (.slotmap 0) 3 0 < 9 ∧
    Grants d 4 (2 ^ 28) 0 ∧ d.snp.lock ≠ some 0 ∧ Grants d 5 (6 * 2 ^ 28 + 23) 0 ∧ Grants d 6 (7 * 2 ^ 28 + 7) 0 ∧
    SparesFree d 7 ∧ mapGet (fun _ => false) d.flt.retired (2 * 7 + 1) = false ∧ Grants d 7 (2 * 2 ^ 28) 0 ∧ mapGet (fun _ => 0) d.flt.spareRows row = 0 ∧
    mapGet (fun _ => false) (repairing 0 false { spareLanes := [(23, true)] }).flt.spareLanes 23 = true ∧
    (up [(.stkChmap 7, 0x8080)]).rbit (.stkChmap 7) 7 = true ∧ (up [(.stkChmap 7, 0x8080)]).rbit (.stkChmap 7) 15 = true ∧
    (up [(.slotmap 0, 0)]).rbit (.slotmap 0) 36 = false := by unfold Grants SparesFree; decide +kernel
theorem meets_release :
    let d := { withRegs [(.fltStatus, 4 * 2 ^ 16 + 1), (.chrCfg, 5 * 2 ^ 24)] (inChorus chorusLeaf { vote := some aVote }) with flt := { withheld := true } }
    d.rbit .fltStatus 0 = true ∧ d.rbits .fltStatus 19 16 = 4 ∧ d.rbit .pwrStatus 28 = false ∧ d.lulOn = false ∧
    d.rbits .chrCfg 31 24 ≠ d.rbits .chrCfg 23 16 ∧ (up []).rbit .fltStatus 0 = false ∧ d.chorus.vote = some aVote ∧
    d.chorusTree.map (fun t => (t.kids, t.parent)) = some ([], some { port := 3, dev := 5 }) ∧ d.isAbsent 5 = false ∧
    CanLeave d 3 (chorusFrame d { port := 3, dev := 5 } 1 0 0 aVote) := by unfold CanLeave; decide +kernel
theorem meets_repair_triggers :
    let d := repairing 0 false { migs := [(7, some { chan := 3, spare := 32 })], waits := [{ act := 6, scope := 7 * 2 ^ 28 + 7, arg := 5 }] }
    d.rbits .fltRepthr 31 16 ≤ (0xFFFF#32).toNat ∧ d.rbits .fltRepthr 15 0 ≤ (0xFFFF#32).toNat ∧ (0#32).toNat < d.rbits .fltRepthr 15 0 ∧
    d.rbit .fltRepcfg 0 = true ∧ d.rbit .fltRepcfg 1 = true ∧ (up [(.fltRepcfg, 0)]).rbit .fltRepcfg 0 = false ∧
    Grants d 5 (6 * 2 ^ 28 + 3) 0 ∧ Grants d 6 (7 * 2 ^ 28 + 7) 0 ∧ SparesFree d 7 ∧
    (∀ x ∈ ([] : List LockWait), x.act ≠ 3) ∧
    mapGet (fun _ => none) d.flt.migs 7 = some { chan := 3, spare := 32 } ∧ d.flt.waits = [{ act := 6, scope := 7 * 2 ^ 28 + 7, arg := 5 }] ∧
    Blocks (repairing 0 true {}) 5 (6 * 2 ^ 28 + 3) 0 ∧ Blocks (repairing 0 true {}) 6 (7 * 2 ^ 28) 0 := by
  unfold Grants SparesFree Blocks; decide +kernel
/-- A substitution that waits while another one fills the cluster's spare. -/
theorem meets_waits :
    let d := withRegs [(.fltLock 0, 2 ^ 63 + 3 * 2 ^ 56 + 3 * 2 ^ 28 + 1)] (repairing 0 false { waits := [{ act := 3, scope := 3 * 2 ^ 28 + 2 }] })
    let e := repairing 0 true { waits := [{ act := 5, scope := 6 * 2 ^ 28 + 3 }] }
    d.flt.waits = [{ act := 3, scope := 3 * 2 ^ 28 + (2 : CoreId).val }] ∧ d.rbit (.fltLock 0) 63 = true ∧
    d.rbits (.fltLock 0) 59 56 = 3 ∧ d.rbits (.fltLock 0) 31 0 % 512 / 8 = (2 : CoreId).val / 8 ∧
    ∀ w ∈ e.flt.waits, w.act ≠ 3 ∧ Blocks e w.act w.scope 0 := by unfold Blocks; decide +kernel
theorem meets_dump :
    let d := repairing (6 * 2 ^ 28 + 3) false {}
    let e := { repairing 0 false { dump := some { todo := [(2 ^ 28, 0)], base := 0xF000008000, next := 300, lock := some 0 } } with
               diesUp := [] }
    d.rbits .fltCmdarg 31 0 = 6 * 2 ^ 28 + 3 ∧ Grants d 11 0 0 ∧ d.dieUp 0 = true ∧ e.dieUp 0 = false ∧
    d.regN .fltCmdarg2 % 2 ^ 48 = 0xF000008000 ∧ e.flt.dump = some { todo := [(2 ^ 28, 0)], base := 0xF000008000, next := 300, lock := some 0 } ∧
    (300 + 15) / 16 * 16 + 16 < 2 ^ 32 := by unfold Grants; decide +kernel
theorem meets_dump_plain : PlainMemory (repairing (6 * 2 ^ 28 + 3) false {}) 0xF000008000 320 :=
  plain_memory (by decide +kernel) (by decide +kernel) (by decide +kernel) rfl (by decide +kernel)

end Sys2Proof.Tests
namespace Sys2Proof.Tests
open Sys2Proof Sys2Proof.Machine Sys2Proof.Claim

/-! ### Hypotheses: escalation, resets, power, heat and counters -/

/-- Context 2 runs a VXE command and context 4 has one queued behind it; episodes and past ones as given. -/
def stalled (auto : Nat) (f : Flt) (eps : List (Nat × Option Episode)) : Dev :=
  { core0 [(.fltWdcfg, 1), (.fltEsccfg, 0x400000 + auto), (.seqCtl 0, 1)]
      { ctxs := [(2, ready []), (4, ready [])], running := [(4, some { cmd := { cmdOf 1 3 0 [] with ctx := 2 }, fin := .going })],
        fifo := [(4, [{ cmdOf 1 3 0 [] with ctx := 4 }])] } with
    flt := { f with episodes := eps } }
def stalledRun : Run := { cmd := { cmdOf 1 3 0 [] with ctx := 2 }, fin := .going }
/-- Level 1 with suspects 2 and 4, 2 current. -/
def suspecting : Episode :=
  { suspects := [2, 4], current := some 2, stored := [{ q := 4, cmd := { cmdOf 1 3 0 [] with ctx := 4 } }], lock := some 0 }
theorem meets_watchdog_first :
    let d := stalled 3 {} []
    Stalled d 0 1 stalledRun ∧ NoEpisode d 0 ∧ d.flt.past = [] ∧ autoLevel d = 3 ∧ Grants d 1 (3 * 2 ^ 28) 0 ∧
    d.snp.lock ≠ some 0 ∧ autoLevel (stalled 0 {} []) = 0 ∧
    Blocks (withRegs [(.fltLock 0, 2 ^ 63 + 4 * 2 ^ 56 + 2 ^ 28)] d) 1 (3 * 2 ^ 28) 0 := by
  refine ⟨⟨by decide +kernel, by decide +kernel, 0, by decide, by decide +kernel, by decide⟩, ?_, ?_⟩
  · unfold NoEpisode; decide +kernel
  · unfold Grants Blocks; decide +kernel
theorem meets_watchdog_later :
    let o : PastEpisode := { core := 0, eng := 1, level := 1, step := 0, clean := true }
    let d := stalled 3 { past := [o] } []
    let e := withRegs [(.slotmap 0, 0)] (stalled 3 { past := [o, { o with eng := 2, level := 2 }] } [])
    let g := stalled 3 {} [(1, some suspecting)]
    d.flt.past = [o] ∧ d.regN .chrStep ≤ o.step + d.rbits .fltEsccfg 31 16 ∧ Grants d 2 (3 * 2 ^ 28) 0 ∧
    autoLevel (stalled 1 {} []) < 2 ∧ e.rbit (.slotmap 0) 36 = false ∧ e.rbits .fltDvcnt 7 0 = 0 ∧
    g.episode 0 1 = some suspecting ∧ (∀ f, f < 5 → f ≠ 1 → g.episode 0 f = none) ∧
    suspecting.current = some stalledRun.cmd.ctx ∧ (∀ st ∈ suspecting.stored, st.cmd.ctx ∈ suspecting.suspects) ∧
    (∃ st ∈ suspecting.stored, st.cmd.ctx ≠ stalledRun.cmd.ctx) ∧
    (∀ st ∈ ({ suspecting with stored := [] } : Episode).stored, st.cmd.ctx = stalledRun.cmd.ctx) := by
  unfold Grants; decide +kernel
/-- Suspect 2 is current and its commands cannot start; 4 waits. -/
def advancing : Dev :=
  { core0 [(.seqCtl 0, 1)] { ctxs := [(2, ready []), (4, ready [])] } with flt := { episodes := [(1, some suspecting)] } }
theorem meets_suspect_advance :
    advancing.episode 0 1 = some suspecting ∧ suspecting.level = 1 ∧ suspecting.suspects.Pairwise (· < ·) ∧
    suspecting.current = some 2 ∧ (∀ q, q < 20 → (advancing.core 0).runs q = [] ∧ advancing.headOf 0 q = none) ∧
    (4 ∈ suspecting.suspects ∧ ∃ st ∈ suspecting.stored, st.cmd.ctx = 4) := by decide +kernel
theorem meets_forced_arrival :
    let d : Dev := { voting with cores := [(0, { ctxs := [(0, ready [])] })], flt := { force := true } }
    d.flt.force = true ∧ d.takesPart 0 = true ∧ d.chorus.vote = none ∧ d.coreRuns 0 = true ∧ (∀ n : DieId, d.dieUp n = true) ∧
    0 < d.narr 0 - mapGet (fun _ => 0) d.chorus.arrivals 0 ∧ d.isParticipant 0 = true ∧ (d.ctx 0 0).state = 2 := by decide +kernel

theorem meets_resets :
    let d := { core0 [(.fltEsccfg, 4), (.fltWdcfg, 1), (.slotmap 0, 0)] { ctxs := [(0, { cstatus := 5 })] } with
               diesUp := [(0, true), (1, true), (2, true)] }
    let p : Episode := { suspects := [0], resetting := true, level := 2, lock := some 0 }
    let e := { core0 [(.slotmap 0, 0), (.fltEsccfg, 0x400002)] { ctxs := [(0, { cstatus := 1, prior := 2 })] } with flt := { episodes := [(1, some p)] } }
    let g := withRegs [(.slotmap 48, 2 ^ 36)] { d with flt := { dies := [(3, some 0)], unfinished := [387] } }
    let bulk : Chain := { cmd := { ctx := 0, pc := 0, word := 0 }, desc := 0, stopping := true }
    let h := { d with cores := [(0, { ctxs := [(0, { cstatus := 5 })], chains := [(16, some bulk)] })] }
    let o := { d with cores := [(0, { ctxs := [(0, { cstatus := 5 })], gse := { stopped := [(0, { tag := 1, pos := 0 })] } })] }
    let late := withRegs [(.fltLock 0, 2 ^ 63 + 1 * 2 ^ 56 + 3 * 2 ^ 28)]
      { h with cores := [(0, { ctxs := [(0, { cstatus := 1 })], chains := [(16, some bulk)] })],
               flt := { episodes := [(1, some { suspects := [0], lock := some 0 })] } }
    (d.ctx 0 0).state = 5 ∧ autoLevel d = 4 ∧ (∀ f, f < 5 → d.episode 0 f = none) ∧ Grants d 2 (3 * 2 ^ 28) 0 ∧
    (d.core 0).draining 0 = false ∧ (d.core 0).readsOpen 0 = false ∧ (h.core 0).draining 0 = true ∧
    (o.core 0).draining 0 = false ∧ (o.core 0).readsOpen 0 = true ∧ (late.ctx 0 0).state = 1 ∧ 2 ≤ autoLevel late ∧
    late.episode 0 1 = some { suspects := [0], lock := some 0 } ∧ (∀ f, f < 5 → f ≠ 1 → late.episode 0 f = none) ∧
    mapGet (fun _ => false) late.flt.swHeld 0 = false ∧ (∀ k, k < 16 → late.rbit (.fltLock k) 63 = true → k = 0) ∧
    (late.core 0).draining 0 = true ∧ d.flt.subs = [] ∧ g.flt.unfinished = [387] ∧ 387 / 128 = 3 ∧
    g.rbit (.slotmap (387 / 8)) 36 = true ∧ e.episode 0 1 = some p ∧ d.rbit (.slotmap 0) 36 = false ∧ d.rbits .fltDvcnt 7 0 = 0 ∧
    autoLevel e < 3 ∧ (e.ctx 0 0).state = 1 ∧ p.suspects.Nodup ∧ (e.ctx 0 0).prior ≤ 5 ∧ e.memWf = true ∧
    unitOk (12 * 2 ^ 28 + 0 * 256 + 0) = true ∧ d.rbit .fltWdcfg 0 = true ∧ Grants d 4 (2 ^ 28) 0 ∧
    g.flt.dies = [(3, some 0)] ∧ g.dieUp 3 = false := by unfold Grants; decide +kernel

/-- The supply is low, has recovered, or is steady; stages and flushes. -/
def powered (status : Nat) (p : Pwr) : Dev := { up [(.pwrStatus, status), (.chrCfg, 5 * 2 ^ 24)] with pwr := p }
theorem meets_power :
    let m := withRegs [(.fltLock 0, 2 ^ 63 + 12 * 2 ^ 56), (.pwrModestep, 5)] (up [])
    let b := up [(.pwrMode, 2 ^ 31 + 1 * 2 ^ 16)]
    let r := powered (6 * 2 ^ 29) { top := 6 }
    m.rbit (.fltLock 0) 63 = true ∧ m.rbits (.fltLock 0) 59 56 = 12 ∧ m.regN .chrStep < m.regN .pwrModestep ∧
    b.rbit .pwrMode 31 = true ∧ b.reg .chrStep = b.reg .pwrModestep ∧ b.rbits .pwrMode 17 16 = 1 ∧ b.rbits .pwrMode 1 0 < 2 ∧
    bits (2000#32) 11 0 % 25 = 0 ∧ bits (399#32) 11 0 < 400 ∧ (powered 0 {}).rbit .pwrStatus 27 = false ∧
    (powered 0 {}).pwr.top = 0 ∧ (powered (2 ^ 27) {}).rbit .pwrStatus 27 = true ∧ (powered (2 ^ 27) { top := 4 }).pwr.top < 5 ∧
    (powered (2 ^ 26) { top := 3 }).rbit .pwrStatus 26 = true ∧ (powered 0 { top := 4, reversing := true }).pwr.reversing = true ∧
    r.rbits .pwrStatus 31 29 = 6 ∧ r.pwr.steady = true ∧ r.rbit .pwrStatus 27 = false ∧ r.pwr.hot = false ∧
    201 ≤ (powered (6 * 2 ^ 29) { hot := true, coolFor := 201 }).pwr.coolFor := by decide +kernel
theorem meets_power_forwards : ∀ p, ((up [(.pwrMode, 2 ^ 31 + 1 * 2 ^ 16)]).portOwn p).fwd = [] := fun _ => rfl
theorem meets_power_paths : PathReaches (up []) .mgc .pwrMode ∧ PathReaches (up []) .mgc (.pwrIclk 63) ∧
    PathReaches (powered (6 * 2 ^ 29) { top := 6 }) .mgc .pwrCmd ∧ PathReaches (up []) .mgc .pwrCmd :=
  ⟨mgc_reaches (by decide +kernel), mgc_reaches (by decide +kernel), mgc_reaches (by decide +kernel), mgc_reaches (by decide +kernel)⟩
/-- What the monitors and the pins may show: all well; a low pin; rail 1 below its warning threshold, below 95 %, or below 88 %;
VDD_MGT at 0. -/
theorem meets_supply :
    let x : Supply := { warnLow := false, failLow := false, rails := [] }
    let d := powered 0 {}
    (∀ n, n < 30 → railAfter d x n = 0) ∧ railAfter d { x with rails := [0, 740] } 1 = 2 ∧
    (∀ m, m < 1 → railAfter d { x with rails := [0, 740] } m < 2) ∧ railAfter d { x with rails := [0, 755] } 1 = 1 ∧
    (∀ n, n < 29 → railAfter d { x with rails := [0, 755] } n < 2) ∧ railAfter d { x with rails := [0, 700] } 1 = 3 ∧
    railAfter d { x with rails := [0, 700] } 29 ≠ 3 ∧ railAfter d { x with rails := List.replicate 30 0 } 29 = 3 ∧
    railLevelOf d 1 < 65536 ∧ d.pwr.failing = false ∧ (powered 0 { failing := true }).pwr.failing = true ∧
    (powered 0 { flush := 1 }).pwr.flush ≠ 0 := by decide +kernel
theorem meets_power_flush :
    let d := powered (2 ^ 28) { top := 5, flush := 2, slot := some 0 }
    let e := powered (2 ^ 28) {}
    d.pwr.flush = 2 ∧ d.rbit .pwrStatus 28 = true ∧ d.pwr.slot = some 0 ∧ slotOf d 0 ≠ 1 ∧ d.rbits .snpCtl 5 4 ≠ 2 ∧
    d.rbit .pwrStatus 27 = false ∧ d.pwr.hot = false ∧ e.rbits .pwrStatus 31 29 = 0 ∧ e.flt.withheld = false ∧ e.lulOn = false ∧
    e.rbits .chrCfg 31 24 ≠ e.rbits .chrCfg 23 16 ∧ (powered 0 {}).rbit .pwrStatus 28 = false ∧ e.waitingWrites = [] := by
  unfold slotOf; decide +kernel
theorem meets_no_region : ∀ w m, w < 72 → m < 32 → (up []).region w m = none :=
  fun _ _ hw hm => region_none (by decide +kernel) hw hm

/-- 111 readings of 25 C, and one sensor at T1, TJMAX and TTRIP of mode 0. -/
def heated (x : Nat) (v : Int) : List W16 := (List.range 111).map (fun i => if i = x then BitVec.ofInt 16 v else 200)
theorem meets_heat :
    let d := up []
    (heated 0 0).length = 111 ∧ tjmaxOf d = 840 ∧ limitOf d 1 = 800 ∧ tripOf d = 920 ∧ Reads (heated 0 800) 0 800 ∧
    Reads (heated 110 840) 110 840 ∧ Reads (heated 5 920) 5 920 ∧ d.pwr.hot = false ∧ d.pwr.top < 5 ∧ d.pwr.tripped = false := by
  refine ⟨by decide +kernel, by decide +kernel, by decide +kernel, by decide +kernel, ?_, ?_, ?_, rfl, by decide, rfl⟩ <;>
    exact ⟨_, rfl, by decide +kernel⟩
theorem meets_heat_below : ∀ k v, Reads (heated 0 800) k v → v < 840 := by
  rintro k v ⟨r, h, rfl⟩
  have hm := List.mem_of_getElem? h
  simp only [heated, List.mem_map] at hm
  obtain ⟨i, _, rfl⟩ := hm
  split <;> decide
theorem meets_heat_reverse :
    let d := { up [(.pwrTemp 5, 200 * 65536)] with pwr := { steps := [(5, 1)] } }
    mapGet (fun _ => 0) d.pwr.steps 5 = 1 ∧ sext 16 (d.rbits (.pwrTemp 5) 31 16) ≤ limitOf d 1 - hystOf d ∧
    mapGet (fun _ => 0) d.pwr.steps 6 = 0 := by decide +kernel

theorem meets_counters :
    let d := { up [(.pmcCtl, 2 ^ 31 + 1), (.pmcTbase, 0xF000000000), (.pmcStatus, 2 ^ 31), (.pmcRbase, 0xF000000000)] with
               pmcOn := 0x7F, pmc := { todo := [8, 16], shadow := [(8 * 16, 5)], lost := [(8, 1)] } }
    let e := { d with pmc := { reset := true } }
    Outside .mgc ∧ ({ todo := [], len := 5 } : Pmc).lostTaken = [] ∧ ({ todo := [], len := 5 } : Pmc).merged = [] ∧
    0 < ({ todo := [], len := 5 } : Pmc).len ∧ d.rbit .pmcCtl 31 = true ∧ d.pmc.reset = false ∧ Counting d 8 ∧ e.pmc.reset = true ∧
    (up []).rbit .pmcCtl 31 = false ∧ d.pmc.todo = 8 :: [16] ∧ lostOf d 8 = 1 ∧ shadowOf d 8 0 = 5 ∧ d.memWf = true ∧
    d.rbit .pmcStatus 31 = true ∧ e.pmc.todo = [] ∧ d.rbits .pmcTbase 47 4 * 16 = 0xF000000000 ∧
    d.rbits .pmcRbase 47 9 * 512 = 0xF000000000 ∧ (up [(.mgcFuse, 2 ^ 31)]).rbit .mgcFuse 31 = true ∧
    d.rbit .mgcFuse 31 = false ∧ bit (ready []).cstatus 9 = false ∧ bit ({ cstatus := 0x202 } : Ctx).cstatus 9 = true := by
  refine ⟨fun c x h => (by cases h), ?_⟩
  unfold Counting; decide +kernel
theorem meets_counters_paths : PathReaches (up []) .mgc .pmcCmd ∧ PathReaches (up []) .mgc .dbgCtl ∧
    PathReaches (up []) .mgc (.trcCtl 511) :=
  ⟨mgc_reaches (by decide +kernel), mgc_reaches (by decide +kernel), mgc_reaches (by decide +kernel)⟩
theorem meets_counters_shadow : ∀ i, shadowOf { up [] with pmc := { shadow := [(8 * 16, 5)] } } 8 i < 2 ^ 32 := by
  intro i
  show mapGet (fun _ => 0) [(8 * 16, 5)] (8 * 16 + i) < 2 ^ 32
  simp only [mapGet]
  split <;> decide
/-- A context that may write everywhere but has no PMC_USER_EN, and one that has it. -/
theorem meets_counters_context :
    let d := ctx0 [] { cstatus := 2, w := wholeWindow }
    let e := ctx0 [] { cstatus := 0x202, w := wholeWindow }
    InWindow (d.ctx 0 0) 1 Reg.pmcCmd.addr 4 ∧ bit (d.ctx 0 0).cstatus 9 = false ∧ (d.ctx 0 0).state ≠ 0 ∧ (d.ctx 0 0).state ≠ 5 ∧
    PathReaches e (.ctx 0 0) .dbgCtl ∧ PathReaches e (.ctx 0 0) (.trcCtl 0) :=
  ⟨⟨0, by decide +kernel⟩, by decide +kernel, by decide +kernel, by decide +kernel,
    ⟨by decide +kernel, by decide +kernel, by decide +kernel⟩, ⟨by decide +kernel, by decide +kernel, by decide +kernel⟩⟩
theorem meets_counters_plain : PlainMemory (up []) 0xF000000000 1075968 :=
  plain_memory (by decide +kernel) (by decide +kernel) (by decide +kernel) rfl (by decide +kernel)

end Sys2Proof.Tests
namespace Sys2Proof.Tests
open Sys2Proof Sys2Proof.Machine Sys2Proof.Claim

/-! ### Hypotheses: the TAP, boot, mailboxes and register access -/

theorem meets_tap :
    let d := up []
    let e := { up [] with badPar := [(0xF000000003, true)] }
    (up [(.mgcFuse, 2 ^ 31)]).rbit .mgcFuse 31 = true ∧ d.rbit .mgcFuse 31 = false ∧ d.memWf = true ∧
    (0xF000000002#48).toNat % 4 ≠ 0 ∧ (0xF000000004#48).toNat % 8 ≠ 0 ∧ isRegSpace 0xE000000000 = false ∧
    d.memOk 0xE000000000 8 = false ∧ d.badAt 0xF000000000 8 = false ∧ e.badAt 0xF000000000 4 = true ∧
    (BitVec.ofNat 48 Reg.timTerrsw.addr).toNat = Reg.timTerrsw.addr ∧
    (∀ c ∈ [0, 1, 2, 3, 4, 5], bits (BitVec.ofNat 120 (c * 2 ^ 112 + 0xF000000000 * 2 ^ 64 + 7)) 115 112 = c) ∧
    bits (BitVec.ofNat 120 (3 * 2 ^ 112 + 0xF000000000 * 2 ^ 64 + 7)) 111 64 = 0xF000000000 ∧
    ({ accRun := true } : Mgc).accRun = true ∧ ({} : Mgc).accRun = false := by decide +kernel
theorem meets_tap_rows : Instr.dbgaccRead64 ∈ debugScans := by simp [debugScans]
theorem meets_tap_plain : PlainMemory (up []) 0xF000000000 8 :=
  plain_memory (by decide +kernel) (by decide +kernel) (by decide +kernel) rfl (by decide +kernel)

/-- SPI NOR whose sector 0 of the repair record ends in the CRC of its content, or in another word. -/
def recorded (content : List Byte) (wrong : Nat) : Dev :=
  { mgc := { spi := mapWrite (fun _ => 0xFF) [] (rrBase 0) (content ++ toBytes 4 ((crc32 content).toNat + wrong)) } }
theorem recorded_bytes {content : List Byte} (h : content.length = 0xFFFC) (wrong : Nat) :
    (recorded content wrong).spiBytes (rrBase 0) 0x10000 = content ++ toBytes 4 ((crc32 content).toNat + wrong) := by
  have hr := mapRead_mapWrite (d := fun _ => (0xFF : Byte)) (m := []) rfl (rrBase 0)
    (content ++ toBytes 4 ((crc32 content).toNat + wrong))
  have hl : (content ++ toBytes 4 ((crc32 content).toNat + wrong)).length = 0x10000 := by simp [h]
  rw [hl] at hr
  exact hr
theorem field_after (bs cs : List Byte) : fieldBytes (bs ++ cs) bs.length cs.length = ofBytes cs := by
  unfold fieldBytes sliceBytes
  congr 1
  apply List.ext_getElem
  · simp
  · intro i h1 h2
    simp only [List.getElem_map, List.getElem_range, List.getD_eq_getElem?_getD]
    rw [List.getElem?_append_right (by omega), Nat.add_sub_cancel_left, List.getElem?_eq_getElem h2]
    rfl
/-- A record in force, and an SPI NOR without one. -/
theorem recorded_valid {content : List Byte} (h : content.length = 0xFFFC) : ∃ n, (recorded content 0).rrSector = some n := by
  have hv : (recorded content 0).rrValid 0 = true := by
    have hb := recorded_bytes h 0
    have hf := field_after content (toBytes 4 ((crc32 content).toNat + 0))
    rw [h, toBytes_length] at hf
    have hc := (crc32 content).isLt
    rw [ofBytes_toBytes, Nat.add_zero, Nat.mod_eq_of_lt (by omega)] at hf
    unfold Dev.rrValid
    show (true && (fieldBytes (Dev.spiBytes _ _ _) 0xFFFC 4 == (crc32 ((Dev.spiBytes _ _ _).take 0xFFFC)).toNat)) = true
    rw [hb, List.take_left' h]
    simp only [Nat.add_zero, hf, beq_self_eq_true, Bool.and_self]
  unfold Dev.rrSector
  rw [hv]
  cases (recorded content 0).rrValid 1 <;> simp
theorem meets_repair_record : ∃ n, (recorded (List.replicate 0xFFFC 0) 0).rrSector = some n := recorded_valid List.length_replicate
theorem meets_repair_record_none : ({ mgc := { spiFitted := false } } : Dev).rrSector = none := by
  simp [Dev.rrSector, Dev.rrValid]

/-- A firmware image of 64 bytes of body under key slot 0. What SHA-384 and ECDSA make of it is not in the spec. -/
def firmware : List Byte :=
  toBytes 4 0x31534B57 ++ [1, 0, 1, 0] ++ toBytes 4 0 ++ toBytes 4 64 ++ toBytes 4 0 ++ toBytes 4 2 ++ List.replicate 552 0
theorem meets_genuine (h3 : Config.sha384 (sliceBytes firmware 112 96) = fusedDigest {} 0)
    (h4 : Config.ecdsaVerify (sliceBytes firmware 112 96) (sliceBytes firmware 208 96) (Config.sha384 (sliceBytes firmware 0 208)) = true)
    (h5 : Config.sha384 (sliceBytes firmware 512 64) = sliceBytes firmware 64 48) : Genuine {} firmware := by
  have zeros : ∀ lo n, lo + n ≤ 576 → 24 ≤ lo → ∀ b ∈ sliceBytes firmware lo n, b = 0 := by
    intro lo n hn hl b hb
    simp only [sliceBytes, List.mem_map, List.mem_range] at hb
    obtain ⟨i, hi, rfl⟩ := hb
    have hs : firmware = firmware.take 24 ++ List.replicate 552 0 := by decide +kernel
    have h24 : (firmware.take 24).length = 24 := by decide +kernel
    rw [hs, List.getD_eq_getElem?_getD, List.getElem?_append_right (by omega), List.getElem?_replicate]
    split <;> rfl
  intro k h1 h7
  have : k = 1 ∨ k = 2 ∨ k = 3 ∨ k = 4 ∨ k = 5 ∨ k = 6 ∨ k = 7 := by omega
  rcases this with rfl | rfl | rfl | rfl | rfl | rfl | rfl
  · show field firmware 0 4 = 0x31534B57
    decide +kernel
  · exact ⟨by decide +kernel, by decide +kernel, by decide +kernel, by decide +kernel, by decide +kernel, by decide +kernel,
      zeros 24 40 (by decide) (by decide), zeros 304 208 (by decide) (by decide)⟩
  · have hz : field firmware 7 1 = 0 := by decide +kernel
    refine ⟨?_, ?_, ?_⟩
    · rw [hz]; decide
    · rw [hz]; decide +kernel
    · rw [hz]; exact h3
  · exact h4
  · have hl : field firmware 12 4 = 64 := by decide +kernel
    show Config.sha384 (sliceBytes firmware 512 (field firmware 12 4)) = _
    rw [hl]; exact h5
  · show ({} : Dev).rbits .mgcFuse 5 0 ≤ field firmware 8 4
    decide +kernel
  · show field firmware 20 4 / 2 % 2 = 1
    decide +kernel
/-- Erased SPI NOR fails the first check; a body longer than R437 allows fails the second. -/
theorem meets_first_fails : FirstFails {} (({} : Dev).spiBytes 0x80000 0x80000) 1 := by
  refine ⟨by decide, by decide, fun j h1 h2 => by omega, ?_⟩
  show ¬ field (({} : Dev).spiBytes 0x80000 0x80000) 0 4 = 0x31534B57
  decide +kernel
theorem meets_boot :
    let d : Dev := { mgc := { waiting := true } }
    bits (0x20#32) 1 0 = 0 ∧ bits (3#32) 1 0 = 3 ∧ bits (0x21#32) 1 0 = 1 ∧ bit (0x21#32) 5 = true ∧ bits (0x22#32) 1 0 = 2 ∧
    bit (1#32) 5 = false ∧ d.mgc.preferred < 2 ∧ d.mgc.spiFitted = true ∧ d.mgc.waiting = true ∧ ({} : Dev).mgc.waiting = false ∧
    ({} : Dev).rbit .mgcFuse 6 = false ∧ ({} : Dev).mgc.spi = [] ∧ d.mgc.dark = false ∧ bit d.mgc.spiErr 2 = false ∧
    bit (4#3) 2 = true ∧ bit (2#3) 1 = true ∧ ({ mgc := { coldWait := true } } : Dev).mgc.coldWait = true := by decide +kernel
/-- A good supply and 111 readings of 25 C, or one of -50 C; a low pin; VDD_MGT at 0. -/
theorem meets_cold_start :
    let x : Supply := { warnLow := false, failLow := false, rails := [] }
    (∀ n, n < 30 → railAfter State.reset.dev x n = 0) ∧ railAfter State.reset.dev { x with rails := List.replicate 30 0 } 29 = 3 ∧
    ¬ -320 ≤ (BitVec.ofInt 16 (-400)).toInt ∧ 111 ≤ (List.replicate 111 (200#16)).length := by decide +kernel
theorem meets_warm_readings : ∀ i, i < 111 → ∀ r, (List.replicate 111 (200#16))[i]? = some r → -320 ≤ r.toInt := by
  intro i _ r h
  rw [List.eq_of_mem_replicate (List.mem_of_getElem? h)]
  decide
theorem meets_warm : ¬ Cold { mgc := { waiting := true } } := by
  rintro ⟨i, hi, hc⟩
  have h : ∀ j < 111, ¬ (BitVec.ofNat 16 (({ mgc := { waiting := true } } : Dev).rbits (.pwrTemp j) 31 16)).toInt < -320 := by
    decide +kernel
  exact h i hi hc
/-- No staging runs; copy 1 is whole, or has been left invalid. -/
theorem meets_copies : ¬ Staging {} ∧ ¬ Broken {} 1 ∧ Broken { mgc := { torn := some 1 } } 1 := by
  have hs : ∀ d : Dev, d.regs = [] → ¬ Staging d := by
    rintro d hd ⟨m, hm, -⟩
    have h0 : ∀ k : Fin 2, ({} : Dev).rbit (.mbxStat k) 31 = false := by decide +kernel
    have he : d.rbit (.mbxStat m) 31 = ({} : Dev).rbit (.mbxStat m) 31 := by unfold Dev.rbit Dev.reg; rw [hd]
    rw [he, h0 m] at hm; cases hm
  refine ⟨hs _ rfl, ?_, Or.inr ⟨hs _ rfl, rfl⟩⟩
  rintro (⟨h, -⟩ | ⟨-, h⟩)
  · exact hs _ rfl h
  · cases h
theorem meets_boot_path : PathReaches { up [] with mgc := { waiting := true } } .mgc .mgcBootcmd := mgc_reaches (by decide +kernel)

/-- Mailbox 1 works on command `n` with an argument. -/
def mailing (n arg : Nat) : Dev := up [(.mbxStat 1, 2 ^ 31 + n), (.mbxArg 1 0, arg)]
theorem meets_mailboxes :
    (∀ n ∈ [1, 2, 3, 4, 5], (mailing n 0).rbit (.mbxStat 1) 31 = true ∧ (mailing n 0).rbits (.mbxStat 1) 7 0 = n) ∧
    (mailing 2 0xFFC0).regN (.mbxArg 1 0) % 2 ^ 32 + 64 ≤ 0x10000 ∧ 0x10000 < (mailing 2 0xFFC1).regN (.mbxArg 1 0) % 2 ^ 32 + 64 ∧
    (mailing 3 511).regN (.mbxArg 1 0) % 2 ^ 32 < 512 ∧ 0x80000 < (mailing 3 0x80001).regN (.mbxArg 1 0) % 2 ^ 32 ∧
    (mailing 4 1).regN (.mbxArg 1 0) % 2 ^ 32 ≤ 1 ∧ 1 < (mailing 4 2).regN (.mbxArg 1 0) % 2 ^ 32 ∧
    (mailing 3 0).mgc.copy ≠ 1 - (mailing 3 0).mgc.preferred ∧ (mailing 4 1).mgc.torn ≠ some 1 ∧
    { mailing 4 1 with mgc := { torn := some 1 } }.mgc.torn = some 1 ∧ (mailing 4 1).mgc.spiFitted = true ∧
    { mailing 4 1 with mgc := { spiFitted := false } }.mgc.spiFitted = false ∧
    { mailing 3 0 with mgc := { copy := 1 } }.mgc.copy = 1 - { mailing 3 0 with mgc := { copy := 1 } }.mgc.preferred ∧ (0xFEFFFFFFFF#48).toNat < 0xFF00000000 ∧
    (BitVec.ofNat 48 Reg.mgcId.addr).toNat = Reg.mgcId.addr := by decide +kernel
/-- A staging buffer that is not an image. -/
theorem meets_not_genuine : ¬ Genuine (mailing 3 512) ((mailing 3 512).physBytes 0xFF00080000 512) := by
  intro h
  have h1 : field ((mailing 3 512).physBytes 0xFF00080000 512) 0 4 = 0x31534B57 := h 1 (by decide) (by decide)
  exact absurd h1 (by decide +kernel)

/-- The MGC reaches every register; a latch and a held word of one, and of none. -/
theorem mgc_arrives {d : Dev} {r : Reg} (h : d.regReach r.addr = true) : Arrives d .mgc r :=
  ⟨rfl, h, fun _ _ _ _ _ _ => rfl⟩
theorem meets_arrives : ∀ r ∈ wideRegs, Arrives (up []) .mgc r :=
  fun r hr => mgc_arrives ((by decide +kernel : ∀ r ∈ wideRegs, (up []).regReach r.addr = true) r hr)
theorem meets_arrives_narrow : (∀ x ∈ rwRegs, Arrives (up []) .mgc x.1) ∧ (∀ x ∈ w1cRegs, Arrives (up []) .mgc x.1) ∧
    (∀ r ∈ roRegs, Arrives (up []) .mgc r) ∧ (∀ x ∈ rcRegs 23 7 1 511, Arrives (up []) .mgc x.1) := by
  have h1 : ∀ x ∈ rwRegs, (up []).regReach x.1.addr = true := by decide +kernel
  have h2 : ∀ x ∈ w1cRegs, (up []).regReach x.1.addr = true := by decide +kernel
  have h3 : ∀ r ∈ roRegs, (up []).regReach r.addr = true := by decide +kernel
  have h4 : ∀ x ∈ rcRegs 23 7 1 511, (up []).regReach x.1.addr = true := by decide +kernel
  exact ⟨fun x hx => mgc_arrives (h1 x hx), fun x hx => mgc_arrives (h2 x hx), fun r hr => mgc_arrives (h3 r hr),
    fun x hx => mgc_arrives (h4 x hx)⟩
theorem meets_latches :
    let n := pathNo .mgc
    let d := { up [] with latches := [(n, some (Reg.chrStep.addr, 5))], heldWrites := [(n, some (Reg.chrStep.addr, 6))] }
    latchOf d .mgc = some (Reg.chrStep.addr, 5) ∧ heldOf d .mgc = some (Reg.chrStep.addr, 6) ∧ latchOf (up []) .mgc = none ∧
    heldOf (up []) .mgc = none := by decide +kernel
theorem meets_address_errors :
    let d := { up [] with mgc := { hostUp := true } }
    d.pathReach .host 0xFF00000028 = true ∧ d.mgc.hostUp = true ∧ d.mgc.limited = false ∧
    (∀ perm, perm ≤ 1 → d.pathStop .host perm 0xFF00000028 4 = none) ∧ d.dieUp 0 = true ∧
    (0xFF00000002#48).toNat % 4 ≠ 0 ∧ (up []).mgc.hostUp = false ∧ d.regReach 0xFF00000028 = true := by decide +kernel

end Sys2Proof.Tests
namespace Sys2Proof.Tests
open Sys2Proof Sys2Proof.Machine Sys2Proof.Claim

/-! ### Worked examples of the spec -/

/-- A block of values and zeros, indexed. -/
def blockFrom (n : Nat) (vs : List (Int × Int)) : List (Val × Nat) :=
  (vs ++ List.replicate (n - vs.length) (0, 0)).map (fun v => (some v, 0))
/-- 02 Table 2.3: BI8 with ties. -/
theorem test_requantize_bi8 :
    let b := requant fBI8 none (blockFrom 32 [(3, 0), (-5, -2), (3, -6), (5, -6), (-5, -6), (5, -9)])
    b.e = 0x80 ∧ b.codes.take 7 = [0x60, 0xD8, 0x02, 0x02, 0xFE, 0x00, 0x00] := by decide +kernel
/-- 02 Table 2.4: BG8 sub-exponents. -/
theorem test_requantize_bg8 :
    let b := requant fBG8 none (blockFrom 16 [(5, 0), (77, -8), (-11, -10), (5, -9)])
    b.e = 0x7F ∧ b.codes.take 4 = [0x53, 0x4D, 0xF4, 0x08] := by decide +kernel
/-- 06 Table 6.3: the ordered combine rounds once. -/
theorem test_scatter_add :
    let sum := [(-5, -13), (10, -3), (3, -8)].foldl addV ((96, -5) : Fin2)
    let b := requant fBI8 none (blockFrom 32 [sum])
    eqV sum (34907, -13) = true ∧ b.e = 0x81 ∧ b.codes.head? = some 0x44 := by decide +kernel
/-- 05, worked example of the soft maximum. -/
theorem test_softmax :
    let r : Fin2 := (14913081, -25)
    let o := softMax (1, 0) [(7, 0), (7, 0), (5, 0)]
    (o.map (fun v => eqV v r), o.map (fun v => eqV v (14913081, -27))) = ([true, true, false], [false, false, true]) ∧
    (softMax (1, 0) [(7, 0), (7, 0), (7, 0)]).all (fun v => eqV v (11184811, -25)) = true := by decide +kernel
/-- 08, after R222: codes 0, 10, 110 and 111. -/
theorem test_canonical_codes :
    let lens := [1, 2, 3] ++ List.replicate 252 0 ++ [3]
    [0, 1, 2, 255].map (tcCode lens) =
      [[false], [true, false], [true, true, false], [true, true, true]] := by decide +kernel
/-- 15 R395: the points of the curve, and 0.655 V at 1.0 GHz. -/
theorem test_voltage_curve :
    [400, 800, 1000, 1200, 1600, 1800, 2000].map vddFor = [600, 630, 655, 680, 750, 820, 900] := by decide +kernel
/-- 12 R320: for N = 6 and k = 2 the pairs are (0, 4), (1, 3) and (2, 5). -/
theorem test_partners : (List.range 6).map (fun i => partnerIndex 6 i 2) = [4, 3, 5, 1, 0, 2] := by decide +kernel
/-- 18, ARB_STATE of CSM bank 5 in cluster 45; 16, the MVE's slot 1 on core 362; 03, the registers of core 362. -/
theorem test_register_addresses :
    (Reg.arbState (45 * 32 + 5)).addr = 0xFF00A0B4B0 ∧ (Reg.pmcCnt 2901 1).addr = 0xFF816A5F04 ∧ coreBase 362 = 0xFF816A0000 := by
  decide +kernel

/-- 07 Table 7.13: the example bundle, with S7 at 41 before it issues. -/
def exampleBundle : List Byte :=
  toBytes 8 0x3039C00000000001 ++ toBytes 8 0xA648800000000040 ++ toBytes 8 0x220C800009023000 ++ toBytes 8 0x440DC30E0004200A
def exampleCore : Dev :=
  { core0 [(.seqCtl 0, 1), (.qcfg 0 0, 2 ^ 31), (.qcfg 0 4, 2 ^ 31)]
      { ctxs := [(0, { cstatus := 0xC02, pc := 0xF000000000, w := wholeWindow, b := [(0, 64), (1, 64 + 4)],
                       s := [(2, 0xF000001000), (7, 41)] })] } with
    mem := mapWrite (fun _ => 0) [] 0xF000000000 exampleBundle }
def after (i : Instr) (d : Dev) : Dev := match exec i { dev := d, pending := [] } with | .next t => t.dev | _ => {}
theorem test_example_bundle :
    let t := after (.bundleIssue 0) exampleCore
    let k := t.ctx 0 0
    k.sreg 7 = 42 ∧ k.pc = 0xF000000020 ∧ k.acc = [.load 9 0xF000001040 8 true 0xF000000000] ∧
    ((t.core 0).queue 0).map (fun c => (c.word, c.sreg 7)) = [(0x220C800009023000, 41)] ∧
    ((t.core 0).queue 4).map (fun c => (c.word, c.sreg (bits c.word 37 33))) = [(0x440DC30E0004200A, 41)] := by decide +kernel
theorem test_example_bundle_bytes : exampleBundle.take 8 = [0x01, 0x00, 0x00, 0x00, 0x00, 0xC0, 0x39, 0x30] := by decide +kernel

/-- 09 Table 9.6: the boundaries that end steps 101 and 102. -/
def boundary (step ls run dec causes : Nat) : Dev :=
  { up [(.chrStep, step), (.chrLscfg, 4 * 65536 + 20 * 256 + 8), (.chrLs, run * 65536 + ls)] with
    chorus := { decision := some (dec, causes) } }
theorem test_loss_scale :
    let t := after .decisionApply (boundary 101 14 3 1 0)
    let u := after .decisionApply (boundary 102 15 0 2 1)
    t.reg .chrDrec = 0x00000065000F0001 ∧ t.regN .chrLs = 15 ∧ t.regN .chrStep = 102 ∧
    u.reg .chrDrec = 0x00000066000E0102 ∧ u.regN .chrLs = 14 ∧ u.regN .chrStep = 103 := by decide +kernel
/-- 14, worked example: FLT_WDLOG after the second watchdog on the GSE of core 362. -/
theorem test_watchdog_log :
    let k : Cmd := { ctx := 40, pc := 0, word := BitVec.ofNat 64 (4 * 2 ^ 61) }
    let p : Episode := { suspects := [12, 40, 75], current := some 40, stored := [{ q := 12, cmd := { k with ctx := 75 } }], step := 10801 }
    let d := { up [(.fltWdcfg, 1), (.seqCtl 362, 1)] with
               cores := [(362, { ctxs := [(40, ready [])], running := [(12, some { cmd := k, fin := .going })] })],
               flt := { episodes := [(362 * 8 + 3, some p)] } }
    (after (.engineWatchdog 362 3) d).reg .fltWdlog = 0xB53A810300002A31 := by decide +kernel
/-- 07 R179: the most negative number by -1, and division by 0. -/
theorem test_scalar_corners :
    let d := ctx0 [] (ready [(1, BitVec.ofInt 64 (-2 ^ 63)), (2, BitVec.ofInt 64 (-1))])
    ((after (.div 0 0 3 1 2) d).ctx 0 0).sreg 3 = BitVec.ofInt 64 (-2 ^ 63) ∧
    ((after (.rem 0 0 3 1 2) d).ctx 0 0).sreg 3 = 0 ∧ ((after (.divu 0 0 3 2 9) d).ctx 0 0).sreg 3 = 0 ∧
    ((after (.remu 0 0 3 2 9) d).ctx 0 0).sreg 3 = BitVec.ofInt 64 (-1) := by decide +kernel

end Sys2Proof.Tests
end

section
/-! Rules for the commands of contexts and queues: bit fields, what a run delivers, what a bundle of state changes leaves of
memory, and one equation per case of the context commands and of a QCFG write. -/

namespace Sys2Proof.Machine

open Sys2Proof Sys2Proof.Claim

/-! ### Bit fields -/

/-- A bit of a field of a word is a bit of the word. -/
theorem testBit_bits {w : Nat} (x : BitVec w) (hi lo j : Nat) :
    (bits x hi lo).testBit j = (decide (j < hi + 1 - lo) && bit x (lo + j)) := by
  simp [bits, bit, Nat.testBit_mod_two_pow, Nat.testBit_shiftRight, BitVec.getLsbD]

/-- A replaced field shows the new value's bits, and every other bit is as it was. -/
theorem bit_setBits {w : Nat} (x : BitVec w) (hi lo v j : Nat) :
    bit (setBits x hi lo v) j =
      if lo ≤ j ∧ j ≤ hi then decide (j < w) && v.testBit (j - lo) else bit x j := by
  have hm : ((2 ^ (hi + 1 - lo) - 1) <<< lo).testBit j = decide (lo ≤ j ∧ j ≤ hi) := by
    rw [Nat.testBit_shiftLeft, Nat.testBit_two_pow_sub_one, ← Bool.decide_and]
    congr 1
    simp only [eq_iff_iff]
    omega
  simp only [bit, setBits, BitVec.getLsbD_or, BitVec.getLsbD_and, BitVec.getLsbD_not, BitVec.getLsbD_ofNat, hm,
    Nat.testBit_shiftLeft]
  by_cases hw : j < w
  · by_cases hj : lo ≤ j ∧ j ≤ hi <;> simp [hw, hj]
  · simp [hw, BitVec.getLsbD_of_ge x j (Nat.le_of_not_lt hw)]

/-- A set bit reads back, and no other bit changes. -/
theorem bit_setBit {w : Nat} (x : BitVec w) {i : Nat} (b : Bool) (j : Nat) (hi : i < w) :
    bit (setBit x i b) j = if j = i then b else bit x j := by
  unfold setBit
  rw [bit_setBits]
  by_cases h : j = i
  · subst h
    cases b <;> simp [hi]
  · rw [if_neg (by omega), if_neg h]

/-- A replaced field reads as the new value, cut to its width. -/
theorem bits_setBits_same {w : Nat} (x : BitVec w) {hi lo : Nat} (v : Nat) (hw : hi < w) :
    bits (setBits x hi lo v) hi lo = v % 2 ^ (hi + 1 - lo) := by
  apply Nat.eq_of_testBit_eq
  intro j
  rw [testBit_bits, bit_setBits, Nat.testBit_mod_two_pow]
  by_cases hj : j < hi + 1 - lo
  · rw [if_pos (by omega)]
    simp [hj, show lo + j < w by omega]
  · simp [hj]

/-- A field within one that has been cleared reads 0. -/
theorem bits_setBits_zero {w : Nat} (x : BitVec w) {hi lo a b : Nat} (h : a ≤ hi) (hl : lo ≤ b) :
    bits (setBits x hi lo 0) a b = 0 := by
  apply Nat.eq_of_testBit_eq
  intro j
  rw [testBit_bits, bit_setBits]
  by_cases hj : j < a + 1 - b
  · rw [if_pos (by omega)]
    simp
  · simp [hj]

/-- STATE as set is what STATE reads. -/
theorem Ctx.state_setState (k : Ctx) {v : Nat} (h : v < 8) : (k.setState v).state = v := by
  unfold Ctx.state Ctx.setState
  rw [bits_setBits_same _ _ (by omega)]
  exact Nat.mod_eq_of_lt h

/-! ### What a command finds, and what leaves with its messages -/

@[simp] theorem Dev.reg_fresh (d : Dev) (r : Reg) : d.fresh.reg r = d.reg r := rfl
@[simp] theorem Dev.rbit_fresh (d : Dev) (r : Reg) (i : Nat) : d.fresh.rbit r i = d.rbit r i := rfl
@[simp] theorem Dev.core_fresh (d : Dev) (c : Nat) : d.fresh.core c = d.core c := rfl
@[simp] theorem Dev.ctx_fresh (d : Dev) (c x : Nat) : d.fresh.ctx c x = d.ctx c x := rfl

/-- The device with other outputs: what delivering messages makes of it (Dev.deliver_eq). -/
def Dev.withOutputs (d : Dev) (o : List Out) (p : List (Nat × Bool)) : Dev := { d with outbox := o, msixPend := p }

@[simp] theorem Dev.reg_withOutputs (d : Dev) (o : List Out) (p : List (Nat × Bool)) (r : Reg) :
    (d.withOutputs o p).reg r = d.reg r := by
  unfold Dev.reg Dev.withOutputs
  rfl
@[simp] theorem Dev.core_withOutputs (d : Dev) (o : List Out) (p : List (Nat × Bool)) (c : Nat) :
    (d.withOutputs o p).core c = d.core c := by
  unfold Dev.core Dev.withOutputs
  rfl
@[simp] theorem Dev.ctx_withOutputs (d : Dev) (o : List Out) (p : List (Nat × Bool)) (c x : Nat) :
    (d.withOutputs o p).ctx c x = d.ctx c x := by
  unfold Dev.ctx Dev.core Dev.withOutputs
  rfl

/-- A command that runs a function which makes no trace event meets what holds of the function's result, whatever its
outputs are. -/
theorem runs_of_run {i : Instr} {s : State} {f : Dev → Dev} {P : Dev → Prop} (hi : exec i s = s.run f)
    (hq : (f s.dev.fresh).traceQ = []) (hP : ∀ o p, P ((f s.dev.fresh).withOutputs o p)) : Runs i s P := by
  obtain ⟨o, p, h⟩ := Dev.deliver_eq s.dev (f s.dev.fresh)
  refine ⟨_, hi.trans (s.run_next f), rfl, ?_⟩
  rw [Dev.traceFlush_none _ hq, h]
  exact hP o p

/-! ### Frames: nothing but registers, nothing but cores -/

theorem onlyRegs_fresh (d : Dev) : OnlyRegs d d.fresh := rfl

theorem onlyRegs_setReg {d t : Dev} (h : OnlyRegs d t) (r : Reg) (v : W64) : OnlyRegs d (t.setReg r v) := by
  unfold OnlyRegs at *
  rw [h]
  rfl

theorem onlyRegs_withOutputs {d t : Dev} (h : OnlyRegs d t) (o : List Out) (p : List (Nat × Bool)) :
    OnlyRegs d (t.withOutputs o p) := by
  unfold OnlyRegs at *
  rw [h]
  rfl

theorem onlyCores_fresh (d : Dev) : OnlyCores d d.fresh := rfl

theorem onlyCores_setCore {d t : Dev} (h : OnlyCores d t) (c : Nat) (k : Core) : OnlyCores d (t.setCore c k) := by
  unfold OnlyCores at *
  rw [h]
  rfl

theorem onlyCores_onCore {d t : Dev} (h : OnlyCores d t) (c : Nat) (f : Core → Core) : OnlyCores d (t.onCore c f) :=
  onlyCores_setCore h c (f (t.core c))

theorem onlyCores_setCtx {d t : Dev} (h : OnlyCores d t) (c x : Nat) (v : Ctx) : OnlyCores d (t.setCtx c x v) :=
  onlyCores_setCore h c ((t.core c).setCtx x v)

theorem onlyCores_withOutputs {d t : Dev} (h : OnlyCores d t) (o : List Out) (p : List (Nat × Bool)) :
    OnlyCores d (t.withOutputs o p) := by
  unfold OnlyCores at *
  rw [h]
  rfl

/-! ### Memory reads as before -/

/-- Physical memory, and every register below the arbiters' block, as before: the page map lies there (09 R249). -/
def MapKept (d t : Dev) : Prop := t.mem = d.mem ∧ ∀ r : Reg, r.addr < 0xFF00A00000 → t.reg r = d.reg r

theorem MapKept.trans {d t u : Dev} (h : MapKept d t) (g : MapKept t u) : MapKept d u :=
  ⟨g.1.trans h.1, fun r hr => (g.2 r hr).trans (h.2 r hr)⟩

/-- Nothing that memory is read through differs. -/
theorem MapKept.of_eq {d t : Dev} (hm : t.mem = d.mem) (hr : t.regs = d.regs) : MapKept d t :=
  ⟨hm, fun r _ => by simp only [Dev.reg, hr]⟩

/-- A register above the page map's is set. -/
theorem MapKept.setReg {d t : Dev} (h : MapKept d t) {r : Reg} (v : W64) (hr : 0xFF00A00000 ≤ r.addr) :
    MapKept d (t.setReg r v) :=
  h.trans ⟨rfl, fun _ hq => Dev.reg_setReg_other t v (by omega)⟩

theorem MapKept.onCore {d t : Dev} (h : MapKept d t) (c : Nat) (f : Core → Core) : MapKept d (t.onCore c f) :=
  h.trans (.of_eq rfl rfl)

theorem MapKept.setCtx {d t : Dev} (h : MapKept d t) (c x : Nat) (v : Ctx) : MapKept d (t.setCtx c x v) :=
  h.trans (.of_eq rfl rfl)

theorem MapKept.withOutputs {d t : Dev} (h : MapKept d t) (o : List Out) (p : List (Nat × Bool)) :
    MapKept d (t.withOutputs o p) :=
  h.trans (.of_eq rfl rfl)

/-- The unit of a region's address has its entries in the page map (09 R249). -/
theorem unitOf_lt {a u : Nat} (h : unitOf a = some u) : u < 72 := by
  unfold unitOf stackSize at h
  split at h
  · cases h; omega
  · split at h
    · cases h; omega
    · split at h
      · cases h; omega
      · cases h

theorem MapKept.region {d t : Dev} (h : MapKept d t) {u n : Nat} (hu : u < 72) (hn : n < 32) :
    t.region u n = d.region u n := by
  have hc : t.reg (.pregCfg u n) = d.reg (.pregCfg u n) := h.2 _ (by simp only [Reg.addr]; omega)
  have hs : t.reg (.pregStat u n) = d.reg (.pregStat u n) := h.2 _ (by simp only [Reg.addr]; omega)
  simp only [Dev.region, Dev.rbits, hc, hs]

theorem MapKept.regionsOf {d t : Dev} (h : MapKept d t) {u : Nat} (hu : u < 72) : t.regionsOf u = d.regionsOf u := by
  suffices hl : ∀ l : List Nat, (∀ n ∈ l, n < 32) → l.filterMap (t.region u) = l.filterMap (d.region u) from
    hl _ fun _ hn => List.mem_range.mp hn
  intro l hl
  induction l with
  | nil => rfl
  | cons n l ih =>
    rw [List.filterMap_cons, List.filterMap_cons, h.region hu (hl n List.mem_cons_self),
      ih fun m hm => hl m (List.mem_cons_of_mem n hm)]

theorem MapKept.regionAt {d t : Dev} (h : MapKept d t) (a : Nat) : t.regionAt a = d.regionAt a := by
  unfold Dev.regionAt
  cases hu : unitOf a with
  | none => rfl
  | some u =>
    simp only [h.regionsOf (unitOf_lt hu)]

/-- Memory reads as before where physical memory and the page map stand. -/
theorem MapKept.memorySame {d t : Dev} (h : MapKept d t) : MemorySame d t := by
  intro a
  simp only [Dev.bytesAt, Dev.physOf, Dev.physBytes, h.1, h.regionAt]

/-- The registers of a core lie above the page map. -/
theorem coreBase_high (c : Nat) : 0xFF80000000 ≤ coreBase c := by unfold coreBase; omega

/-! ### One context changes -/

/-- A command that writes one context, and nothing else. -/
theorem runs_setCtx {i : Instr} {s : State} {f : Dev → Dev} {P : Dev → Prop} {c x : Nat} {v : Ctx} (hi : exec i s = s.run f)
    (hf : f s.dev.fresh = s.dev.fresh.setCtx c x v)
    (hP : ∀ t, OnlyCores s.dev t → MemorySame s.dev t → CtxOnly s.dev t c x → t.ctx c x = v → P t) : Runs i s P := by
  refine runs_of_run hi (by rw [hf]; rfl) fun o p => ?_
  rw [hf]
  refine hP _ (onlyCores_withOutputs (onlyCores_setCtx (onlyCores_fresh _) c x v) o p)
    (MapKept.of_eq rfl rfl).memorySame ⟨fun e he => ?_, ?_, fun y hy => ?_⟩ ?_
  · exact Dev.core_setCore_other s.dev.fresh _ he
  · simp only [Dev.setCtx, Dev.core_withOutputs, Dev.core_setCore_same, Dev.core_fresh]
    rfl
  · exact Dev.ctx_setCtx_other s.dev.fresh c v hy
  · exact Dev.ctx_setCtx_same s.dev.fresh c x v

end Sys2Proof.Machine
end

section
/-! The context commands of 03 R57, and what a context reset leaves of its core (14 R369). -/

namespace Sys2Proof.Machine

open Sys2Proof Sys2Proof.Claim

/-! ### Stopping work touches the engines alone -/

/-- Of a core nothing but the engines and the chains differs. -/
def EnginesOnly (k e : Core) : Prop := e = { k with mxe := e.mxe, vxe := e.vxe, gse := e.gse, chains := e.chains }

theorem EnginesOnly.refl (k : Core) : EnginesOnly k k := rfl

theorem EnginesOnly.trans {k e f : Core} (h : EnginesOnly k e) (g : EnginesOnly e f) : EnginesOnly k f := by
  unfold EnginesOnly at *
  rw [h] at g
  exact g

/-- Steps that each touch the engines alone do so together. -/
theorem EnginesOnly.foldl {α : Type} {f : Core → α → Core} (hf : ∀ e a, EnginesOnly e (f e a)) (l : List α) (k : Core) :
    EnginesOnly k (l.foldl f k) := by
  induction l generalizing k with
  | nil => exact .refl k
  | cons a l ih => exact (hf k a).trans (ih (f k a))

theorem Core.zeroTrs_enginesOnly (k : Core) (tr span : Nat) : EnginesOnly k (k.zeroTrs tr span) := by
  unfold Core.zeroTrs
  split
  · rfl
  · exact .foldl (fun _ _ => by rfl) _ k

theorem Core.stopChain_enginesOnly (k : Core) (q : Nat) : EnginesOnly k (k.stopChain q) := by
  unfold Core.stopChain
  split
  · rfl
  · rfl

/-- What a stopped command leaves differs in the engines alone (04 R109; 05 R142; 06 R171; 08 R212). -/
theorem Core.stopCmd_enginesOnly (k : Core) (q : Nat) (r : Run) : EnginesOnly k (k.stopCmd q r) := by
  unfold Core.stopCmd
  dsimp only
  -- The cases are the rows of Core.stopCmd in order; all but these are one update.
  split
  case h_2 | h_3 => exact .foldl (fun _ _ => by rfl) _ k
  case h_13 => exact k.zeroTrs_enginesOnly _ _
  case h_14 | h_17 =>
    split
    · rfl
    · rfl
  case h_19 =>
    split
    · split
      · rfl
      · split
        · rfl
        · rfl
    · rfl
  case h_21 => exact k.stopChain_enginesOnly q
  all_goals rfl

/-! ### The work of a context leaves its core's queues -/

@[simp] theorem Core.queue_setQueue_same (k : Core) (q : Nat) (l : List Cmd) : (k.setQueue q l).queue q = l := by
  simp [Core.queue, Core.setQueue]

theorem Core.queue_setQueue_other (k : Core) {q j : Nat} (l : List Cmd) (h : j ≠ q) :
    (k.setQueue q l).queue j = k.queue j := by
  simp [Core.queue, Core.setQueue, mapGet_mapSet_other _ _ h]

@[simp] theorem Core.runs_setRuns_same (k : Core) (q : Nat) (rs : List Run) : (k.setRuns q rs).runs q = rs := by
  cases rs <;> simp [Core.runs, Core.run, Core.setRuns, Core.setRun]

theorem Core.runs_setRuns_other (k : Core) {q j : Nat} (rs : List Run) (h : j ≠ q) :
    (k.setRuns q rs).runs j = k.runs j := by
  simp [Core.runs, Core.run, Core.setRuns, Core.setRun, mapGet_mapSet_other _ _ h]

/-- The core without the queued commands of context `x` in queue `q`: the first half of a step of Core.removeWork. -/
def Core.dropQueued (x : Nat) (k : Core) (q : Nat) : Core :=
  if (k.queue q).any (fun c => c.ctx = x) then k.setQueue q ((k.queue q).filter (fun c => c.ctx ≠ x)) else k

/-- The core without the running commands of context `x` of queue `q`, which stop: its second half. -/
def Core.dropRunning (x : Nat) (k : Core) (q : Nat) : Core :=
  if k.anyRun q (fun r => r.cmd.ctx == x) then
    ((k.runs q).foldl (fun (e : Core) r =>
      if r.cmd.ctx = x then (if r.fin.failed && q / 4 < 3 then e else e.stopCmd q r) else e) k).setRuns q
        ((k.runs q).filter (fun r => r.cmd.ctx ≠ x))
  else k

theorem Core.removeWork_eq_foldl (k : Core) (x : Nat) :
    k.removeWork x = (List.range 20).foldl (fun e q => (e.dropQueued x q).dropRunning x q) k := rfl

/-- Whether context `x` has a command queued or running on queue `q`: Core.hasWork asks it of every queue. -/
def Core.worksAt (k : Core) (x q : Nat) : Bool :=
  (k.queue q).any (fun c => c.ctx == x) || k.anyRun q (fun r => r.cmd.ctx == x)

theorem Core.hasWork_eq_any (k : Core) (x : Nat) : k.hasWork x = (List.range 20).any (k.worksAt x) := rfl

theorem Core.worksAt_eq_false {k : Core} {x q : Nat} :
    k.worksAt x q = false ↔ (∀ c ∈ k.queue q, c.ctx ≠ x) ∧ ∀ r ∈ k.runs q, r.cmd.ctx ≠ x := by
  simp [Core.worksAt, Core.anyRun]

/-- Contexts and leases are not touched. -/
def HoldersKept (k e : Core) : Prop := e.ctxs = k.ctxs ∧ e.leases = k.leases

theorem EnginesOnly.holdersKept {k e : Core} (h : EnginesOnly k e) : HoldersKept k e := by
  unfold EnginesOnly at h
  rw [h]
  exact ⟨rfl, rfl⟩

theorem EnginesOnly.queue {k e : Core} (h : EnginesOnly k e) (q : Nat) : e.queue q = k.queue q := by
  unfold EnginesOnly at h
  rw [h]
  rfl

theorem EnginesOnly.runs {k e : Core} (h : EnginesOnly k e) (q : Nat) : e.runs q = k.runs q := by
  unfold EnginesOnly at h
  rw [h]
  rfl

theorem Core.dropQueued_holdersKept (k : Core) (x q : Nat) : HoldersKept k (k.dropQueued x q) := by
  unfold Core.dropQueued
  split <;> exact ⟨rfl, rfl⟩

theorem Core.dropQueued_runs (k : Core) (x q j : Nat) : (k.dropQueued x q).runs j = k.runs j := by
  unfold Core.dropQueued
  split <;> rfl

theorem Core.dropQueued_queue (k : Core) (x q j : Nat) :
    (k.dropQueued x q).queue j = if j = q then (k.queue q).filter (fun c => c.ctx ≠ x) else k.queue j := by
  unfold Core.dropQueued
  by_cases hj : j = q
  · subst hj
    rw [if_pos rfl]
    split
    · rw [Core.queue_setQueue_same]
    · next h => exact (List.filter_eq_self.mpr (by simpa using h)).symm
  · rw [if_neg hj]
    split
    · exact k.queue_setQueue_other _ hj
    · rfl

/-- Stopping the running commands of a context touches the engines alone. -/
theorem Core.stopRuns_enginesOnly (k : Core) (x q : Nat) (l : List Run) :
    EnginesOnly k (l.foldl (fun (e : Core) r =>
      if r.cmd.ctx = x then (if r.fin.failed && q / 4 < 3 then e else e.stopCmd q r) else e) k) := by
  refine .foldl (fun e r => ?_) l k
  split
  · split
    · exact .refl e
    · exact e.stopCmd_enginesOnly q r
  · exact .refl e

theorem Core.dropRunning_holdersKept (k : Core) (x q : Nat) : HoldersKept k (k.dropRunning x q) := by
  unfold Core.dropRunning
  split
  · exact (k.stopRuns_enginesOnly x q (k.runs q)).holdersKept
  · exact ⟨rfl, rfl⟩

theorem Core.dropRunning_queue (k : Core) (x q j : Nat) : (k.dropRunning x q).queue j = k.queue j := by
  unfold Core.dropRunning
  split
  · exact (k.stopRuns_enginesOnly x q (k.runs q)).queue j
  · rfl

theorem Core.dropRunning_runs (k : Core) (x q j : Nat) :
    (k.dropRunning x q).runs j = if j = q then (k.runs q).filter (fun r => r.cmd.ctx ≠ x) else k.runs j := by
  unfold Core.dropRunning
  by_cases hj : j = q
  · subst hj
    rw [if_pos rfl]
    split
    · rw [Core.runs_setRuns_same]
    · next h => exact (List.filter_eq_self.mpr (by simpa [Core.anyRun] using h)).symm
  · rw [if_neg hj]
    split
    · exact (Core.runs_setRuns_other _ _ hj).trans ((k.stopRuns_enginesOnly x q (k.runs q)).runs j)
    · rfl

/-- A step of Core.removeWork frees its queue of the context, and gives no other queue work. -/
theorem Core.worksAt_drop {k : Core} {x q j : Nat} (h : j = q ∨ k.worksAt x j = false) :
    ((k.dropQueued x q).dropRunning x q).worksAt x j = false := by
  rw [Core.worksAt_eq_false, Core.dropRunning_queue, Core.dropQueued_queue, Core.dropRunning_runs, Core.dropQueued_runs,
    Core.dropQueued_runs]
  by_cases hj : j = q
  · simp [hj]
  · rw [if_neg hj, if_neg hj]
    exact Core.worksAt_eq_false.mp (h.resolve_left hj)

/-- Steps over a list of queues free all of them. -/
theorem Core.worksAt_foldl_drop (l : List Nat) {k : Core} {x j : Nat} (h : j ∈ l ∨ k.worksAt x j = false) :
    (l.foldl (fun e q => (e.dropQueued x q).dropRunning x q) k).worksAt x j = false := by
  induction l generalizing k with
  | nil => exact h.resolve_left List.not_mem_nil
  | cons q l ih =>
    apply ih
    rcases h with hm | hw
    · rcases List.mem_cons.mp hm with hj | hl
      · exact .inr (Core.worksAt_drop (.inl hj))
      · exact .inl hl
    · exact .inr (Core.worksAt_drop (.inr hw))

/-- The work of a context has left the engines (14 R369). -/
theorem Core.removeWork_hasWork (k : Core) (x : Nat) : (k.removeWork x).hasWork x = false := by
  rw [Core.hasWork_eq_any, List.any_eq_false]
  intro q hq
  rw [Core.removeWork_eq_foldl, Core.worksAt_foldl_drop _ (.inl hq)]
  exact Bool.false_ne_true

/-- Its removal touches neither contexts nor leases. -/
theorem Core.removeWork_holdersKept (k : Core) (x : Nat) : HoldersKept k (k.removeWork x) := by
  suffices h : ∀ (l : List Nat) (e : Core), HoldersKept k e →
      HoldersKept k (l.foldl (fun e q => (e.dropQueued x q).dropRunning x q) e) from h _ _ ⟨rfl, rfl⟩
  intro l
  induction l with
  | nil => exact fun _ h => h
  | cons q l ih =>
    intro e he
    apply ih
    have h1 := e.dropQueued_holdersKept x q
    have h2 := (e.dropQueued x q).dropRunning_holdersKept x q
    exact ⟨h2.1.trans (h1.1.trans he.1), h2.2.trans (h1.2.trans he.2)⟩

/-! ### Leases of a context -/

theorem Core.lease_setLease (k : Core) (u v : Nat) (l : Lease) :
    (k.setLease u l).lease v = if v = u then l else k.lease v := by
  simp [Core.lease, Core.setLease, mapGet_mapSet]

/-- The lease as a context that gives up its leases leaves it (03 R57). -/
def Lease.without (l : Lease) (x : Nat) : Lease :=
  let o := if l.owner = some x then none else l.owner
  { owner := o, released := l.released && o.isSome, waiters := l.waiters.filter (· ≠ x) }

theorem Lease.without_owner (l : Lease) (x : Nat) : (l.without x).owner ≠ some x := by
  unfold Lease.without
  dsimp only
  split
  · exact Option.some_ne_none x |>.symm
  · assumption

/-- The core whose three leases are as context `x` leaves them. -/
def Core.leasesWithout (k : Core) (x : Nat) : Core :=
  leaseUnits.foldl (fun e u => e.setLease u ((e.lease u).without x)) k

theorem Core.dropLeases_eq (k : Core) (x : Nat) :
    k.dropLeases x =
      (k.leasesWithout x).setCtx x { (k.leasesWithout x).ctx x with
        cstatus := ((k.leasesWithout x).ctx x).cstatus &&& ~~~(BitVec.ofNat 64 0x1C00) } := rfl

theorem Core.ctx_setLease (k : Core) (u x : Nat) (l : Lease) : (k.setLease u l).ctx x = k.ctx x := rfl

theorem Core.ctx_leasesWithout (k : Core) (x y : Nat) : (k.leasesWithout x).ctx y = k.ctx y := by
  simp only [Core.leasesWithout, leaseUnits, List.foldl, Core.ctx_setLease]

/-- A context that has given up its leases holds none. -/
theorem Core.dropLeases_owner (k : Core) {x u : Nat} (hu : u ∈ [0, 1, 3]) : ((k.dropLeases x).lease u).owner ≠ some x := by
  have hl : (k.dropLeases x).lease u = (k.leasesWithout x).lease u := rfl
  rw [hl]
  simp only [List.mem_cons, List.not_mem_nil, or_false] at hu
  rcases hu with rfl | rfl | rfl <;>
    simpa [Core.leasesWithout, leaseUnits, Core.lease_setLease] using Lease.without_owner _ x

theorem Core.hasWork_setCtx (k : Core) (x y : Nat) (v : Ctx) : (k.setCtx x v).hasWork y = k.hasWork y := rfl
theorem Core.lease_setCtx (k : Core) (x u : Nat) (v : Ctx) : (k.setCtx x v).lease u = k.lease u := rfl
theorem Core.dropLeases_hasWork (k : Core) (x : Nat) : (k.dropLeases x).hasWork x = k.hasWork x := rfl

end Sys2Proof.Machine
end

section
/-! What each context command does (03 R57), and the claim on context commands. -/

namespace Sys2Proof.Machine

open Sys2Proof Sys2Proof.Claim

/-! ### A context reset (14 R369) -/

/-- Lowering a core's arbiter line changes registers and the arbiters' ages alone. -/
theorem Dev.arbDrop_eq (d : Dev) (i r : Nat) :
    ∃ rs as, d.arbDrop i r = { d with regs := rs, arbs := as } ∧ MapKept d (d.arbDrop i r) := by
  have hi : 0xFF00A00000 ≤ (Reg.arbState i).addr := by simp only [Reg.addr]; omega
  unfold Dev.arbDrop
  dsimp only
  split
  · exact ⟨d.regs, d.arbs, rfl, .of_eq rfl rfl⟩
  · split
    · exact ⟨_, d.arbs, rfl, (MapKept.of_eq rfl rfl).setReg _ hi⟩
    · split
      · exact ⟨_, _, rfl, MapKept.setReg (.of_eq rfl rfl) _ hi⟩
      · exact ⟨_, d.arbs, rfl, (MapKept.of_eq rfl rfl).setReg _ hi⟩

theorem Dev.arbDropCore_eq (d : Dev) (c : Nat) :
    ∃ rs as, d.arbDropCore c = { d with regs := rs, arbs := as } ∧ MapKept d (d.arbDropCore c) := by
  suffices h : ∀ (l : List Nat) (e : Dev), ∃ rs as,
      l.foldl (fun (e : Dev) k => e.arbDrop (c / 8 * 32 + k) (c % 8)) e = { e with regs := rs, arbs := as } ∧
      MapKept e (l.foldl (fun (e : Dev) k => e.arbDrop (c / 8 * 32 + k) (c % 8)) e) from h _ d
  intro l
  induction l with
  | nil => exact fun e => ⟨e.regs, e.arbs, rfl, .of_eq rfl rfl⟩
  | cons k l ih =>
    intro e
    obtain ⟨rs, as, he, hk⟩ := e.arbDrop_eq (c / 8 * 32 + k) (c % 8)
    obtain ⟨rs', as', he', hk'⟩ := ih (e.arbDrop (c / 8 * 32 + k) (c % 8))
    refine ⟨rs', as', he'.trans ?_, hk.trans hk'⟩
    rw [he]

@[simp] theorem Dev.arbDropCore_core (d : Dev) (c e : Nat) : (d.arbDropCore c).core e = d.core e := by
  obtain ⟨rs, as, h, -⟩ := d.arbDropCore_eq c
  rw [h]
  rfl

@[simp] theorem Dev.arbDropCore_traceQ (d : Dev) (c : Nat) : (d.arbDropCore c).traceQ = d.traceQ := by
  obtain ⟨rs, as, h, -⟩ := d.arbDropCore_eq c
  rw [h]

theorem Dev.arbDropCore_mapKept (d : Dev) (c : Nat) : MapKept d (d.arbDropCore c) := by
  obtain ⟨-, -, -, h⟩ := d.arbDropCore_eq c
  exact h

@[simp] theorem Dev.dropPosts_core (d : Dev) (c x e : Nat) : (d.dropPosts c x).core e = d.core e := rfl
@[simp] theorem Dev.dropPosts_traceQ (d : Dev) (c x : Nat) : (d.dropPosts c x).traceQ = d.traceQ := rfl
@[simp] theorem Dev.dropStored_core (d : Dev) (c x e : Nat) : (d.dropStored c x).core e = d.core e := rfl
@[simp] theorem Dev.dropStored_traceQ (d : Dev) (c x : Nat) : (d.dropStored c x).traceQ = d.traceQ := rfl

/-- The device whose core has lost the work and the leases of context `x`, with its arbiter lines lowered: a context reset
before it writes the context. -/
def Dev.withdrawCtx (d : Dev) (c x : Nat) : Dev :=
  (((d.dropPosts c x).dropStored c x).onCore c (fun k => (k.removeWork x).dropLeases x)).arbDropCore c

theorem Dev.withdrawCtx_core (d : Dev) (c x : Nat) :
    (d.withdrawCtx c x).core c = ((d.core c).removeWork x).dropLeases x := by
  rw [Dev.withdrawCtx, Dev.arbDropCore_core, Dev.onCore, Dev.core_setCore_same, Dev.dropStored_core, Dev.dropPosts_core]

theorem Dev.withdrawCtx_traceQ (d : Dev) (c x : Nat) : (d.withdrawCtx c x).traceQ = d.traceQ := by
  rw [Dev.withdrawCtx, Dev.arbDropCore_traceQ, Dev.onCore, Dev.setCore_traceQ, Dev.dropStored_traceQ, Dev.dropPosts_traceQ]

theorem Dev.withdrawCtx_mapKept (d : Dev) (c x : Nat) : MapKept d (d.withdrawCtx c x) := by
  have h : MapKept d ((d.dropPosts c x).dropStored c x) := .of_eq rfl rfl
  exact (h.onCore c _).trans (Dev.arbDropCore_mapKept _ c)

theorem Dev.withdrawCtx_ctx (d : Dev) (c x : Nat) :
    ((d.withdrawCtx c x).ctx c x).s = (d.ctx c x).s ∧ ((d.withdrawCtx c x).ctx c x).pc = (d.ctx c x).pc := by
  have h : ((d.core c).removeWork x).ctx x = d.ctx c x := by
    simp only [Core.ctx, Dev.ctx, ((d.core c).removeWork_holdersKept x).1]
  rw [Dev.ctx, Dev.withdrawCtx_core, Core.dropLeases_eq, Core.ctx_setCtx_same, Core.ctx_leasesWithout, h]
  exact ⟨rfl, rfl⟩

/-- The context as a reset leaves it, `st` being the state that it finds it in: RESETTING, waiting for nothing, with what the
replay of its episode needs, and without its pending pushes and pops (14 R369, R370). -/
def Ctx.resetting (k : Ctx) (st : Nat) : Ctx :=
  let again := st == 1 && k.prior != 0
  { k.setState 5 with
    prior := if again then k.prior else st
    priorWait := if again then k.priorWait else k.wait
    priorGates := if again then k.priorGates else k.gated
    wait := 0, gated := [], held := false,
    acc := k.acc.filter (fun a => match a with | .push .. => false | .pop .. => false | _ => true) }

theorem Ctx.resetting_state (k : Ctx) (st : Nat) : (k.resetting st).state = 5 := k.state_setState (by omega)
theorem Ctx.resetting_s (k : Ctx) (st : Nat) : (k.resetting st).s = k.s := rfl
theorem Ctx.resetting_pc (k : Ctx) (st : Nat) : (k.resetting st).pc = k.pc := rfl

/-- A context reset withdraws the context and writes its entry. -/
theorem Dev.resetCtx_eq (d : Dev) (c x : Nat) :
    d.resetCtx c x =
      (d.withdrawCtx c x).setCtx c x (((d.withdrawCtx c x).ctx c x).resetting (d.ctx c x).state) := by
  unfold Dev.resetCtx Dev.withdrawCtx Dev.onCtx
  rfl

/-! ### Each command, on a context that exists (03 Table 3.2) -/

section
variable (d : Dev) (c : Nat) {x : Nat}

theorem Dev.ctxcmd_of_no_context (op : Nat) (hx : 80 ≤ x) : d.ctxcmd c x op = d.cmdRej c := by simp [Dev.ctxcmd, hx]

theorem Dev.ctxcmd_alloc (hx : x < 80) :
    d.ctxcmd c x 1 = if (d.ctx c x).state = 0 then d.setCtx c x { cstatus := 1 } else d.cmdRej c := by
  simp [Dev.ctxcmd, Nat.not_le.mpr hx]

theorem Dev.ctxcmd_start (hx : x < 80) :
    d.ctxcmd c x 2 = if (d.ctx c x).state = 1 then d.setCtx c x ((d.ctx c x).setState 2) else d.cmdRej c := by
  simp [Dev.ctxcmd, Nat.not_le.mpr hx]

theorem Dev.ctxcmd_halt (hx : x < 80) (ha : (d.ctx c x).a1c = false) :
    d.ctxcmd c x 3 =
      if (d.ctx c x).state = 2 ∨ (d.ctx c x).state = 3 then d.setCtx c x ((d.ctx c x).setState 1) else d.cmdRej c := by
  simp [Dev.ctxcmd, Nat.not_le.mpr hx, ha]

theorem Dev.ctxcmd_halt_rejected (hx : x < 80) (h2 : (d.ctx c x).state ≠ 2) (h3 : (d.ctx c x).state ≠ 3) :
    d.ctxcmd c x 3 = d.cmdRej c := by
  simp [Dev.ctxcmd, Nat.not_le.mpr hx, h2, h3]

theorem Dev.ctxcmd_resume (hx : x < 80) :
    d.ctxcmd c x 4 =
      if (d.ctx c x).state = 4 then d.setCtx c x { (d.ctx c x).setState 2 with held := false } else d.cmdRej c := by
  simp [Dev.ctxcmd, Nat.not_le.mpr hx]

theorem Dev.ctxcmd_reset (hx : x < 80) :
    d.ctxcmd c x 5 =
      if (d.ctx c x).state ≠ 0 ∧ (d.ctx c x).state ≠ 5 then d.resetCtx c x else d.cmdRej c := by
  simp [Dev.ctxcmd, Nat.not_le.mpr hx]

theorem Dev.ctxcmd_free (hx : x < 80) :
    d.ctxcmd c x 6 =
      if (d.ctx c x).state = 1 then (d.onCore c (fun e => e.dropLeases x)).setCtx c x {} else d.cmdRej c := by
  simp [Dev.ctxcmd, Nat.not_le.mpr hx]

end

/-! ### Their meanings (03 R57; 14 R369) -/

theorem exec_ctxcmdAlloc (c : CoreId) (x : BitVec 7) (s : State) :
    exec (.ctxcmdAlloc c x) s = s.run (fun d => d.ctxcmd c x.toNat 1) := rfl

theorem exec_ctxcmdStart (c : CoreId) (x : BitVec 7) (s : State) :
    exec (.ctxcmdStart c x) s = s.run (fun d => d.ctxcmd c x.toNat 2) := rfl

theorem exec_ctxcmdHalt (c : CoreId) (x : BitVec 7) (s : State) :
    exec (.ctxcmdHalt c x) s = s.run (fun d => d.ctxcmd c x.toNat 3) := rfl

theorem exec_ctxcmdResume (c : CoreId) (x : BitVec 7) (s : State) :
    exec (.ctxcmdResume c x) s = s.run (fun d => d.ctxcmd c x.toNat 4) := rfl

theorem exec_ctxcmdReset (c : CoreId) (x : BitVec 7) (s : State) :
    exec (.ctxcmdReset c x) s = s.run (fun d => d.ctxcmd c x.toNat 5) := rfl

theorem exec_ctxcmdFree (c : CoreId) (x : BitVec 7) (s : State) :
    exec (.ctxcmdFree c x) s = s.run (fun d => d.ctxcmd c x.toNat 6) := rfl

theorem exec_contextResetDone (c : CoreId) (y : CtxId) (s : State) :
    exec (.contextResetDone c y) s = s.run (fun d => d.ctxResetDone c y) := rfl

/-! ### Their statements -/

/-- SEQ_STATUS.CMDREJ is set and nothing else changes. -/
def Rejected (d : Dev) (c : Nat) (t : Dev) : Prop :=
  t.rbit (.seqStatus c) 0 = true ∧ OnlyRegs d t ∧ RegsBut d t (fun a => a = (Reg.seqStatus c).addr)

/-- A rejected command sets SEQ_STATUS.CMDREJ and changes nothing else (03 R57). -/
theorem runs_cmdRej {i : Instr} {s : State} {f : Dev → Dev} {c : Nat} (hi : exec i s = s.run f)
    (hf : f s.dev.fresh = s.dev.fresh.cmdRej c) : Runs i s (Rejected s.dev c) := by
  refine runs_of_run hi (by rw [hf]; rfl) fun o p => ?_
  rw [hf]
  refine ⟨?_, onlyRegs_withOutputs (onlyRegs_setReg (onlyRegs_fresh _) _ _) o p, fun r hr => ?_⟩
  · simp [Dev.rbit, Dev.cmdRej, Dev.setRbit, bit_setBit]
  · exact Dev.reg_setReg_other _ _ hr

/-- The context is in state `v`, and the rest of it that the context commands speak of is as before. -/
def Moves (d : Dev) (c x : Nat) (t : Dev) (v : Nat) : Prop :=
  OnlyCores d t ∧ MemorySame d t ∧ CtxOnly d t c x ∧ (t.ctx c x).state = v ∧
  (t.ctx c x).s = (d.ctx c x).s ∧ (t.ctx c x).pc = (d.ctx c x).pc ∧ (t.ctx c x).wait = (d.ctx c x).wait

/-- A command that does no more than to set STATE. -/
theorem runs_setState {i : Instr} {s : State} {f : Dev → Dev} {c x v : Nat} (hi : exec i s = s.run f) (hv : v < 8)
    (hf : f s.dev.fresh = s.dev.fresh.setCtx c x ((s.dev.ctx c x).setState v)) :
    Runs i s (fun t => Moves s.dev c x t v) := by
  refine runs_setCtx hi hf fun t ho hm hc ht => ⟨ho, hm, hc, ?_⟩
  rw [ht]
  exact ⟨Ctx.state_setState _ hv, rfl, rfl, rfl⟩

/-- A context number that does not exist: every command is rejected (03 R57). -/
theorem runs_ctxcmd_of_no_context {c : CoreId} {x : BitVec 7} (s : State) (hx : 80 ≤ x.toNat) :
    ∀ i ∈ [Instr.ctxcmdAlloc c x, .ctxcmdStart c x, .ctxcmdHalt c x, .ctxcmdResume c x, .ctxcmdReset c x, .ctxcmdFree c x],
      Runs i s (Rejected s.dev c) := by
  have h := fun op => s.dev.fresh.ctxcmd_of_no_context c op hx
  intro i hi
  simp only [List.mem_cons, List.not_mem_nil, or_false] at hi
  rcases hi with rfl | rfl | rfl | rfl | rfl | rfl
  · exact runs_cmdRej (exec_ctxcmdAlloc c x s) (h 1)
  · exact runs_cmdRej (exec_ctxcmdStart c x s) (h 2)
  · exact runs_cmdRej (exec_ctxcmdHalt c x s) (h 3)
  · exact runs_cmdRej (exec_ctxcmdResume c x s) (h 4)
  · exact runs_cmdRej (exec_ctxcmdReset c x s) (h 5)
  · exact runs_cmdRej (exec_ctxcmdFree c x s) (h 6)

section
variable {c : CoreId} {x : BitVec 7} {s : State} (hx : x.toNat < 80)
include hx

theorem runs_ctxcmdAlloc (h : (s.dev.ctx c x.toNat).state = 0) :
    Runs (.ctxcmdAlloc c x) s (fun t =>
      OnlyCores s.dev t ∧ CtxOnly s.dev t c x.toNat ∧ t.ctx c x.toNat = { cstatus := 1 }) :=
  runs_setCtx (exec_ctxcmdAlloc c x s) ((s.dev.fresh.ctxcmd_alloc c hx).trans (if_pos h)) fun _ ho _ hc ht => ⟨ho, hc, ht⟩

theorem runs_ctxcmdAlloc_rejected (h : (s.dev.ctx c x.toNat).state ≠ 0) :
    Runs (.ctxcmdAlloc c x) s (Rejected s.dev c) :=
  runs_cmdRej (exec_ctxcmdAlloc c x s) ((s.dev.fresh.ctxcmd_alloc c hx).trans (if_neg h))

theorem runs_ctxcmdStart (h : (s.dev.ctx c x.toNat).state = 1) :
    Runs (.ctxcmdStart c x) s (fun t => Moves s.dev c x.toNat t 2) :=
  runs_setState (exec_ctxcmdStart c x s) (by omega) ((s.dev.fresh.ctxcmd_start c hx).trans (if_pos h))

theorem runs_ctxcmdStart_rejected (h : (s.dev.ctx c x.toNat).state ≠ 1) :
    Runs (.ctxcmdStart c x) s (Rejected s.dev c) :=
  runs_cmdRej (exec_ctxcmdStart c x s) ((s.dev.fresh.ctxcmd_start c hx).trans (if_neg h))

theorem runs_ctxcmdHalt (h : (s.dev.ctx c x.toNat).state = 2 ∨ (s.dev.ctx c x.toNat).state = 3)
    (ha : (s.dev.ctx c x.toNat).a1c = false) : Runs (.ctxcmdHalt c x) s (fun t => Moves s.dev c x.toNat t 1) :=
  runs_setState (exec_ctxcmdHalt c x s) (by omega) ((s.dev.fresh.ctxcmd_halt c hx ha).trans (if_pos h))

theorem runs_ctxcmdHalt_rejected (h2 : (s.dev.ctx c x.toNat).state ≠ 2) (h3 : (s.dev.ctx c x.toNat).state ≠ 3) :
    Runs (.ctxcmdHalt c x) s (Rejected s.dev c) :=
  runs_cmdRej (exec_ctxcmdHalt c x s) (s.dev.fresh.ctxcmd_halt_rejected c hx h2 h3)

theorem runs_ctxcmdResume (h : (s.dev.ctx c x.toNat).state = 4) :
    Runs (.ctxcmdResume c x) s (fun t => Moves s.dev c x.toNat t 2 ∧ (t.ctx c x.toNat).held = false) := by
  refine runs_setCtx (exec_ctxcmdResume c x s) ((s.dev.fresh.ctxcmd_resume c hx).trans (if_pos h)) fun t ho hm hc ht => ?_
  have hs : (t.ctx c x.toNat).state = 2 := by
    rw [ht]
    exact Ctx.state_setState _ (by omega)
  refine ⟨⟨ho, hm, hc, hs, ?_⟩, ?_⟩
  · rw [ht]
    exact ⟨rfl, rfl, rfl⟩
  · rw [ht]

theorem runs_ctxcmdResume_rejected (h : (s.dev.ctx c x.toNat).state ≠ 4) :
    Runs (.ctxcmdResume c x) s (Rejected s.dev c) :=
  runs_cmdRej (exec_ctxcmdResume c x s) ((s.dev.fresh.ctxcmd_resume c hx).trans (if_neg h))

theorem runs_ctxcmdReset_rejected (h : (s.dev.ctx c x.toNat).state = 0 ∨ (s.dev.ctx c x.toNat).state = 5) :
    Runs (.ctxcmdReset c x) s (Rejected s.dev c) :=
  runs_cmdRej (exec_ctxcmdReset c x s) ((s.dev.fresh.ctxcmd_reset c hx).trans (if_neg fun g => h.elim g.1 g.2))

/-- A reset stops the context's work and frees its leases (14 R369). -/
theorem runs_ctxcmdReset (h0 : (s.dev.ctx c x.toNat).state ≠ 0) (h5 : (s.dev.ctx c x.toNat).state ≠ 5) :
    Runs (.ctxcmdReset c x) s (fun t =>
      (t.ctx c x.toNat).state = 5 ∧ (t.ctx c x.toNat).s = (s.dev.ctx c x.toNat).s ∧
      (t.ctx c x.toNat).pc = (s.dev.ctx c x.toNat).pc ∧ (t.core c).hasWork x.toNat = false ∧
      (∀ u ∈ [0, 1, 3], ((t.core c).lease u).owner ≠ some x.toNat) ∧ MemorySame s.dev t) := by
  have hf := (s.dev.fresh.ctxcmd_reset c hx).trans (if_pos ⟨h0, h5⟩)
  obtain ⟨hs, hpc⟩ := s.dev.fresh.withdrawCtx_ctx c x.toNat
  generalize hv : (((s.dev.fresh.withdrawCtx c x.toNat).ctx c x.toNat).resetting (s.dev.fresh.ctx c x.toNat).state) = v
  rw [Dev.resetCtx_eq, hv] at hf
  have hcore : ((s.dev.fresh.withdrawCtx c x.toNat).setCtx c x.toNat v).core c =
      (((s.dev.core c).removeWork x.toNat).dropLeases x.toNat).setCtx x.toNat v := by
    rw [Dev.setCtx, Dev.core_setCore_same, Dev.withdrawCtx_core, Dev.core_fresh]
  have hq : ((s.dev.fresh.withdrawCtx c x.toNat).setCtx c x.toNat v).traceQ = [] := by
    rw [Dev.setCtx, Dev.setCore_traceQ, Dev.withdrawCtx_traceQ, Dev.fresh_traceQ]
  refine runs_of_run (exec_ctxcmdReset c x s) (by rw [hf, hq]) fun o p => ?_
  simp only [hf, Dev.ctx_withOutputs, Dev.ctx_setCtx_same, Dev.core_withOutputs, hcore,
    Core.hasWork_setCtx, Core.dropLeases_hasWork, Core.removeWork_hasWork, Core.lease_setCtx, true_and]
  refine ⟨?_, ?_, ?_, fun u hu => Core.dropLeases_owner _ hu,
    ((s.dev.fresh.withdrawCtx_mapKept c x.toNat).setCtx c _ v).withOutputs o p |>.memorySame⟩
  · rw [← hv, Ctx.resetting_state]
  · rw [← hv, Ctx.resetting_s, hs, Dev.ctx_fresh]
  · rw [← hv, Ctx.resetting_pc, hpc, Dev.ctx_fresh]

theorem runs_ctxcmdFree (h : (s.dev.ctx c x.toNat).state = 1) :
    Runs (.ctxcmdFree c x) s (fun t =>
      t.ctx c x.toNat = {} ∧ OnlyCores s.dev t ∧ ∀ u ∈ [0, 1, 3], ((t.core c).lease u).owner ≠ some x.toNat) := by
  have hf := (s.dev.fresh.ctxcmd_free c hx).trans (if_pos h)
  have hq : ((s.dev.fresh.onCore c (fun e => e.dropLeases x.toNat)).setCtx c x.toNat {}).traceQ = [] := by
    rw [Dev.setCtx, Dev.setCore_traceQ, Dev.onCore, Dev.setCore_traceQ, Dev.fresh_traceQ]
  refine runs_of_run (exec_ctxcmdFree c x s) (by rw [hf, hq]) fun o p => ?_
  simp only [hf]
  refine ⟨by rw [Dev.ctx_withOutputs, Dev.ctx_setCtx_same],
    onlyCores_withOutputs (onlyCores_setCtx (onlyCores_onCore (onlyCores_fresh _) c _) c _ _) o p, fun u hu => ?_⟩
  rw [Dev.core_withOutputs, Dev.setCtx, Dev.core_setCore_same, Core.lease_setCtx, Dev.onCore, Dev.core_setCore_same]
  exact Core.dropLeases_owner _ hu

theorem runs_ctxcmdFree_rejected (h : (s.dev.ctx c x.toNat).state ≠ 1) :
    Runs (.ctxcmdFree c x) s (Rejected s.dev c) :=
  runs_cmdRej (exec_ctxcmdFree c x s) ((s.dev.fresh.ctxcmd_free c hx).trans (if_neg h))

end

/-- CONTEXT_RESET_DONE ends a reset whose work has stopped (14 R369). -/
theorem runs_contextResetDone {c : CoreId} {y : CtxId} {s : State} (h : (s.dev.ctx c y).state = 5)
    (hu : (s.dev.core c).unfinished y = false) :
    Runs (.contextResetDone c y) s (fun t =>
      OnlyCores s.dev t ∧ CtxOnly s.dev t c y ∧ (t.ctx c y).state = 1 ∧ (t.ctx c y).s = (s.dev.ctx c y).s) := by
  refine runs_setCtx (exec_contextResetDone c y s) (if_pos (by simp [h, hu])) fun t ho _ hc ht => ⟨ho, hc, ?_⟩
  rw [ht]
  exact ⟨Ctx.state_setState _ (by omega), rfl⟩

/-- A command that does nothing. -/
theorem runs_nothing {i : Instr} {s : State} {f : Dev → Dev} (hi : exec i s = s.run f) (hf : f s.dev.fresh = s.dev.fresh) :
    Runs i s (NothingMoves s.dev) := by
  refine runs_of_run hi (by rw [hf]; rfl) fun o p => ?_
  rw [hf]
  exact ⟨rfl, fun _ _ => rfl, (MapKept.of_eq rfl rfl).memorySame⟩

/-- Before its work has stopped CONTEXT_RESET_DONE does nothing (06 R171; 08 R212). -/
theorem runs_contextResetDone_waits {c : CoreId} {y : CtxId} {s : State} (hu : (s.dev.core c).unfinished y = true) :
    Runs (.contextResetDone c y) s (NothingMoves s.dev) :=
  runs_nothing (exec_contextResetDone c y s) (if_neg (by simp [hu]))

theorem contextCommands : ContextCommands := by
  intro c x s
  refine ⟨runs_ctxcmd_of_no_context s, fun hx => ⟨runs_ctxcmdAlloc hx, runs_ctxcmdAlloc_rejected hx, runs_ctxcmdStart hx,
    fun h => ⟨runs_ctxcmdStart_rejected hx h, runs_ctxcmdFree_rejected hx h⟩, runs_ctxcmdHalt hx, runs_ctxcmdHalt_rejected hx,
    runs_ctxcmdResume hx, runs_ctxcmdResume_rejected hx, runs_ctxcmdReset_rejected hx, runs_ctxcmdReset hx,
    runs_ctxcmdFree hx⟩, fun y h => ⟨runs_contextResetDone h, runs_contextResetDone_waits⟩⟩

end Sys2Proof.Machine
end

section
/-! QCFG writes (03 R71): what the register's rule does in each case, how a path reaches it (01 R22), and the claim on the
configuration of queues. -/

namespace Sys2Proof.Machine

open Sys2Proof Sys2Proof.Claim

/-! ### Paths -/

/-- What stops an access on its path does not depend on earlier trace events. -/
theorem Dev.pathStop_fresh_eq_none (d : Dev) (path : Path) (perm a n : Nat) :
    d.fresh.pathStop path perm a n = none ↔ d.pathStop path perm a n = none := by
  cases path with
  | bdp b =>
    simp only [Dev.pathStop, Dev.bdpOn, Dev.bdpWindow, Dev.rbit_fresh]
    by_cases hon : d.rbit (.bdpCtl b) 0 = true <;> by_cases hw : d.rbit (.bdpCtl b) 1 = true <;> simp [hon, hw]
  | ctx c x => simp [Dev.pathStop]
  | _ => rfl

/-- A path other than BAR0 that reaches a register carries a command's effect to it unchanged. -/
theorem Dev.via_fresh_of_reaches {d : Dev} {path : Path} {r : Reg} (f : Dev → Dev) (h : PathReaches d path r)
    (hp : path ≠ .host) : d.fresh.via path r f = f d.fresh := by
  obtain ⟨h1, h2, h3⟩ := h
  have h1' : d.fresh.pathReach path r.addr = true := h1
  have h3' : d.fresh.regReach r.addr = true := h3
  simp [Dev.via, h1', (d.pathStop_fresh_eq_none path _ _ _).mpr h2, h3', Dev.noteHost, hp]

/-- BAR0 reaches no register of a core (01 R22). -/
theorem Dev.pathReach_host_of_high (d : Dev) {a : Nat} (h : 0xFF80000000 ≤ a) : d.pathReach .host a = false := by
  simp only [Dev.pathReach, Bool.and_eq_false_iff, decide_eq_false_iff_not]
  exact .inl (.inr (by omega))

theorem Dev.via_host_of_high (d : Dev) {r : Reg} (f : Dev → Dev) (h : 0xFF80000000 ≤ r.addr) : d.via .host r f = d := by
  simp [Dev.via, d.pathReach_host_of_high h]

theorem qcfg_addr_high (c q : Nat) : 0xFF80000000 ≤ (Reg.qcfg c q).addr := by
  have := coreBase_high c
  simp only [Reg.addr]
  omega

/-! ### QCFG (03 R71) -/

/-- What R71 asks of a value that enables ring queue `q`: the entry count, the class of the peer, and for a fabric queue
another device. -/
def EnableValid (d : Dev) (c q : Nat) (v : W32) : Prop :=
  let n := bits v 3 0
  let peer := bits v 13 8
  1 ≤ n ∧ n ≤ 12 ∧ (20 ≤ q ∧ q < 28 → 28 ≤ peer ∧ peer < 36) ∧ (28 ≤ q ∧ q < 36 → 20 ≤ peer ∧ peer < 28) ∧
  (36 ≤ q ∧ q < 44 → 44 ≤ peer ∧ peer < 52) ∧ (44 ≤ q ∧ q < 52 → 36 ≤ peer ∧ peer < 44) ∧
  (36 ≤ q ∧ q < 52 → d.rbits (.qbase c q) 56 48 ≠ d.me)

section
variable {a : Nat}

/-- The classes of the queues (03 Table 3.4). -/
theorem queueClass_table (a : Nat) :
    (a < 20 ∧ queueClass a = 0) ∨ (20 ≤ a ∧ a < 28 ∧ queueClass a = 1) ∨ (28 ≤ a ∧ a < 36 ∧ queueClass a = 2) ∨
    (36 ≤ a ∧ a < 44 ∧ queueClass a = 3) ∨ (44 ≤ a ∧ a < 52 ∧ queueClass a = 4) ∨
    (52 ≤ a ∧ a < 60 ∧ queueClass a = 5) ∨ (60 ≤ a ∧ queueClass a = 6) := by
  unfold queueClass
  repeat' split
  all_goals omega

theorem queueClass_eq_one : queueClass a = 1 ↔ 20 ≤ a ∧ a < 28 := by
  have h := queueClass_table a
  omega

theorem queueClass_eq_two : queueClass a = 2 ↔ 28 ≤ a ∧ a < 36 := by
  have h := queueClass_table a
  omega

theorem queueClass_eq_three : queueClass a = 3 ↔ 36 ≤ a ∧ a < 44 := by
  have h := queueClass_table a
  omega

theorem queueClass_eq_four : queueClass a = 4 ↔ 44 ≤ a ∧ a < 52 := by
  have h := queueClass_table a
  omega

/-- A ring queue is of one of the four classes with a peer, or of class 5 or 6 (03 Table 3.4). -/
theorem queueClass_cases (h : 20 ≤ a) :
    queueClass a = 1 ∨ queueClass a = 2 ∨ queueClass a = 3 ∨ queueClass a = 4 ∨
      (52 ≤ a ∧ (queueClass a = 5 ∨ queueClass a = 6)) := by
  have ht := queueClass_table a
  omega

end

/-- The device's check is that of R71. -/
theorem Dev.qcfgOk_iff (d : Dev) (c : Nat) {q : Nat} (v : W32) (hq : 20 ≤ q) :
    d.qcfgOk c q v = true ↔ EnableValid d c q v := by
  rcases queueClass_cases hq with h | h | h | h | ⟨hq', h⟩
  · have hr := queueClass_eq_one.mp h
    simp only [Dev.qcfgOk, EnableValid, peerClass, h, hr, queueClass_eq_two, Bool.decide_and, Nat.reduceBEq, Bool.or_self,
      Bool.not_false, Bool.true_or, Bool.and_true, Bool.and_eq_true, decide_eq_true_eq, beq_iff_eq, and_self, forall_const,
      and_imp, ne_eq]
    omega
  · have hr := queueClass_eq_two.mp h
    simp only [Dev.qcfgOk, EnableValid, peerClass, h, hr, queueClass_eq_one, Bool.decide_and, Nat.reduceBEq, Bool.or_self,
      Bool.not_false, Bool.true_or, Bool.and_true, Bool.and_eq_true, decide_eq_true_eq, beq_iff_eq, and_self, forall_const,
      and_imp, ne_eq]
    omega
  · have hr := queueClass_eq_three.mp h
    simp only [Dev.qcfgOk, EnableValid, peerClass, h, hr, queueClass_eq_four, Bool.decide_and, BEq.rfl, Nat.reduceBEq,
      Bool.or_false, Bool.not_true, Bool.false_or, Bool.and_eq_true, decide_eq_true_eq, beq_iff_eq, bne_iff_ne, and_self,
      forall_const, and_imp, ne_eq, true_and]
    omega
  · have hr := queueClass_eq_four.mp h
    simp only [Dev.qcfgOk, EnableValid, peerClass, h, hr, queueClass_eq_three, Bool.decide_and, BEq.rfl, Nat.reduceBEq,
      Bool.or_true, Bool.not_true, Bool.false_or, Bool.and_eq_true, decide_eq_true_eq, beq_iff_eq, bne_iff_ne, and_self,
      forall_const, and_imp, ne_eq, and_true]
    omega
  · rcases h with h | h
    all_goals
      simp only [Dev.qcfgOk, EnableValid, peerClass, h, Bool.decide_and, Nat.reduceBEq, Bool.or_self, Bool.not_false,
        Bool.true_or, Bool.and_true, Bool.and_eq_true, decide_eq_true_eq, and_imp, ne_eq]
      omega

/-- The bits of QCFG that a write can store: EN, PEER and LOG2N. -/
theorem getLsbD_qcfgMask {i : Nat} (hi : i < 32) :
    (0x807FFF0F#32).getLsbD i = decide (i < 4 ∨ (8 ≤ i ∧ i < 23) ∨ i = 31) := by
  revert i
  decide

/-- What an enable stores, as a number: EN, PEER and LOG2N. -/
theorem qcfg_stored {v : W32} (hv : bit v 31 = true) :
    (v &&& 0x807FFF0F#32).setWidth 64 = BitVec.ofNat 64 (2 ^ 31 + bits v 22 8 * 2 ^ 8 + bits v 3 0) := by
  have hn : bits v 3 0 < 2 ^ 8 := by unfold bits; omega
  have hp : bits v 22 8 * 2 ^ 8 + bits v 3 0 < 2 ^ 31 := by unfold bits; omega
  apply BitVec.eq_of_getLsbD_eq
  intro i hi
  have hsum : (2 ^ 31 + bits v 22 8 * 2 ^ 8 + bits v 3 0).testBit i =
      (decide (i = 31) || decide (8 ≤ i ∧ i < 23) && bit v i || decide (i < 4) && bit v i) := by
    rw [Nat.add_assoc, ← Nat.one_shiftLeft, Nat.shiftLeft_add_eq_or_of_lt hp, ← Nat.shiftLeft_eq,
      Nat.shiftLeft_add_eq_or_of_lt hn, Nat.testBit_or, Nat.testBit_or, Nat.testBit_shiftLeft, Nat.testBit_shiftLeft,
      testBit_bits, testBit_bits]
    have h1 : Nat.testBit 1 (i - 31) = decide (i - 31 = 0) := by
      rw [Bool.eq_iff_iff, Nat.testBit_one_eq_true_iff_self_eq_zero, decide_eq_true_iff]
    by_cases h8 : 8 ≤ i
    · simp only [ge_iff_le, h1, h8, decide_true, Nat.reduceAdd, Nat.reduceSub, show 8 + (i - 8) = i by omega,
        show ¬ i < 4 by omega, Bool.true_and, Nat.sub_zero, decide_false, Nat.zero_add, Bool.false_and, Bool.or_false, true_and]
      grind
    · simp only [ge_iff_le, h8, decide_false, Nat.reduceAdd, Nat.reduceSub, Bool.false_and, Nat.sub_zero, Nat.zero_add,
        Bool.false_or, false_and, Bool.or_false]
      grind
  rw [BitVec.getLsbD_setWidth, BitVec.getLsbD_and, BitVec.getLsbD_ofNat _ (2 ^ 31 + _ + _), hsum]
  by_cases h32 : i < 32
  · rw [getLsbD_qcfgMask h32]
    unfold bit at hv ⊢
    grind
  · have hz : v.getLsbD i = false := BitVec.getLsbD_of_ge v i (by omega)
    simp only [bit, hz, Bool.false_and, Bool.and_false, Bool.or_false, show ¬ i = 31 by omega, decide_false]

/-- Transfers resume as the enable of queue `q` lets them: its own where it is outbound, those to it where it is inbound
(03 R69). -/
def Dev.resumeFor (d : Dev) (c q : Nat) : Dev :=
  if queueClass q = 2 ∨ queueClass q = 3 then d.onCore c (fun k => k.resume q)
  else if queueClass q = 1 then d.resumePeers c q else d

theorem Dev.resumeFor_mem (d : Dev) (c q : Nat) : (d.resumeFor c q).mem = d.mem := by
  unfold Dev.resumeFor
  split
  · rfl
  · split
    · rfl
    · rfl

theorem Dev.resumeFor_regs (d : Dev) (c q : Nat) : (d.resumeFor c q).regs = d.regs := by
  unfold Dev.resumeFor
  split
  · rfl
  · split
    · rfl
    · rfl

theorem Dev.resumeFor_traceQ (d : Dev) (c q : Nat) : (d.resumeFor c q).traceQ = d.traceQ := by
  unfold Dev.resumeFor
  split
  · rfl
  · split
    · rfl
    · rfl

section
variable (d : Dev) (c : Nat) {q : Nat} {v : W32}

theorem Dev.qcfgWrite_engine (hq : q < 20) :
    d.qcfgWrite c q v = d.setReg (.qcfg c q) (setBit (d.reg (.qcfg c q)) 31 (bit v 31)) := by
  simp [Dev.qcfgWrite, hq]

theorem Dev.qcfgWrite_ignored (hq : 20 ≤ q) (he : bit (d.reg (.qcfg c q)) 31 = true) (hv : bit v 31 = true) :
    d.qcfgWrite c q v = d := by
  simp [Dev.qcfgWrite, Nat.not_lt.mpr hq, he, hv]

theorem Dev.qcfgWrite_disable (hq : 20 ≤ q) (he : bit (d.reg (.qcfg c q)) 31 = true) (hv : bit v 31 = false) :
    d.qcfgWrite c q v =
      (d.setReg (.qcfg c q) (setBit (d.reg (.qcfg c q)) 31 false)).setRbits (.qptr c q) 29 0 0 := by
  simp [Dev.qcfgWrite, Nat.not_lt.mpr hq, he, hv]

/-- An enable that is not valid: EN stays 0, and SEQ_STATUS.CMDREJ is set. -/
theorem Dev.qcfgWrite_refused (hq : 20 ≤ q) (he : bit (d.reg (.qcfg c q)) 31 = false) (hv : bit v 31 = true)
    (hn : ¬ EnableValid d c q v) :
    d.qcfgWrite c q v =
      (d.setReg (.qcfg c q) (setBit ((v &&& 0x807FFF0F#32).setWidth 64) 31 false)).setRbit (.seqStatus c) 0 true := by
  have hok : d.qcfgOk c q v = false := Bool.eq_false_iff.mpr (mt (d.qcfgOk_iff c v hq).mp hn)
  simp [Dev.qcfgWrite, Nat.not_lt.mpr hq, he, hv, hok]

/-- A valid enable stores the value, and transfers may resume. -/
theorem Dev.qcfgWrite_enable (hq : 20 ≤ q) (he : bit (d.reg (.qcfg c q)) 31 = false) (hv : bit v 31 = true)
    (hn : EnableValid d c q v) :
    d.qcfgWrite c q v = (d.setReg (.qcfg c q) ((v &&& 0x807FFF0F#32).setWidth 64)).resumeFor c q := by
  have hok : d.qcfgOk c q v = true := (d.qcfgOk_iff c v hq).mpr hn
  simp only [Dev.qcfgWrite, Nat.not_lt.mpr hq, he, hv, hok, if_true, if_false, Bool.false_eq_true, Dev.resumeFor]

end

/-! ### The statement -/

theorem exec_qcfgWrite (path : Path) (c : CoreId) (q : QueueId) (v : W32) (s : State) :
    exec (.qcfgWrite path c q v) s = s.run (fun d => d.via path (.qcfg c q) (fun e => e.qcfgWrite c q v)) := rfl

section
variable {path : Path} {c : CoreId} {q : QueueId} {v : W32} {s : State} (h : PathReaches s.dev path (.qcfg c q))
include h

/-- Where a path reaches QCFG the command is the register's rule. -/
theorem runs_qcfgWrite {e : Dev} {P : Dev → Prop} (he : s.dev.fresh.qcfgWrite c q v = e) (hq : e.traceQ = [])
    (hP : ∀ o p, P (e.withOutputs o p)) : Runs (.qcfgWrite path c q v) s P := by
  have hp : path ≠ .host := by
    rintro rfl
    exact absurd h.1 (by rw [s.dev.pathReach_host_of_high (qcfg_addr_high c q)]; exact Bool.false_ne_true)
  have hf := (Dev.via_fresh_of_reaches (fun e => e.qcfgWrite c q v) h hp).trans he
  refine runs_of_run (exec_qcfgWrite path c q v s) (by rw [hf, hq]) fun o p => ?_
  rw [hf]
  exact hP o p

theorem runs_qcfgWrite_engine (hq : q.val < 20) :
    Runs (.qcfgWrite path c q v) s (fun t =>
      bit (t.reg (.qcfg c q)) 31 = bit v 31 ∧
      (∀ i, i ≠ 31 → bit (t.reg (.qcfg c q)) i = bit (s.dev.reg (.qcfg c q)) i) ∧ OnlyRegs s.dev t) := by
  refine runs_qcfgWrite h (s.dev.fresh.qcfgWrite_engine c hq) rfl fun o p =>
    ⟨?_, fun i hi => ?_, onlyRegs_withOutputs (onlyRegs_setReg (onlyRegs_fresh _) _ _) o p⟩
  · simp [bit_setBit]
  · simp [bit_setBit, hi]

theorem runs_qcfgWrite_enable (hq : 20 ≤ q.val) (he : bit (s.dev.reg (.qcfg c q)) 31 = false) (hv : bit v 31 = true)
    (hn : EnableValid s.dev c q v) :
    Runs (.qcfgWrite path c q v) s (fun t =>
      t.reg (.qcfg c q) = BitVec.ofNat 64 (2 ^ 31 + bits v 22 8 * 2 ^ 8 + bits v 3 0) ∧ MemorySame s.dev t) := by
  have hk : MapKept s.dev (s.dev.fresh.setReg (.qcfg c q) ((v &&& 0x807FFF0F#32).setWidth 64)) :=
    (MapKept.of_eq rfl rfl).setReg _ (Nat.le_trans (by decide) (qcfg_addr_high c q))
  refine runs_qcfgWrite h (s.dev.fresh.qcfgWrite_enable c hq he hv hn) (Dev.resumeFor_traceQ _ _ _) fun o p =>
    ⟨?_, (hk.trans (.of_eq (Dev.resumeFor_mem _ _ _) (Dev.resumeFor_regs _ _ _))).withOutputs o p |>.memorySame⟩
  rw [Dev.reg_withOutputs, Dev.reg, Dev.resumeFor_regs, ← qcfg_stored hv]
  exact Dev.reg_setReg_same s.dev.fresh _ _

theorem runs_qcfgWrite_refused (hq : 20 ≤ q.val) (he : bit (s.dev.reg (.qcfg c q)) 31 = false) (hv : bit v 31 = true)
    (hn : ¬ EnableValid s.dev c q v) :
    Runs (.qcfgWrite path c q v) s (fun t =>
      bit (t.reg (.qcfg c q)) 31 = false ∧ t.rbit (.seqStatus c) 0 = true ∧ OnlyRegs s.dev t) := by
  have ha : (Reg.qcfg c q).addr ≠ (Reg.seqStatus c).addr := by simp only [Reg.addr]; omega
  refine runs_qcfgWrite h (s.dev.fresh.qcfgWrite_refused c hq he hv hn) rfl fun o p =>
    ⟨?_, ?_, onlyRegs_withOutputs (onlyRegs_setReg (onlyRegs_setReg (onlyRegs_fresh _) _ _) _ _) o p⟩
  · simp [Dev.setRbit, Dev.reg_setReg_other _ _ ha, bit_setBit]
  · simp [Dev.rbit, Dev.setRbit, bit_setBit]

theorem runs_qcfgWrite_disable (hq : 20 ≤ q.val) (he : bit (s.dev.reg (.qcfg c q)) 31 = true) (hv : bit v 31 = false) :
    Runs (.qcfgWrite path c q v) s (fun t =>
      bit (t.reg (.qcfg c q)) 31 = false ∧ t.ringHead c q = 0 ∧ t.ringTail c q = 0 ∧ t.ringFull c q = false ∧
      OnlyRegs s.dev t) := by
  have ha : (Reg.qcfg c q).addr ≠ (Reg.qptr c q).addr := by simp only [Reg.addr]; omega
  refine runs_qcfgWrite h (s.dev.fresh.qcfgWrite_disable c hq he hv) rfl fun o p =>
    ⟨?_, ?_, ?_, ?_, onlyRegs_withOutputs (onlyRegs_setReg (onlyRegs_setReg (onlyRegs_fresh _) _ _) _ _) o p⟩
  · simp [Dev.setRbits, Dev.reg_setReg_other _ _ ha, bit_setBit]
  · simp [Dev.ringHead, Dev.rbits, Dev.setRbits, bits_setBits_zero]
  · simp [Dev.ringTail, Dev.rbits, Dev.setRbits, bits_setBits_zero]
  · simp [Dev.ringFull, Dev.rbit, Dev.setRbits, bit_setBits]

theorem runs_qcfgWrite_ignored (hq : 20 ≤ q.val) (he : bit (s.dev.reg (.qcfg c q)) 31 = true) (hv : bit v 31 = true) :
    Runs (.qcfgWrite path c q v) s (fun t => OnlyRegs s.dev t ∧ ∀ r, t.reg r = s.dev.reg r) :=
  runs_qcfgWrite h (s.dev.fresh.qcfgWrite_ignored c hq he hv) rfl fun _ _ => ⟨rfl, fun _ => rfl⟩

end

/-- BAR0 does not write QCFG (01 R22). -/
theorem runs_qcfgWrite_host (c : CoreId) (q : QueueId) (v : W32) (s : State) :
    Runs (.qcfgWrite .host c q v) s (fun t => OnlyRegs s.dev t ∧ ∀ r, t.reg r = s.dev.reg r) := by
  have hf := s.dev.fresh.via_host_of_high (fun e => e.qcfgWrite c q v) (qcfg_addr_high c q)
  refine runs_of_run (exec_qcfgWrite .host c q v s) (by rw [hf]; rfl) fun o p => ?_
  rw [hf]
  exact ⟨rfl, fun _ => rfl⟩

theorem queueConfiguration : QueueConfiguration := by
  intro path c q v s d on h en n peer valid
  exact ⟨runs_qcfgWrite_engine h, runs_qcfgWrite_enable h, runs_qcfgWrite_refused h, runs_qcfgWrite_disable h,
    runs_qcfgWrite_ignored h, runs_qcfgWrite_host c q v s⟩

/-- Settles O15: each context command by the equation of its operation, with the removal of a context's work by induction on
the queues, and each QCFG write by the case of R71 that it falls in. -/
theorem coreCommands : Obligations.CoreCommands := ⟨contextCommands, queueConfiguration⟩

end Sys2Proof.Machine
end

section
/-! Scalar rows whose checks and gates pass, and the refutation of the claim on branches: a row that takes effect clears the
WAIT word, which a READY context may still hold after HALT and START (03 Table 3.2; Table 3.3). -/

namespace Sys2Proof.Machine

open Sys2Proof Sys2Proof.Claim

/-! ### A scalar row that takes effect -/

theorem Dev.mayIssue_of_ready {d : Dev} {c x : Nat} (h : Ready d c x) : d.mayIssue c x = true := by
  obtain ⟨hr, hs, ha⟩ := h
  simp [Dev.mayIssue, hr, hs, ha]

/-- A row that meets no exception and has no gate takes effect on a context that waits no more (07 R182). -/
theorem Dev.scalarRow_of_passes {d : Dev} {c x : Nat} {o : SOp} (h : Ready d c x) (hf : d.opFail c x o = none)
    (hg : o.gates (d.ctx c x) = []) :
    d.scalarRow c x o =
      ((d.onCtx c x (fun e => { e with wait := 0, gated := [] })).opEffect c x (d.ctx c x) o).opControl c x (d.ctx c x) o
        (d.ctx c x).pc := by
  simp [Dev.scalarRow, Dev.mayIssue_of_ready h, hf, hg, Dev.tryGates]

/-- NOP leaves no pending wait. -/
theorem Dev.scalarRow_nop_wait {d : Dev} {c x : Nat} (h : Ready d c x) : ((d.scalarRow c x .nop).ctx c x).wait = 0 := by
  rw [Dev.scalarRow_of_passes h rfl rfl]
  simp [Dev.opEffect, Dev.opValue, Dev.opControl, Dev.onCtx]

theorem exec_nop (c : CoreId) (x : CtxId) (s : State) :
    exec (.nop c x) s = s.run (fun d => d.scalarRow c x .nop) := rfl

/-! ### A READY context with a pending wait -/

/-- A core of a running die whose one context is READY with S0 = 1. -/
def waitStart : Dev :=
  { diesUp := [(0, true)], cores := [(0, { ctxs := [(0, { cstatus := 2, s := [(0, 1)] })] })] }

/-- The same after WAIT on token 0 with threshold 1, CTXCMD HALT and CTXCMD START: the wait remains (03 Table 3.2). -/
def waitRestarted : Dev :=
  { diesUp := [(0, true)],
    cores := [(0, { ctxs := [(0, { cstatus := 2, s := [(0, 1)], wait := 0x100000001, gated := [.token 0 1] })] })] }

/-- The device after a run that goes through. -/
def devAfter (k : Nat) (is : List Instr) (d : Dev) : Option Dev :=
  match Host.Core.run core k { pending := is, dev := d } with
  | .next t => some t.dev
  | _ => none

theorem waitRestarted_reached :
    devAfter 3 [.wait 0 0 0 0, .ctxcmdHalt 0 0, .ctxcmdStart 0 0] waitStart = some waitRestarted := by decide +kernel

theorem waitRestarted_ready : Ready waitRestarted 0 0 :=
  ⟨by decide +kernel, by decide +kernel, by decide +kernel⟩

/-- Refutes O5: NOP, as every scalar row that takes effect, sets the context's WAIT word to 0, so that more than the PC
differs where a READY context holds a pending wait, as it does after WAIT, CTXCMD HALT and CTXCMD START
(`waitRestarted_reached`). -/
theorem not_controlFlow : ¬ Obligations.ControlFlow := by
  rintro ⟨hbranch, -⟩
  obtain ⟨⟨t, hrun, -, -, -, -, hctx⟩, -⟩ := hbranch 0 0 { pending := [], dev := waitRestarted } waitRestarted_ready
  have hkept : (t.dev.ctx 0 0).wait = 0x100000001 := congrArg Ctx.wait hctx
  have hcleared : (t.dev.ctx 0 0).wait = 0 := by
    rw [exec_nop] at hrun
    obtain ⟨-, ht⟩ := State.run_cases hrun
    have hcores : t.dev.ctx 0 0 = (waitRestarted.fresh.scalarRow 0 0 .nop).ctx 0 0 := by
      rw [ht]
      simp only [Dev.ctx, Dev.core, Dev.deliver_cores, Dev.traceFlush_cores]
      rfl
    rw [hcores]
    exact Dev.scalarRow_nop_wait waitRestarted_ready
  exact absurd (hkept.symm.trans hcleared) (by decide)

end Sys2Proof.Machine
end

section
/-! The refutation of the claim on scalar results, by the same pending wait: an arithmetic row takes effect, and so clears the
WAIT word that its frame says it keeps. -/

namespace Sys2Proof.Machine

open Sys2Proof Sys2Proof.Claim

/-- The contexts after a run are those its function leaves: delivering messages and trace events touches no core. -/
theorem State.ctx_of_run {s t : State} {f : Dev → Dev} (h : s.run f = .next t) (c x : Nat) :
    t.dev.ctx c x = (f s.dev.fresh).ctx c x := by
  obtain ⟨-, ht⟩ := State.run_cases h
  simp only [ht, Dev.ctx, Dev.core, Dev.deliver_cores, Dev.traceFlush_cores]

/-- A form R row leaves its context with its result, no pending wait, and nothing else changed (07 R176, R179, R182). -/
theorem Dev.ctx_scalarRow_alu {d : Dev} {c x : Nat} (h : Ready d c x) (op r a b : Nat) :
    (d.scalarRow c x (.alu op r a b)).ctx c x =
      { d.ctx c x with wait := 0, gated := [] }.setS r (alu op ((d.ctx c x).sreg a) ((d.ctx c x).sreg b)) := by
  rw [Dev.scalarRow_of_passes h rfl rfl]
  simp [Dev.opEffect, Dev.opValue, Dev.opControl, SOp.target, Dev.onCtx, Ctx.setS]

theorem exec_add (c : CoreId) (x : CtxId) (d a b : SRegId) (s : State) :
    exec (.add c x d a b) s = s.run (fun e => e.scalarRow c x (.alu 0x10 d a b)) := rfl

/-- Refutes O4: ADD, as every scalar row that takes effect, sets the context's WAIT word to 0, so that more than S[d] differs
where a READY context holds a pending wait, as it does after WAIT, CTXCMD HALT and CTXCMD START
(`waitRestarted_reached`). -/
theorem not_scalarResults : ¬ Obligations.ScalarResults := by
  rintro ⟨hrows, -⟩
  obtain ⟨t, hrun, -, -, -, -, -, -, hctx, -⟩ :=
    hrows _ List.mem_cons_self 0 0 1 0 0 { pending := [], dev := waitRestarted } waitRestarted_ready
  have hkept : (t.dev.ctx 0 0).wait = 0x100000001 := congrArg Ctx.wait hctx
  have hcleared : (t.dev.ctx 0 0).wait = 0 := by
    rw [exec_add] at hrun
    rw [State.ctx_of_run hrun]
    exact congrArg Ctx.wait (Dev.ctx_scalarRow_alu (d := waitRestarted.fresh) waitRestarted_ready 0x10 1 0 0)
  exact absurd (hkept.symm.trans hcleared) (by decide)

end Sys2Proof.Machine
end

section
/-! The partners of a round (12 R320), by one relation that does not tell the two partners apart: a pair meets in the round
whose double is the pair's meeting sum, modulo the number of rounds. As that number is odd, each pair has one such round. -/

namespace Sys2Proof.Machine

open Sys2Proof

/-! ### The number of rounds -/

/-- The number m of rounds in which each of `n` members meets every other once (12 R320). -/
def roundCount (n : Nat) : Nat := (if n % 2 = 0 then n else n + 1) - 1

theorem roundCount_odd {n : Nat} (hn : 0 < n) : roundCount n % 2 = 1 := by
  unfold roundCount
  split <;> omega

theorem roundCount_pos {n : Nat} (hn : 0 < n) : 0 < roundCount n := by
  have hodd := roundCount_odd hn
  omega

theorem le_roundCount {n i : Nat} (hi : i < n) : i ≤ roundCount n := by
  unfold roundCount
  split <;> omega

/-! ### The reflected index -/

/-- The index that the rule's j gives in round `k`, before the last index takes the place of a member's own. -/
def reflect (m k i : Nat) : Nat := (2 * k + m - i) % m

theorem reflect_lt {m : Nat} (hm : 0 < m) (k i : Nat) : reflect m k i < m := Nat.mod_lt _ hm

theorem mod_of_lt_three_mul {m x : Nat} (hx : x < 3 * m) :
    x % m = if x < m then x else if x < 2 * m then x - m else x - m - m := by
  split
  · exact Nat.mod_eq_of_lt (by assumption)
  · rw [Nat.mod_eq_sub_mod (by omega)]
    split
    · exact Nat.mod_eq_of_lt (by omega)
    · rw [Nat.mod_eq_sub_mod (by omega), Nat.mod_eq_of_lt (by omega)]

theorem reflect_eq_iff {m k i j : Nat} (hk : k < m) (hi : i < m) (hj : j < m) :
    reflect m k i = j ↔ 2 * k = i + j ∨ 2 * k = i + j + m ∨ 2 * k + m = i + j := by
  rw [reflect, mod_of_lt_three_mul (by omega)]
  split
  · omega
  · split <;> omega

/-- The reflected index is the one the rule's signed formula gives. -/
theorem reflect_eq_toNat {m i : Nat} (hi : i < m) (k : Nat) :
    reflect m k i = ((2 * (k : Int) - (i : Int)) % (m : Int)).toNat := by
  have hcast : ((2 * k + m - i : Nat) : Int) = 2 * (k : Int) - i + m := by omega
  rw [reflect, ← Int.add_emod_right, ← hcast, ← Int.natCast_emod, Int.toNat_natCast]

/-! ### The partner index -/

theorem partnerIndex_of_lt {n i : Nat} (hi : i < roundCount n) (r : Nat) :
    partnerIndex n i r =
      if reflect (roundCount n) (r % roundCount n) i = i then roundCount n
      else reflect (roundCount n) (r % roundCount n) i :=
  if_pos hi

theorem partnerIndex_last (n r : Nat) : partnerIndex n (roundCount n) r = r % roundCount n :=
  if_neg (Nat.lt_irrefl (roundCount n))

theorem partnerIndex_le {n i : Nat} (hi : i < n) (r : Nat) : partnerIndex n i r ≤ roundCount n := by
  have hm : 0 < roundCount n := roundCount_pos (by omega)
  rcases Nat.lt_or_eq_of_le (le_roundCount hi) with hlt | rfl
  · rw [partnerIndex_of_lt hlt]
    split
    · exact Nat.le_refl _
    · exact Nat.le_of_lt (reflect_lt hm _ i)
  · rw [partnerIndex_last]
    exact Nat.le_of_lt (Nat.mod_lt r hm)

theorem partnerIndex_ne {n i : Nat} (hi : i < n) (r : Nat) : partnerIndex n i r ≠ i := by
  rcases Nat.lt_or_eq_of_le (le_roundCount hi) with hlt | rfl
  · rw [partnerIndex_of_lt hlt]
    split
    · exact Nat.ne_of_gt hlt
    · assumption
  · rw [partnerIndex_last]
    exact Nat.ne_of_lt (Nat.mod_lt r (roundCount_pos (by omega)))

/-! ### The meeting of a pair -/

/-- What the double of a round is, modulo `m`, where `i` and `j` meet in it: i + j, with the last index standing for the other
one. -/
def meetingSum (m i j : Nat) : Nat := (if i = m then j else i) + (if j = m then i else j)

theorem meetingSum_comm (m i j : Nat) : meetingSum m i j = meetingSum m j i := Nat.add_comm _ _

theorem meetingSum_of_lt {m i j : Nat} (hi : i < m) (hj : j < m) : meetingSum m i j = i + j := by
  rw [meetingSum, if_neg (Nat.ne_of_lt hi), if_neg (Nat.ne_of_lt hj)]

theorem meetingSum_last {m i : Nat} (hi : i < m) : meetingSum m i m = i + i := by
  rw [meetingSum, if_neg (Nat.ne_of_lt hi), if_pos rfl]

theorem meetingSum_lt {m i j : Nat} (hi : i ≤ m) (hj : j ≤ m) (hij : i ≠ j) : meetingSum m i j < 2 * m := by
  unfold meetingSum
  split <;> split <;> omega

/-- The indices `i` and `j` meet in round `k`: 2k is their meeting sum modulo `m`, where 2k and the sum are both less than 2m. -/
def MeetIn (m k i j : Nat) : Prop :=
  2 * k = meetingSum m i j ∨ 2 * k = meetingSum m i j + m ∨ 2 * k + m = meetingSum m i j

theorem meetIn_comm {m k i j : Nat} : MeetIn m k i j ↔ MeetIn m k j i := by
  rw [MeetIn, meetingSum_comm, MeetIn]

theorem meetIn_of_lt_iff {m k i j : Nat} (hk : k < m) (hi : i < m) (hj : j < m) : MeetIn m k i j ↔ reflect m k i = j := by
  rw [MeetIn, meetingSum_of_lt hi hj, reflect_eq_iff hk hi hj]

theorem meetIn_last_iff {m k i : Nat} (hm : m % 2 = 1) (hk : k < m) (hi : i < m) : MeetIn m k i m ↔ k = i := by
  rw [MeetIn, meetingSum_last hi]
  omega

/-- A number has one half modulo an odd number: the round in which a pair meets is unique. -/
theorem MeetIn.unique {m k k' i j : Nat} (hm : m % 2 = 1) (hk : k < m) (hk' : k' < m) (h : MeetIn m k i j)
    (h' : MeetIn m k' i j) : k' = k := by
  unfold MeetIn at h h'
  omega

/-- The half of the meeting sum, of the sum and m, or of the sum less m, is a round. -/
theorem exists_lt_meetIn {m i j : Nat} (hm : m % 2 = 1) (hi : i ≤ m) (hj : j ≤ m) (hij : i ≠ j) :
    ∃ k, k < m ∧ MeetIn m k i j := by
  have hsum := meetingSum_lt hi hj hij
  unfold MeetIn
  by_cases heven : meetingSum m i j % 2 = 0
  · exact ⟨meetingSum m i j / 2, by omega⟩
  · by_cases hlt : meetingSum m i j < m
    · exact ⟨(meetingSum m i j + m) / 2, by omega⟩
    · exact ⟨(meetingSum m i j - m) / 2, by omega⟩

/-- The rule as a relation that is the same for the pair's two members (12 R320). -/
theorem partnerIndex_eq_iff {n i j : Nat} (hn : 0 < n) (hi : i ≤ roundCount n) (hj : j ≤ roundCount n) (hij : i ≠ j)
    (r : Nat) : partnerIndex n i r = j ↔ MeetIn (roundCount n) (r % roundCount n) i j := by
  have hodd := roundCount_odd hn
  have hk : r % roundCount n < roundCount n := Nat.mod_lt r (roundCount_pos hn)
  rcases Nat.lt_or_eq_of_le hi with hi | rfl
  · rw [partnerIndex_of_lt hi]
    rcases Nat.lt_or_eq_of_le hj with hj | rfl
    · rw [meetIn_of_lt_iff hk hi hj]
      split <;> omega
    · rw [MeetIn, meetingSum_last hi, ← reflect_eq_iff hk hi hi]
      have hlt := reflect_lt (roundCount_pos hn) (r % roundCount n) i
      split <;> omega
  · rw [partnerIndex_last, meetIn_comm, meetIn_last_iff hodd hk (Nat.lt_of_le_of_ne hj hij.symm)]

theorem partnerIndex_partnerIndex {n i : Nat} (hi : i < n) (r : Nat) : partnerIndex n (partnerIndex n i r) r = i := by
  have hn : 0 < n := by omega
  have hne := partnerIndex_ne hi r
  rw [partnerIndex_eq_iff hn (partnerIndex_le hi r) (le_roundCount hi) hne, meetIn_comm,
    ← partnerIndex_eq_iff hn (le_roundCount hi) (partnerIndex_le hi r) hne.symm]

theorem exists_only_round_partnerIndex_eq {n i j : Nat} (hi : i < n) (hj : j < n) (hij : i ≠ j) :
    ∃ k, k < roundCount n ∧ partnerIndex n i k = j ∧ ∀ k', k' < roundCount n → partnerIndex n i k' = j → k' = k := by
  have hn : 0 < n := by omega
  have hodd := roundCount_odd hn
  have hmeet {k : Nat} (hk : k < roundCount n) : partnerIndex n i k = j ↔ MeetIn (roundCount n) k i j := by
    rw [partnerIndex_eq_iff hn (le_roundCount hi) (le_roundCount hj) hij, Nat.mod_eq_of_lt hk]
  obtain ⟨k, hk, h⟩ := exists_lt_meetIn hodd (le_roundCount hi) (le_roundCount hj) hij
  exact ⟨k, hk, (hmeet hk).mpr h, fun k' hk' h' => MeetIn.unique hodd hk hk' h ((hmeet hk').mp h')⟩

/-! ### The partner site -/

/-- An ascending list is given by its members. -/
theorem eq_of_ascending {l l' : List Nat} (hl : l.Pairwise (· < ·)) (hl' : l'.Pairwise (· < ·))
    (hmem : ∀ a, a ∈ l ↔ a ∈ l') : l = l' := by
  have hperm : l.Perm l' := (List.perm_ext_iff_of_nodup (hl.imp Nat.ne_of_lt) (hl'.imp Nat.ne_of_lt)).mpr hmem
  exact hperm.eq_of_pairwise (fun _ _ _ _ h h' => absurd h (Nat.lt_asymm h')) hl hl'

/-- The members are the only ascending list of the sites of LUL_MEMB. -/
theorem Dev.members12_eq {d : Dev} {sites : List Nat} (hs : sites.Pairwise (· < ·))
    (hmem : ∀ a, a ∈ sites ↔ a < 64 ∧ d.rbit .lulMemb a = true) : d.members12 = sites :=
  eq_of_ascending (List.pairwise_lt_range.filter _) hs fun a => by
    rw [hmem, Dev.members12, List.mem_filter, List.mem_range, Dev.isMember]

theorem Dev.partnerOf_of_not_mem {d : Dev} (h : d.mySite ∉ d.members12) (r : Nat) : d.partnerOf r = none := by
  have hfind : d.members12.findIdx? (· = d.mySite) = none := by
    rw [List.findIdx?_eq_none_iff]
    intro a ha
    exact decide_eq_false fun he => h (he ▸ ha)
  simp only [Dev.partnerOf, hfind]

theorem Dev.partnerOf_of_getElem {d : Dev} {i : Nat} (hs : d.members12.Pairwise (· < ·)) (hi : i < d.members12.length)
    (h : d.members12[i] = d.mySite) (r : Nat) :
    d.partnerOf r = some d.members12[partnerIndex d.members12.length i r]? := by
  have hfind : d.members12.findIdx? (· = d.mySite) = some i := by
    rw [List.findIdx?_eq_some_iff_getElem]
    refine ⟨hi, decide_eq_true h, fun a ha hfound => ?_⟩
    have hlt := List.pairwise_iff_getElem.mp hs a i (Nat.lt_trans ha hi) hi ha
    exact Nat.ne_of_lt hlt ((of_decide_eq_true hfound).trans h.symm)
  simp only [Dev.partnerOf, hfind]

/-- The site that LUL_MEMB and R320 give this one in round `r`, and none for one that is no member. -/
theorem partnerOf_sites (d : Dev) (r : Nat) (sites : List Nat) (hs : sites.Pairwise (· < ·))
    (hmem : ∀ a, a ∈ sites ↔ a < 64 ∧ d.rbit .lulMemb a = true) :
    (d.mySite ∉ sites → d.partnerOf r = none) ∧
    ∀ i (h : i < sites.length), sites[i] = d.mySite →
      (∀ p (hp : p < sites.length), p = partnerIndex sites.length i r → d.partnerOf r = some (some sites[p])) ∧
      (sites.length ≤ partnerIndex sites.length i r → d.partnerOf r = some none) := by
  obtain rfl := Dev.members12_eq hs hmem
  refine ⟨fun h => Dev.partnerOf_of_not_mem h r, fun i hi h => ⟨?_, fun hbye => ?_⟩⟩
  · rintro p hp rfl
    rw [Dev.partnerOf_of_getElem hs hi h, List.getElem?_eq_getElem hp]
  · rw [Dev.partnerOf_of_getElem hs hi h, List.getElem?_eq_none hbye]

/-- The rule of R320 as it is written, with its signed remainder. -/
theorem partnerIndex_formula (n i r : Nat) :
    (i < roundCount n → partnerIndex n i r =
      if ((2 * ((r % roundCount n : Nat) : Int) - (i : Int)) % (roundCount n : Int)).toNat ≠ i
      then ((2 * ((r % roundCount n : Nat) : Int) - (i : Int)) % (roundCount n : Int)).toNat else roundCount n) ∧
    (i = roundCount n → partnerIndex n i r = r % roundCount n) := by
  constructor
  · intro hi
    rw [partnerIndex_of_lt hi, reflect_eq_toNat hi, ite_not]
  · rintro rfl
    exact partnerIndex_last n r

/-- Settles O45: the partner index by the meeting sum of a pair, which is symmetric in the pair and has one half among the
rounds, since their number is odd. -/
theorem everyPairMeetsOnce : Obligations.EveryPairMeetsOnce := by
  refine ⟨partnerOf_sites, fun n i _ hi => ⟨partnerIndex_formula n i, fun r => ?_, fun j hj hji => ?_⟩⟩
  · exact ⟨partnerIndex_ne hi r, partnerIndex_le hi r, fun _ => partnerIndex_partnerIndex hi r⟩
  · exact exists_only_round_partnerIndex_eq hi hj hji.symm

end Sys2Proof.Machine
end
